-- ==== Sys2Proof/Word.lean ====
section
/-! DEFINITION. Sys2Proof/Word.lean: the word types of the block and their plainest readings.
Rule R14 (bit 0 is the least significant bit) and R15 (little-endian bytes) of spec/00_scope.md. -/
namespace Sys2Proof

/-- A 32-bit register or data word (R16 of 00_scope.md). -/
abbrev Word := BitVec 32

/-- A byte. -/
abbrev Byte := BitVec 8

/-- A position in the format s48.16: signed count in bits [63:16], fraction in bits [15:0] (00_scope.md, Positions). -/
abbrev Pos := BitVec 64

/-- Bits `[hi:lo]` of a natural number. -/
def bitsOf (n hi lo : Nat) : Nat := (n >>> lo) % 2 ^ (hi + 1 - lo)

/-- Bits `[hi:lo]` of a word, as a natural number. -/
def Word.bits (w : Word) (hi lo : Nat) : Nat := bitsOf w.toNat hi lo

/-- Bit `i` of a word. -/
def Word.bit (w : Word) (i : Nat) : Bool := w.getLsbD i

/-- The word with value `n`, modulo 2^32. -/
def word (n : Nat) : Word := BitVec.ofNat 32 n

/-- A word with only bit `i` set when `b` holds. -/
def Word.flag (b : Bool) (i : Nat) : Word := if b then BitVec.ofNat 32 (2 ^ i) else 0#32

/-- A sparse map from numbers to values: pairs with strictly rising keys, in which no pair holds the value that an
unlisted key reads as (log 11). Equal contents are then equal lists. -/
abbrev SMap (α : Type) := List (Nat × α)

end Sys2Proof
end

