-- ==== Sys2Proof/Syntax.lean ====
section
/-! DEFINITION. Sys2Proof/Syntax.lean: the commands of the block, one constructor per row of
spec/opcode_table.json, and the types of their operands. -/
namespace Sys2Proof

/-- A layer of the on-chip network (R223 of 11_noc.md). -/
inductive Layer where
  | d
  | c
  deriving DecidableEq, Repr

/-- The path on which a register access reaches the device (R18, R19 of 00_scope.md; R373, R393 of
18_management_observation.md). -/
inductive Path where
  /-- The management port. -/
  | mgmt
  /-- The JTAG instruction MGTACC. -/
  | jtag
  /-- In-band management on MAC channel `ch`. -/
  | inband (ch : Fin 32)
  /-- Conductor `c`. -/
  | cond (c : Fin 8)
  /-- An incoming Shaga request, delivered by NI 34 or 35. -/
  | shaga
  /-- Window `k` (R375). -/
  | window (k : Fin 8)
  /-- The loader, writing CFG records. -/
  | loader
  /-- A packet of the on-chip network from NI `n` (R226). -/
  | ni (n : Fin 48)
  deriving DecidableEq, Repr

/-- A packet of the on-chip network (R225): its layer, its 64-bit header (Table NC-2) and the payload of each
flit (the low 64 bits on the C-layer). -/
structure Packet where
  lay  : Layer
  hdr  : BitVec 64
  body : List (BitVec 512)
  deriving DecidableEq, Repr

/-- The commands and events of the block: one constructor per row of the table. -/
inductive Instr where
  /-- REGISTER_WRITE (R18): A write to a register that has no row of its own is performed, ignored or answered with an error response according to its address, width and field types. -/
  | registerWrite (p : Path) (addr : Word) (size : Nat) (data : Word)
  /-- RC_READ (R17): A read of an RC register returns its value and clears it, keeping any hardware update made in the same cycle. -/
  | rcRead (p : Path) (addr : Word) (size : Nat)
  /-- TIMING_PIN_EDGE (R40): A synchronised timing-pin level that passes the glitch filter is accepted as an edge and presented to the axes. -/
  | timingPinEdge (mask lvl : BitVec 64) (run : Nat)
  /-- AXIS_STALL (R50): When e reaches the stall limit the axis reports MOVING = 0, keeps its position and forgets its interval and period. -/
  | axisStall (n : Fin 16)
  /-- LOAD (R54): AXn_CMD.LOAD makes the axis position equal to SET, reduced on a modulo axis, and sets JUMP. -/
  | axisLoad (n : Fin 16)
  /-- ADD (R54): AXn_CMD.ADD adds SET to the axis position, counting wraps into AXn_REV, and sets JUMP. -/
  | axisAdd (n : Fin 16)
  /-- REV_CLR (R56): AXn_CMD.REV_CLR sets AXn_REV to zero. -/
  | revClr (n : Fin 16)
  /-- ARM_IDX (R52): AXn_CMD.ARM_IDX arms the index load of IDX_MODE 2. -/
  | armIdx (n : Fin 16)
  /-- AXIS_CFG_WRITE (R39): A write of AXn_CFG changes settings, ignores locked fields while EN = 1, and on enabling starts the axis with its position kept and e at the stall limit. -/
  | axisCfgWrite (n : Fin 16) (data : Word)
  /-- AXIS_RATE_WRITE (R59): A write of AXn_RATE clamps the trim and sets RATE_BUSY while the new time-axis step is computed. -/
  | axisRateWrite (n : Fin 16) (data : Word)
  /-- RATE_APPLY (R59): At most 64 EKL cycles after the rate write the new STEP replaces the old one and RATE_BUSY clears. -/
  | rateApply (n : Fin 16)
  /-- AXIS_POS_LO_READ (R63): A read of AXn_POS_LO returns the current position low half and latches the high half for AXn_POS_HI. -/
  | axisPosLoRead (n : Fin 16)
  /-- AXIS_LOST (R62): When three consecutive beacons fail, a remote axis stops, sets LOST, clears MOVING and sends AXIS_LOST. -/
  | axisLost (n : Fin 16)
  /-- ENTRY_CROSSING (R68): In an EKL cycle an armed schedule entry whose position is crossed, or found missed, fires, fires late or is skipped. -/
  | entryCrossing (i : Fin 4096)
  /-- PULSE_END (R74): When the pulse timer of a pin expires the pin returns to its idle level. -/
  | pulseEnd (pin : Fin 64)
  /-- EASEL_TOKEN_SEND (R81): The Easel token FIFO sends its oldest token on TC0 once the bucket conforms and Dispatcher channel 4 holds credit. -/
  | easelTokenSend
  /-- STAGE_WRITE (R86): Staging operation WRITE copies the staging words into a schedule entry, armed and fresh or disarmed. -/
  | stageWrite (k : Fin 8) (idx : Fin 4096)
  /-- STAGE_READ (R86): Staging operation READ copies a schedule entry into the staging words. -/
  | stageRead (k : Fin 8) (idx : Fin 4096)
  /-- STAGE_ARM (R86): Staging operation ARM sets ARM of an entry and makes it fresh. -/
  | stageArm (k : Fin 8) (idx : Fin 4096)
  /-- STAGE_DISARM (R86): Staging operation DISARM clears ARM of an entry. -/
  | stageDisarm (k : Fin 8) (idx : Fin 4096)
  /-- RSTEP_HI_WRITE (R87): A write of EAS_RSTEPj_HI applies it together with the latched low half as recurrence step j. -/
  | rstepHiWrite (j : Fin 64) (data : Word)
  /-- PCMD_HI_WRITE (R87): A write of EAS_PCMDi_HI applies it together with the latched low half as stored Palette command i. -/
  | pcmdHiWrite (i : Fin 512) (data : Word)
  /-- SCHED_EN_WRITE (R427): A write of EAS_CTRL.SCHED_EN starts compares with every armed entry fresh, or stops them. -/
  | schedEnWrite (en : Bool)
  /-- SAFE_WRITE (R78): A write of EAS_CTRL.SAFE makes output timing pins present the OTP safe profile or drive their internal level again. -/
  | safeWrite (on : Bool)
  /-- TP_CFG_WRITE (R427): A write of TPn_CFG changes direction, filter and output configuration, starting an output at its idle level. -/
  | tpCfgWrite (n : Fin 64) (data : Word)
  /-- FIRING (R93): In a CCLK cycle a tile whose required inputs, credits and memory slots allow performs one normal firing under its active context. -/
  | firing (t : Fin 4096)
  /-- PBX_CLOSE (R140): A write of TILE_PBX.CLOSE closes the Panel block two cycles later. -/
  | pbxClose (t : Fin 4096)
  /-- MARKER_FIRING (R108): When every required input holds a marker and credits allow, the tile consumes the markers and forwards or absorbs one. -/
  | markerFiring (t : Fin 4096)
  /-- TOKEN_PATH_ACCEPT (R109): The quadrant token path takes one token from a tile's token register round-robin when the Dispatcher grants credit. -/
  | tokenPathAccept (q : Fin 4)
  /-- WRITE_BACK (R111): A corrected tile-memory word is written back in a slot left free by the tile's ports. -/
  | writeBack (t : Fin 4096)
  /-- FORCED_WRITE_BACK (R111): After 16 cycles without a free slot a corrected word is written back in the next firing cycle, stalling the tile. -/
  | forcedWriteBack (t : Fin 4096)
  /-- AG_CFG_WRITE (R115): A write of AGn_CFG stages BASE and LEN and sets OFF at once. -/
  | agCfgWrite (t : Fin 4096) (k : Fin 4) (data : Word)
  /-- APPLY (R115): AGn_STG.APPLY applies the staged geometry at once and sets P to 0. -/
  | applyStg (t : Fin 4096) (k : Fin 4)
  /-- HOLD (R116): TILE_CTRL.HOLD stops or resumes firing of the tile. -/
  | tileHold (t : Fin 4096) (on : Bool)
  /-- FIRE_ONE (R116): TILE_CTRL.FIRE_ONE lets a held tile perform one firing when its rule allows. -/
  | fireOne (t : Fin 4096)
  /-- ACCHI_WRITE (R136): A write of TILE_ACCHI sets ACC[63:32] and clears the hold, poison and TILE_MSTEP. -/
  | acchiWrite (t : Fin 4096) (data : Word)
  /-- JOINT_PASS (R124): An enrolled joint holding a word passes its head onto the next segment when the driver holds credit. -/
  | jointPass (t : Fin 4096) (j : Fin 8)
  /-- CTX_EVEN_WRITE (R153): A write of an even context word is held in the tile's write latch, first performing any pending half as a partial write. -/
  | ctxEvenWrite (t : Fin 4096) (slot v : Fin 8) (data : Word)
  /-- CTX_ODD_WRITE (R153): A write of an odd context word completes a full protected-word write with the latched half, or performs a partial write. -/
  | ctxOddWrite (t : Fin 4096) (slot v : Fin 8) (data : Word)
  /-- CTX_READ (R155): A register read of a context word returns the stored half, correcting and writing back, or returns an error on an uncorrectable word. -/
  | ctxRead (t : Fin 4096) (slot : Fin 8) (w : Fin 16)
  /-- PAL_CMD_HI_WRITE (R164): A write of PAL_CMD_HI places the latched command in the register-command queue, waiting when full. -/
  | palCmdHiWrite (data : Word)
  /-- REGISTER_COMMAND_DELIVERY (R164): The Palette delivers the oldest queued register command to the tree, discarding it while the loader holds the Canvas. -/
  | registerCommandDelivery
  /-- IMMEDIATE (R166): An IMMEDIATE command passes the tree and makes each tile in scope enter SLOT in cycle k+3. -/
  | immediateCmd
  /-- EVENT (R166): An EVENT command enters the pending table to be released by a firing of entry EIDX. -/
  | eventCmd
  /-- MARKER (R166): A MARKER command arms itself in each tile in scope, replacing any earlier arm. -/
  | markerCmd
  /-- CANCEL (R166): A CANCEL command clears the armed command of each tile in scope. -/
  | cancelCmd
  /-- PAL_PEND_CLR (R167): A write of PAL_PEND_CLR empties pending entries without delivering them. -/
  | palPendClr (mask : BitVec 16)
  /-- PAL_GROUP_HI_WRITE (R427): A write of PAL_GROUPg_HI applies the Panel mask of group g with the latched low half. -/
  | palGroupHiWrite (g : Fin 16) (data : Word)
  /-- SPG_MODE_WRITE (R178): A write of SPG_GCFG.MODE changes the lane group mode, refused while channels are enabled or for Shaga modes without the engine. -/
  | spgModeWrite (g : Fin 4) (data : Word)
  /-- LINK_UP (R181): After AN and training every lane of a channel shows LINK and the channel sets CHk_STAT.LINK. -/
  | linkUp (ch : Fin 32) (abil : BitVec 3)
  /-- LINKDOWN (R181): A lane that loses alignment takes its channel down and sets LINKDOWN. -/
  | linkdown (lane : Fin 32)
  /-- RECEIVED_FRAME (R183): A channel receives a frame, checks it and admits it to its ingress buffer or discards it. -/
  | receivedFrame (ch : Fin 32) (bytes : List Byte)
  /-- PFC_REPEAT (R185): While occupancy stays above XON the PFC frame is repeated every QUANTA/2 quanta. -/
  | pfcRepeat (ch : Fin 32)
  /-- PAUSE (R180): A received Clause 31 PAUSE frame is counted and discarded without effect. -/
  | pauseFrame (ch : Fin 32) (bytes : List Byte)
  /-- PFC (R200): A received PFC frame holds back egress streams of its priorities for the received quanta. -/
  | pfcFrame (ch : Fin 32) (bytes : List Byte)
  /-- PFC_HOLD_END (R200): When the received pause quanta expire, held egress streams may start frames again. -/
  | pfcHoldEnd (ch : Fin 32) (prio : Fin 8)
  /-- CLASSIFICATION (R187): Once enough bytes have arrived the rules are tested and the frame is assigned a stream or discarded. -/
  | classification (ch : Fin 32)
  /-- STREAM_ROW (R190): A row of a frame is sent on all ports of its stripe in a cycle when every port holds credit. -/
  | streamRow (src : Fin 33)
  /-- MARKER_INSERT (R191): A queued Easel marker enters its stream between rows on every port of the stripe. -/
  | markerInsert (sid : Fin 1024)
  /-- STREAM_ENTRY_WRITE (R189): A write of a stream entry takes effect at the next frame, or is refused if it breaks the port rules. -/
  | streamEntryWrite (egress : Bool) (sid : Fin 1024) (w : Fin 2) (data : Word)
  /-- EGRESS_ROW (R196): The edge exchange takes an egress row when every port of the stripe holds a non-marker word. -/
  | egressRow (e : Fin 64)
  /-- FRAME_TX_START (R199): An egress frame starts on the wire when complete or when START bytes are buffered. -/
  | frameTxStart (ch : Fin 32)
  /-- TX_UNDER (R199): A started frame whose buffer runs empty is ended with a complemented FCS. -/
  | txUnder (ch : Fin 32)
  /-- TS_INFO_READ (R202): A read of CHk_RXTS_INFO or CHk_TXTS_INFO removes one FIFO entry and latches its _LO and _HI. -/
  | tsInfoRead (ch : Fin 32) (tx : Bool)
  /-- COUNTER_LO_READ (R202): A read of a 64-bit counter's _LO register latches its _HI register. -/
  | counterLoRead (addr : Word)
  /-- STACK_TRAINING_DONE (R204): Training of a stack completes, passing or failing, and zero initialisation begins. -/
  | stackTrainingDone (st : Fin 2) (ok : Bool)
  /-- ZDONE (R204): Zero initialisation of a stack completes and stacked-memory accesses may proceed. -/
  | zdone (st : Fin 2)
  /-- SECTOR_CLEAR (R206): A write of MEM_SCLR_HI zeroes the named sector with valid check symbols. -/
  | sectorClear (data : Word)
  /-- PPR_GO (R207): MEMs_PPR_CMD.GO starts a soft or hard post-package repair of the addressed row. -/
  | pprGo (st : Fin 2) (hard : Bool)
  /-- PPR_DONE (R207): A repair ends, clearing BUSY and setting DONE or FAIL and NOSPARE. -/
  | pprDone (st : Fin 2) (spare : Bool)
  /-- STACK_POWER_REQUEST (R208): A write of MEMs_PWR changes a fenced stack's power state, or is refused while unfenced. -/
  | stackPowerRequest (st : Fin 2) (data : Word)
  /-- STACK_THERMAL (R209): A stack crossing 85 °C or 95 °C doubles refresh or throttles bandwidth, and clears 3 °C below. -/
  | stackThermal (st : Fin 2) (temp : BitVec 8)
  /-- DESCRIPTOR_WRITE (R211): A write of a table descriptor word is performed or refused under the validity and generation rules. -/
  | descriptorWrite (t : Fin 64) (w : Fin 16) (data : Word)
  /-- TABLE_REQUEST (R216): A table port collects a request and the engine computes a direct, position or cuckoo index. -/
  | tableRequest (port : Fin 64)
  /-- TABLE_RESPONSE (R217): The engine returns the response header and entry words for an accepted request. -/
  | tableResponse (port : Fin 64)
  /-- TABLE_SWAP (R220): A swap received by the table engine exchanges active and standby generations, or is counted if not allowed. -/
  | tableSwap
  /-- TBL_SWAP (R220): A write of TBL_SWAP swaps the named table in the cycle it reaches the engine. -/
  | tblSwap (t : Fin 64)
  /-- APERTURE_WRITE (R221): A table-aperture write opens, extends or commits an entry collection, or is refused. -/
  | apertureWrite (ini : Path) (addr : BitVec 48) (data : Word)
  /-- COLLECTION_TIMEOUT (R221): An aperture collection with no append for 10 µs is discarded. -/
  | collectionTimeout (ini : Path)
  /-- INJECT (R233): An NI injects a packet when its class bucket allows, conforming or marked CONF = 0. -/
  | inject (n dst : Fin 48) (pk : Packet) (elapsed : Nat)
  /-- ROUTER_FORWARD (R228): A router forwards a flit by its hop code, shifting the route, under class arbitration. -/
  | routerForward (lay : Layer) (r : Fin 24) (out : Fin 8)
  /-- RD (R226): A C-layer RD request reaches its target and is answered. -/
  | nocRd (n : Fin 48)
  /-- WR (R226): A C-layer WR request reaches its target and is answered. -/
  | nocWr (n : Fin 48)
  /-- WRP (R226): A posted C-layer write reaches its target without a response. -/
  | nocWrp (n : Fin 48)
  /-- RSP (R227): A response reaches the initiator's NI and is matched by TAG or counted as stray. -/
  | nocRsp (n : Fin 48)
  /-- LRD (R226): A D-layer line read request reaches its target. -/
  | lrd (n : Fin 48)
  /-- LWR (R226): A D-layer line write request reaches its target. -/
  | lwr (n : Fin 48)
  /-- LWRP (R226): A posted D-layer line write reaches its target. -/
  | lwrp (n : Fin 48)
  /-- LRSP (R226): A D-layer line-data response reaches the initiator. -/
  | lrsp (n : Fin 48)
  /-- LACK (R226): A D-layer write acknowledgement reaches the initiator. -/
  | lack (n : Fin 48)
  /-- REQUEST_TIMEOUT (R227): A request with no response within 10 µs is answered TIMEOUT by the initiator's NI. -/
  | requestTimeout (n : Fin 48) (tag : BitVec 6)
  /-- ROUTE_WRITE (R230): A write of NIn_RTe_HI applies the route entry if legal, otherwise is refused. -/
  | routeWrite (n : Fin 48) (e : Fin 64) (data : Word)
  /-- GUARANTEE_BREACH (R234): A flit waiting beyond its class limit counts a breach and a GUARANTEE_BREACH report may be sent. -/
  | guaranteeBreach (n : Fin 48) (cls : Fin 4)
  /-- STATS_CLR (R235): NIn_SCTL.CLR clears all NI statistics together. -/
  | statsClr (n : Fin 48)
  /-- FENCE_REQ (R236): Setting a NOC_FREQ bit fences the domain's NIs and starts its drain. -/
  | fenceReq (d : Fin 11)
  /-- FENCE_ACK (R236): When the domain has drained, DRAINED and the NOC_FACK bit are set. -/
  | fenceAck (d : Fin 11)
  /-- FENCE_RELEASE (R236): Clearing a NOC_FREQ bit ends the fence and the NIs accept requests again. -/
  | fenceRelease (d : Fin 11)
  /-- ROUTER_APPLY (R238): _CMD.APPLY starts a router quiesce that withholds credits. -/
  | routerApply (lay : Layer) (r : Fin 24)
  /-- QUIESCE_DONE (R238): When in-flight packets have passed, the router copies _STG to _CFG and grants credits again. -/
  | quiesceDone (lay : Layer) (r : Fin 24)
  /-- ROUTER_FAULT (R239): A quiesce unfinished after 10 µs discards buffered packets, answers ROUTE_FAIL and reports ROUTER_FAULT. -/
  | routerFault (lay : Layer) (r : Fin 24)
  /-- TRAIN_DONE (R242): Link training and alignment complete and the link enters IDENT. -/
  | trainDone (l : Fin 32)
  /-- IDENT (R242): A received IDENT cell identifies the peer, or a duplicate ID sets DIDCONF. -/
  | ident (l : Fin 32) (did : BitVec 14) (code : BitVec 5) (auth : BitVec 2)
  /-- LINK_RETRAIN (R242): One second after a conflict or authentication failure the link restarts training or exchange. -/
  | linkRetrain (l : Fin 32)
  /-- LINK_DOWN (R242): A link drops to TRAIN on lost alignment, FEC loss, disable or fence, counting and reporting LINK_DOWN. -/
  | linkDown (l : Fin 32)
  /-- LCTL_TIMEOUT (R242): 100 µs without a received LCTL cell drops the link. -/
  | lctlTimeout (l : Fin 32)
  /-- CREDIT (R243): A received LCTL CREDIT cell returns flit credits per class to the transmitter. -/
  | credit (l : Fin 32) (c0 c1 c2 c3 : Byte)
  /-- CREDIT_SEND (R242): Each link end sends a CREDIT cell at least every 10 µs. -/
  | creditSend (l : Fin 32)
  /-- FLIT_CELL (R246): A received flit cell is delivered locally, forwarded on its next hop, or discarded. -/
  | flitCell (l : Fin 32) (hdr : BitVec 128) (body : BitVec 576)
  /-- REMOTE_ORIGINATE (R247): The engine sends a request leaving the device with the route of its destination entry, or answers ROUTE_FAIL. -/
  | remoteOriginate
  /-- SDAT (R252): A tunnel SDAT packet is assembled into a frame delivered to an ingress stream, or the frame is discarded. -/
  | sdat (src : BitVec 14) (payload : List Byte) (pmask : Byte)
  /-- DREQ_SEND (R253): Each link end sends a DREQ once per delay period. -/
  | dreqSend (l : Fin 32) (t1 : BitVec 64)
  /-- DREQ (R253): A received DREQ is answered with a DRSP. -/
  | dreq (l : Fin 32) (t1 : BitVec 64) (seq : Byte) (t2 t3 : BitVec 64)
  /-- DRSP (R253): A received DRSP updates the round trip and one-way delay of the link. -/
  | drsp (l : Fin 32) (t1 t2 t3 : BitVec 64) (seq : Byte) (t4 : BitVec 64)
  /-- BEACON_SEND (R254): Each link sends a beacon for each exported axis once per 1.024 µs. -/
  | beaconSend (l : Fin 32) (n : Fin 16)
  /-- BEACON (R255): An accepted beacon sets a remote axis position and velocity, possibly as a jump and ending LOST. -/
  | beacon (l : Fin 32) (body : BitVec 576) (ta : BitVec 64)
  /-- SKETCH_CELL (R257): A SKETCH cell with a new SEQ is stored, forwarded, and arms the system latch. -/
  | sketchCell (l : Fin 32) (body : BitVec 576)
  /-- SYSTEM_LATCH (R257): The armed system latch raises the common Sketch trigger when the named axis crosses TPOS. -/
  | systemLatch
  /-- SKLATE (R257): An armed system latch without crossing after 1 ms raises the trigger and sets SKLATE. -/
  | sklate
  /-- AUTH (R258): A received AUTH cell advances the link authentication exchange, accepting or failing the peer. -/
  | auth (l : Fin 32) (body : BitVec 576)
  /-- FOLD_SEND (R259): A folding entry is sent as one report HOLD µs after it was taken. -/
  | foldSend (i : Fin 64)
  /-- RTCMD_WRITE (R247): SHG_RTCMD operation 1 writes route entry IDX from SHG_RTW0–2. -/
  | rtcmdWrite
  /-- RTCMD_READ (R247): SHG_RTCMD operation 2 reads route entry IDX into SHG_RTW0–2. -/
  | rtcmdRead
  /-- NOP (R267): NOP does nothing. -/
  | nopOp (c : Fin 8)
  /-- DONE (R281): DONE ends the run of the active bank and releases the core to the Dispatcher. -/
  | doneOp (c : Fin 8)
  /-- POST (R272): POST sends a token to the Dispatcher, stalling while the token FIFO is full. -/
  | post (c : Fin 8)
  /-- SYNC (R271): SYNC waits until the store buffer is empty and raises BUSERR after a failed store. -/
  | sync (c : Fin 8)
  /-- RTT (R283): RTT returns from b0 to the trapping bank at tpc. -/
  | rtt (c : Fin 8)
  /-- RTTN (R283): RTTN returns from b0 to the trapping bank at tpc + 4. -/
  | rttn (c : Fin 8)
  /-- MFS (R266): MFS reads a special register into a g register. -/
  | mfs (c : Fin 8)
  /-- MTS (R266): MTS writes a g register into a special register. -/
  | mts (c : Fin 8)
  /-- BKRD (R283): BKRD in b0 reads a register of another bank. -/
  | bkrd (c : Fin 8)
  /-- BKWR (R283): BKWR in b0 writes a register of another bank. -/
  | bkwr (c : Fin 8)
  /-- SAVEL (R285): SAVEL saves g0–g7, pc and sr into the next save-list node. -/
  | savel (c : Fin 8)
  /-- SAVEU (R285): SAVEU saves g8–g15 into the next save-list node. -/
  | saveu (c : Fin 8)
  /-- RESTL (R285): RESTL restores g0–g7 and sr from the head node and unlinks it. -/
  | restl (c : Fin 8)
  /-- RESTLJ (R285): RESTLJ restores as RESTL and jumps to the saved pc. -/
  | restlj (c : Fin 8)
  /-- RESTU (R285): RESTU restores g8–g15 from the head node and unlinks it. -/
  | restu (c : Fin 8)
  /-- ADD_OP (R268): ALU function ADD adds two registers and sets flags. -/
  | addOp (c : Fin 8)
  /-- ADDC (R268): ALU function ADDC adds with carry. -/
  | addc (c : Fin 8)
  /-- SUB (R268): ALU function SUB subtracts. -/
  | subOp (c : Fin 8)
  /-- SUBC (R268): ALU function SUBC subtracts with carry. -/
  | subc (c : Fin 8)
  /-- ADDS (R268): ALU function ADDS adds with signed saturation. -/
  | adds (c : Fin 8)
  /-- SUBS (R268): ALU function SUBS subtracts with signed saturation. -/
  | subs (c : Fin 8)
  /-- AND (R268): ALU function AND. -/
  | andOp (c : Fin 8)
  /-- OR (R268): ALU function OR. -/
  | orOp (c : Fin 8)
  /-- XOR (R268): ALU function XOR. -/
  | xorOp (c : Fin 8)
  /-- ANDN (R268): ALU function ANDN. -/
  | andn (c : Fin 8)
  /-- SHL (R268): ALU function SHL shifts left. -/
  | shl (c : Fin 8)
  /-- SHR (R268): ALU function SHR shifts right logically. -/
  | shr (c : Fin 8)
  /-- SAR (R268): ALU function SAR shifts right arithmetically. -/
  | sar (c : Fin 8)
  /-- ROL (R268): ALU function ROL rotates left. -/
  | rol (c : Fin 8)
  /-- SHRR (R268): ALU function SHRR shifts right with convergent rounding. -/
  | shrr (c : Fin 8)
  /-- MIN (R268): ALU function MIN, signed minimum. -/
  | minOp (c : Fin 8)
  /-- MAX (R268): ALU function MAX, signed maximum. -/
  | maxOp (c : Fin 8)
  /-- MINU (R268): ALU function MINU, unsigned minimum. -/
  | minu (c : Fin 8)
  /-- MAXU (R268): ALU function MAXU, unsigned maximum. -/
  | maxu (c : Fin 8)
  /-- SLT (R268): ALU function SLT, signed less-than. -/
  | slt (c : Fin 8)
  /-- SLTU (R268): ALU function SLTU, unsigned less-than. -/
  | sltu (c : Fin 8)
  /-- SEQ (R268): ALU function SEQ, equality. -/
  | seqOp (c : Fin 8)
  /-- CLZ (R268): ALU function CLZ counts leading zeros. -/
  | clz (c : Fin 8)
  /-- CLS (R268): ALU function CLS counts redundant sign bits. -/
  | cls (c : Fin 8)
  /-- POPC (R268): ALU function POPC counts one bits. -/
  | popc (c : Fin 8)
  /-- MUL (R268): ALU function MUL gives the low product word. -/
  | mulOp (c : Fin 8)
  /-- MULH (R268): ALU function MULH gives the high signed product word. -/
  | mulh (c : Fin 8)
  /-- MULHU (R268): ALU function MULHU gives the high unsigned product word. -/
  | mulhu (c : Fin 8)
  /-- DIV (R268): ALU function DIV divides signed, trapping DIVZ on zero. -/
  | divOp (c : Fin 8)
  /-- DIVU (R268): ALU function DIVU divides unsigned. -/
  | divu (c : Fin 8)
  /-- REM (R268): ALU function REM gives the signed remainder. -/
  | rem (c : Fin 8)
  /-- REMU (R268): ALU function REMU gives the unsigned remainder. -/
  | remu (c : Fin 8)
  /-- ADDI (R267): ADDI adds a sign-extended immediate. -/
  | addi (c : Fin 8)
  /-- ANDI (R267): ANDI ands a zero-extended immediate. -/
  | andi (c : Fin 8)
  /-- ORI (R267): ORI ors a zero-extended immediate. -/
  | ori (c : Fin 8)
  /-- XORI (R267): XORI xors a zero-extended immediate. -/
  | xori (c : Fin 8)
  /-- SLTI (R267): SLTI compares signed with an immediate. -/
  | slti (c : Fin 8)
  /-- SLTIU (R267): SLTIU compares unsigned with an immediate. -/
  | sltiu (c : Fin 8)
  /-- SHLI (R267): SHLI shifts left by an immediate. -/
  | shli (c : Fin 8)
  /-- SHRI (R267): SHRI shifts right logically by an immediate. -/
  | shri (c : Fin 8)
  /-- SARI (R267): SARI shifts right arithmetically by an immediate. -/
  | sari (c : Fin 8)
  /-- LUI (R267): LUI loads an immediate into the upper bits. -/
  | lui (c : Fin 8)
  /-- LDB (R267): LDB loads a sign-extended byte. -/
  | ldb (c : Fin 8)
  /-- LDBU (R267): LDBU loads a zero-extended byte. -/
  | ldbu (c : Fin 8)
  /-- LDH (R267): LDH loads a sign-extended half word. -/
  | ldh (c : Fin 8)
  /-- LDHU (R267): LDHU loads a zero-extended half word. -/
  | ldhu (c : Fin 8)
  /-- LDW (R267): LDW loads a word, from memory or register space. -/
  | ldw (c : Fin 8)
  /-- LDD (R267): LDD loads a register pair. -/
  | ldd (c : Fin 8)
  /-- STB (R267): STB stores a byte. -/
  | stb (c : Fin 8)
  /-- STH (R267): STH stores a half word. -/
  | sth (c : Fin 8)
  /-- STW (R267): STW stores a word, to memory or register space. -/
  | stw (c : Fin 8)
  /-- STD (R267): STD stores a register pair. -/
  | std (c : Fin 8)
  /-- B (R267): B branches when its condition holds, filling the loop cache on a short backward branch. -/
  | branch (c : Fin 8)
  /-- CALL (R267): CALL saves the return address in g14 and jumps. -/
  | callOp (c : Fin 8)
  /-- JALR (R267): JALR links and jumps to a register. -/
  | jalr (c : Fin 8)
  /-- JR (R267): JR jumps to a register. -/
  | jr (c : Fin 8)
  /-- RPT (R278): RPT executes the next instruction N times without a bank switch. -/
  | rpt (c : Fin 8)
  /-- TRAP (R282): TRAP raises a software trap with its immediate in tval. -/
  | trapOp (c : Fin 8)
  /-- BREAK (R283): BREAK traps, or halts the core while DBGEN = 1. -/
  | breakOp (c : Fin 8)
  /-- POINTER_ACCESS (R274): A P-format load or store accesses memory through a pointer with post-modify or circular addressing. -/
  | pointerAccess (c : Fin 8)
  /-- EXTR (R277): EXTR extracts an accumulator to 32 bits with rounding and saturation. -/
  | extr (c : Fin 8)
  /-- EXPB (R277): EXPB folds the headroom of a register into bx.HEAD. -/
  | expb (c : Fin 8)
  /-- BXC (R277): BXC closes a block exponent, producing the shift and updating EXP. -/
  | bxc (c : Fin 8)
  /-- SCLA (R277): SCLA scales an accumulator right with convergent rounding. -/
  | scla (c : Fin 8)
  /-- NONE (R275): DSP operation NONE performs only the parallel moves. -/
  | noneOp (c : Fin 8)
  /-- MAC (R276): DSP operation MAC adds a product into the accumulator with saturation. -/
  | mac (c : Fin 8)
  /-- MSU (R276): DSP operation MSU subtracts a product from the accumulator. -/
  | msu (c : Fin 8)
  /-- MPY (R276): DSP operation MPY sets the accumulator to a product. -/
  | mpy (c : Fin 8)
  /-- MAC2 (R276): DSP operation MAC2 adds the sum of two half products. -/
  | mac2 (c : Fin 8)
  /-- MSU2 (R276): DSP operation MSU2 subtracts the sum of two half products. -/
  | msu2 (c : Fin 8)
  /-- CLR (R275): DSP operation CLR zeroes the accumulator. -/
  | clr (c : Fin 8)
  /-- ACCA (R276): DSP operation ACCA adds a sign-extended register to the accumulator. -/
  | acca (c : Fin 8)
  /-- EXTENDED_SAVE_DONE (R286): The save of an owner's extended area completes and the stalled extended instruction issues. -/
  | extendedSaveDone (c : Fin 8)
  /-- EXTENDED_RESTORE_DONE (R286): The restore of a resumed bank's extended area completes, or raises XLOST or MEMUE, and the bank issues. -/
  | extendedRestoreDone (c : Fin 8)
  /-- SWITCH_REQUEST (R280): A dispatch, pre-emption or resumption request reaches a core and the bank switch follows. -/
  | switchRequest (c : Fin 8)
  /-- STORE_RESPONSE (R271): A register-space store response that is not OK sets WERR and records the address. -/
  | storeResponse (c : Fin 8)
  /-- REGISTER_LOAD_RESPONSE (R271): A register-space load response completes into its bank or raises BUSERR. -/
  | registerLoadResponse (c : Fin 8)
  /-- CRST (R284): CNDc_CTRL.CRST resets a core, freeing its banks and clearing DFAULT. -/
  | crst (c : Fin 8)
  /-- HALT (R288): CNDc_CTRL.HALT halts or releases the core at an instruction boundary outside an RPT. -/
  | coreHalt (c : Fin 8) (on : Bool)
  /-- STEP (R288): CNDc_CTRL.STEP executes one instruction of a halted core. -/
  | coreStep (c : Fin 8)
  /-- EVICT_DONE (R285): The save engine completes evicting an IDLE bank and hands its slh to the Dispatcher. -/
  | evictDone (c : Fin 8)
  /-- RELOAD_DONE (R285): The save engine completes reloading a thread into a bank. -/
  | reloadDone (c : Fin 8)
  /-- TOKEN (R292): A token arrives at a Dispatcher landing buffer, or is refused by the mode. -/
  | tokenLand (ch : Fin 18)
  /-- TOKEN_MATCH (R293): A token leaving its landing buffer fills its slot, queues in overflow or is discarded as bad. -/
  | tokenMatch (ch : Fin 18)
  /-- SELECTION (R298): In a KCK cycle the Dispatcher selects the highest ready thread an eligible core can take and starts its run. -/
  | selection
  /-- DIS_CANCEL (R302): A write of DIS_CANCEL clears a thread's slots, queued tokens and readiness. -/
  | disCancel (t : Fin 1024)
  /-- THREAD_CFG_WRITE (R291): A write of a thread descriptor changes it, moves a READY thread, or is refused while valid. -/
  | threadCfgWrite (t : Fin 1024) (r : Fin 4) (data : Word)
  /-- DIS_INJ (R424): A write of DIS_INJ places a token on channel 17, waiting for credit up to 10 µs. -/
  | disInj (data : Word)
  /-- DIS_CORE_WRITE (R303): A write of DIS_CORE.ONLINE brings cores online or offline, refused for a double-faulted core. -/
  | disCoreWrite (data : Word)
  /-- POWER_ON_RESET (R409): PORST_N low resets the device including the always-on state. -/
  | powerOnReset (straps : BitVec 14) (banks : BitVec 4)
  /-- WARM_RESET (R408): An accepted RST_N low pulse resets the device, keeping the listed always-on state. -/
  | warmReset (straps : BitVec 14)
  /-- START (R317): A start runs the steps of Table BS-8, selecting Bays and loading an image or failing. -/
  | startImage
  /-- NEW_START (R323): 100 ms after a failed start with count below 3 the device begins a new start. -/
  | newStart
  /-- BOOT_OK (R322): A keyed write of DEV_BOOT_OK stops the watchdog, sets BOOTOK, clears the count and advances rollback. -/
  | bootOk (p : Path) (data : Word)
  /-- BOOT_OK_WATCHDOG (R322): Watchdog expiry pushes cause 0x09, counts a failed start and warm-resets the device. -/
  | bootOkWatchdog
  /-- RETRY (R324): A keyed LDR_CMD.RETRY clears the count and begins a new start. -/
  | retryStart (data : Word)
  /-- PROGCUST (R315): SEC_CMD.PROGCUST programs a blank CUST_HASH in Primer mode over the management port. -/
  | progcust (p : Path) (data : Word)
  /-- ATTGO (R328): SEC_CMD.ATTGO starts building and signing an attestation record. -/
  | attgo (data : Word)
  /-- ATTESTATION_DONE (R328): The attestation record is signed and ready, setting ATTDONE. -/
  | attestationDone
  /-- READCUST (R314): SEC_CMD.READCUST copies CUST_HASH into SEC_BUF. -/
  | readcust (data : Word)
  /-- ATT_DATA_READ (R328): A read of SEC_ATT_DATA returns the record word at PTR and advances PTR. -/
  | attDataRead
  /-- CERT_DATA_READ (R328): A read of SEC_CERT_DATA returns the certificate word at PTR and advances PTR. -/
  | certDataRead
  /-- BEGIN (R325): Update BEGIN erases the inactive Bay's commit sector and image sectors. -/
  | beginUpdate
  /-- UPDATE_DATA (R325): A write of LDR_UPD_DATA places one image word and programs full pages. -/
  | updateData (data : Word)
  /-- FINISH (R325): Update FINISH programs the last page and starts verification of the image. -/
  | finishUpdate
  /-- VERIFY_DONE (R325): Verification ends: on success the commit record and directory are written, otherwise FAILED. -/
  | verifyDone
  /-- ABORT (R325): Update ABORT stops at a page boundary with STATE FAILED. -/
  | abortUpdate
  /-- OPEN1 (R329): A received OPEN1 starts an SM2 key exchange and the device replies OPEN2. -/
  | open1 (ch : Fin 32) (bytes : List Byte)
  /-- OPEN3 (R329): A received OPEN3 opens the session when SA verifies, or fails the attempt. -/
  | open3 (ch : Fin 32) (bytes : List Byte)
  /-- OPEN_HOLDOFF_END (R329): One second after a failed exchange the channel accepts OPEN1 again. -/
  | openHoldoffEnd (ch : Fin 32)
  /-- REQ (R380): A received REQ frame has its flits injected in order after tag and sequence checks. -/
  | reqFrame (ch : Fin 32) (bytes : List Byte)
  /-- IB_RSP (R380): Once every flit of a REQ is answered the device sends the RSP frame. -/
  | ibRsp
  /-- CLOSE (R378): A received CLOSE frame closes the session in both directions. -/
  | closeFrame (ch : Fin 32) (bytes : List Byte)
  /-- SESSION_IDLE (R330): A session without a valid frame for IDLE seconds closes. -/
  | sessionIdle (i : Fin 4)
  /-- PNL_GO (R334): PAL_PNL_CMD.GO starts a Panel reload by fetching the staged image. -/
  | pnlGo
  /-- FETCH_DONE (R335): FETCH ends with checks, then failing, waiting for EIDX or starting the hold. -/
  | fetchDone (timeout : Bool)
  /-- PANEL_RELEASE (R336): In the release cycle the Panel's tiles apply slot 0, the Stencil is replaced and the border opens. -/
  | panelRelease
  /-- PNL_ABORT (R334): PAL_PNL_CMD.ABORT ends a reload in FETCH or WAIT as FAILED. -/
  | pnlAbort
  /-- SCRUB_STEP (R345): A configuration scrubbing step reads every stored word of one Panel and compares the applied copy. -/
  | scrubStep
  /-- SCRUB_RELOAD (R347): When the reload engine is free a pending Panel is reloaded from its recorded source. -/
  | scrubReload
  /-- SCRUB_READ (R355): The background scrubber reads the next word of its class once per 2^PACE cycles. -/
  | scrubRead (c : Fin 11)
  /-- PASS_GO (R356): INT_PASS_CMD.GO starts a commanded pass over a range of class addresses. -/
  | passGo (data : Word)
  /-- PASS_READ (R356): A commanded pass reads its next word when a slot is free, ending with DONE. -/
  | passRead
  /-- PASS_ABORT (R356): INT_PASS_CMD.ABORT ends the pass after the current word. -/
  | passAbort
  /-- TRACKER_CLR (R357): A write of a tracker entry's CLR bit frees it. -/
  | trackerClr (c : Fin 11) (i : Fin 32)
  /-- FAULT (R361): The fault collector accepts a FAULT flit and merges it into an entry, creates one or counts it lost. -/
  | faultFlit
  /-- FLT_ACK (R362): A write of FLT_ACK frees all entries or one entry whose COUNT matches. -/
  | fltAck (data : Word)
  /-- EPOCH_END (R358): A report epoch ends, re-enabling per-epoch reports and sending REPEAT tokens. -/
  | epochEnd
  /-- MSP_RD (R371): Management-port command RD reads a register and returns the response. -/
  | mspRd (tag : Byte) (addr data : Word) (crc : Byte)
  /-- MSP_WR (R371): Management-port command WR writes a register and returns the response. -/
  | mspWr (tag : Byte) (addr data : Word) (crc : Byte)
  /-- LAST (R372): Management-port command LAST returns the stored response again. -/
  | lastCmd (tag : Byte) (addr data : Word) (crc : Byte)
  /-- AON (R371): Management-port command AON returns DEV_PRIMER_REASON without the network. -/
  | aon (tag : Byte) (addr data : Word) (crc : Byte)
  /-- BADCMD (R371): An unknown management command is answered BADCMD. -/
  | badcmd (cmd tag : Byte) (addr data : Word) (crc : Byte)
  /-- MSP_SHORT (R372): A frame cut short before byte 10 performs nothing and counts in MGT_MSHORT. -/
  | mspShort (bytes : Nat)
  /-- WINDOW_WRITE (R375): A write of MGT_WDATAk writes a word to the window's global address. -/
  | windowWrite (p : Path) (k : Fin 8) (data : Word)
  /-- WINDOW_READ (R375): A read of MGT_WDATAk reads the word at the window's global address. -/
  | windowRead (p : Path) (k : Fin 8)
  /-- TRIG (R382): MGT_SKCMD.TRIG triggers a Sketch. -/
  | trig
  /-- REARM (R384): MGT_SKCMD.REARM unlocks the Sketch. -/
  | rearm
  /-- SKETCH_IN (R382): A rising edge on SKETCH_IN triggers a Sketch. -/
  | sketchIn
  /-- SKETCH_LATCH (R383): At L every block copies its state into its Sketch registers and SKETCH_OUT pulses. -/
  | sketchLatch
  /-- SKETCH_RECORD_READY (R386): The Sketch record is assembled and RDY and SKRDY are set. -/
  | sketchRecordReady
  /-- SKREC_DATA_READ (R386): A read of MGT_SKREC_DATA returns the record word at PTR and advances PTR. -/
  | skrecDataRead
  /-- READBACK_GO (R389): A keyed MGT_RB_CTRL.GO freezes a Panel for flip-flop read-back. -/
  | readbackGo (data : Word)
  /-- RB_DATA_READ (R390): A read of MGT_RB_DATA returns a read-back word and advances PTR. -/
  | rbDataRead
  /-- MGT_DBG_WRITE (R393): A write of MGT_DBG is performed only through MGTACC or CFG records. -/
  | mgtDbgWrite (p : Path) (data : Word)
  /-- IDCODE (R391): JTAG IDCODE selects the 32-bit IDCODE register. -/
  | idcode
  /-- SAMPLE_PRELOAD (R391): JTAG SAMPLE/PRELOAD captures and loads the boundary register. -/
  | samplePreload (v : BitVec 176)
  /-- EXTEST (R392): JTAG EXTEST drives pins from the boundary register when allowed. -/
  | extest
  /-- EXTEST_PULSE (R392): JTAG EXTEST_PULSE tests AC-coupled lanes when allowed. -/
  | extestPulse
  /-- EXTEST_TRAIN (R392): JTAG EXTEST_TRAIN tests AC-coupled lanes with a pulse train when allowed. -/
  | extestTrain
  /-- CLAMP (R392): JTAG CLAMP holds pins at boundary values when allowed. -/
  | clamp
  /-- HIGHZ (R392): JTAG HIGHZ places pins in high impedance when allowed. -/
  | highz
  /-- MGTACC (R393): JTAG MGTACC performs a management-port request at Update-DR. -/
  | mgtacc (frame : BitVec 88)
  /-- RBSCAN (R391): JTAG RBSCAN loads the next read-back word at Capture-DR. -/
  | rbscan
  /-- BYPASS (R391): JTAG BYPASS selects the 1-bit bypass register. -/
  | bypass
  /-- TEMPERATURE_CONVERSION (R394): Every 100 µs a temperature sensor converts and warning, critical and trip limits are tested. -/
  | temperatureConversion (n : Fin 16) (temp : BitVec 10)
  /-- VOLTAGE_CONVERSION (R395): Every 100 µs a voltage monitor measures its rail against LOW and HIGH. -/
  | voltageConversion (k : Fin 8) (mv : BitVec 13)
  /-- CLOCK_LOSS (R403): A REFCLK failure or core PLL unlock forces the safe profile and a warm reset. -/
  | clockLoss
  /-- CLOCK_RECOVERY (R410): After REFCLK has been valid for 1 ms the held reset ends and a start begins. -/
  | clockRecovery
  /-- PLL_UNLOCK (R403): A lane-group PLL losing lock takes its lanes down and reports PLL_UNLOCK. -/
  | pllUnlock (g : Fin 4)
  /-- DOMAIN_REQUEST (R405): A write of PWR_DOMCTLd.REQ starts a domain state change, refused when lowering an unfenced domain. -/
  | domainRequest (d : Fin 11) (data : Word)
  /-- DOMAIN_CHANGE_DONE (R407): A domain reaches its requested state, starting in its reset state when powered up. -/
  | domainChangeDone
  /-- DOM_FAIL (R405): A domain not ON within 1 ms returns to OFF and reports DOM_FAIL. -/
  | domFail
  /-- SOFTWARE_RESET (R409): A keyed PWR_SWRST.GO starts a warm reset. -/
  | softwareReset (data : Word)
  /-- SAFE_PROG (R414): A keyed PWR_SAFECMD.PROG programs the safe profile in Primer mode over the management port. -/
  | safeProg (p : Path) (data : Word)
  /-- SAFE_PROG_DONE (R414): Safe-profile programming completes and SBUSY clears. -/
  | safeProgDone
  /-- INTERPOLATOR (R48): In every EKL cycle without a counting edge each enabled axis advances: a local axis raises e and its fraction accumulator, a time axis adds STEP, and a remote axis extrapolates by its beacon velocity. -/
  | interpolator
  /-- ILLEGAL (R267): A conductor executes a word with a reserved major opcode, function code, sub-code or nonzero zero field, which raises an ILLEGAL trap. -/
  | illegal (c : Fin 8)
  /-- FETCH_ADDR (R263): A conductor fetch at a pc with nonzero bits [31:16] or [1:0] raises an ADDR trap, and a fetch of an uncorrectable word raises MEMUE, before any instruction is decoded. -/
  | fetchAddr (c : Fin 8)
  /-- ERASE_DONE (R325): The flash erase started by update BEGIN completes, and the update leaves STATE ERASE and moves to PROGRAM, programming PROG[1]. -/
  | eraseDone
  /-- GP_INPUT (R412): A change of level on a GP pin passes its two-stage synchroniser and appears in PWR_GPINw. -/
  | gpInput (n : Fin 96) (level : Bool)
  deriving DecidableEq, Repr

end Sys2Proof
end

