-- ==== Sys2Proof/Config.lean ====
section
/-! DEFINITION. Sys2Proof/Config.lean: what one implementation fixes and the spec does not: the free values (log 8)
and the cryptographic functions, which the spec names by their standards and the model leaves uninterpreted (log 9).
None has a body, so no proof can use a value of it. -/
namespace Sys2Proof.Config

/-- A 32-bit value the spec does not state; the argument is `State.free`, advanced at every use. -/
opaque freeWord : Nat → BitVec 32

/-- A choice among `n` outcomes the spec leaves open (R428), by `State.free`; read modulo `n`. -/
opaque freeChoice : Nat → Nat

/-- The outcome of reading a context word whose check bits were stored with a mask of three or more bits: a function of
the mask and the data (R428), read modulo 74. -/
opaque ctxOpen : Nat → BitVec 64 → Nat

/-- The SM3 digest (GB/T 32905) of a string of bytes. -/
opaque sm3 : List Byte → BitVec 256

/-- Whether an SM2 signature (GB/T 32918, default identity) over a message verifies under the public key given. -/
opaque sm2Verify : (key msg sig : List Byte) → Bool

/-- The device's SM2 signature over a message, 64 bytes. -/
opaque sm2Sign : List Byte → List Byte

/-- Whether a certificate verifies under a CA key, and the public key it certifies (R258). -/
opaque certKey : (ca cert : List Byte) → Option (List Byte)

/-- HMAC-SM3 of a string of bytes under a key. -/
opaque hmacSm3 : (key : List Byte) → List Byte → BitVec 256

/-- The SM2 key exchange of GB/T 32918 part 3 as responder, from the SM3 digest that names the
initiator's static key, RA and a nonce: RB, SB, the
value SA must equal, K1 and K2. -/
opaque sm2Exchange : (key ra : List Byte) → (nonce : BitVec 256) → List Byte × List Byte × List Byte × List Byte × List Byte

/-- The source address of the PFC frames of a channel (R185), which the spec does not give. -/
opaque pfcSource : Nat → BitVec 48

/-- MGT_RB_LEN: words of the read-back map of this silicon revision (R390). -/
opaque readbackLen : BitVec 16

/-- A nonce or identifier drawn by the security engine; the argument is `State.free`. -/
opaque nonce : Nat → BitVec 256

/-- The row of a sector within its pseudo-channel (R207): HBM3 geometry, which the spec does not give. -/
opaque stackRow : Nat → Nat

end Sys2Proof.Config
end

