-- ==== Sys2Proof/Machine/RegMap.lean ====
section
/-! DEFINITION. Sys2Proof/Machine/RegMap.lean: the register map, from the register tables of every chapter:
the address of each register and, for each, the bits of type RW, W1C and RC and the reset value
(Table SC-4, R17, R18 of spec/00_scope.md). Bits of type RO and WO are in none of the three masks. -/
namespace Sys2Proof.Machine

/-- One row of the map: registers at `base + i * s1 + j * s2` for `i < n1`, `j < n2`, the masks of the bits of type
RW, W1C and RC, and the reset value. -/
structure RegRow where
  base  : Nat
  n1    : Nat
  s1    : Nat
  n2    : Nat
  s2    : Nat
  rw    : Nat
  w1c   : Nat
  rc    : Nat
  reset : Nat
  deriving DecidableEq, Repr

namespace Reg

/-! 04_canvas_tile.md Tables CT-10 to CT-15, 05 Table RT-4, 06 Tables MA-4 and MA-5, 07 Tables CW-8 to CW-10, 08 Table PS-7. -/
def tileStat (n : Nat) : Nat := 0x1000200 + n * 0x1000
def tileCtrl (n : Nat) : Nat := 0x1000204 + n * 0x1000
def tileFlags (n : Nat) : Nat := 0x1000208 + n * 0x1000
def tileFires (n : Nat) : Nat := 0x100020C + n * 0x1000
def tileMfires (n : Nat) : Nat := 0x1000210 + n * 0x1000
def tileStallIn (n : Nat) : Nat := 0x1000214 + n * 0x1000
def tileStallOut (n : Nat) : Nat := 0x1000218 + n * 0x1000
def tileStallMem (n : Nat) : Nat := 0x100021C + n * 0x1000
def tileFlush (n : Nat) : Nat := 0x1000220 + n * 0x1000
def tileMkdrop (n : Nat) : Nat := 0x1000224 + n * 0x1000
def tileOdrop (n : Nat) : Nat := 0x1000228 + n * 0x1000
def tilePcnt (n : Nat) : Nat := 0x100022C + n * 0x1000
def tileOvfStep (n : Nat) : Nat := 0x1000230 + n * 0x1000
def tileMstep (n : Nat) : Nat := 0x1000234 + n * 0x1000
def tileBuf (n : Nat) : Nat := 0x1000238 + n * 0x1000
def tileCred (n : Nat) : Nat := 0x100023C + n * 0x1000
def tileCecnt (n : Nat) : Nat := 0x1000240 + n * 0x1000
def tileUeaddr (n : Nat) : Nat := 0x1000244 + n * 0x1000
def tileXstat (n : Nat) : Nat := 0x1000248 + n * 0x1000
def tileXcont (n : Nat) : Nat := 0x100024C + n * 0x1000
def tileCxce (n : Nat) : Nat := 0x1000250 + n * 0x1000
def tileCxue (n : Nat) : Nat := 0x1000254 + n * 0x1000
def tileCxinj (n : Nat) : Nat := 0x1000258 + n * 0x1000
def tileParm (n : Nat) : Nat := 0x100025C + n * 0x1000
def tileSkStat (n : Nat) : Nat := 0x1000280 + n * 0x1000
def tileSkFlags (n : Nat) : Nat := 0x1000284 + n * 0x1000
def tileSkBuf (n : Nat) : Nat := 0x1000288 + n * 0x1000
def tileSkCred (n : Nat) : Nat := 0x100028C + n * 0x1000
def tileSkSlot (n : Nat) : Nat := 0x1000290 + n * 0x1000
def tileSkAcclo (n : Nat) : Nat := 0x1000294 + n * 0x1000
def tileSkAcchi (n : Nat) : Nat := 0x1000298 + n * 0x1000
def tileSkT (n m : Nat) : Nat := 0x100029C + n * 0x1000 + m * 0x4
def tileSkAgp01 (n : Nat) : Nat := 0x10002AC + n * 0x1000
def tileSkAgp23 (n : Nat) : Nat := 0x10002B0 + n * 0x1000
def tileSkFires (n : Nat) : Nat := 0x10002B4 + n * 0x1000
def agCfg (n m : Nat) : Nat := 0x1000300 + n * 0x1000 + m * 0x10
def agPtr (n m : Nat) : Nat := 0x1000304 + n * 0x1000 + m * 0x10
def agStg (n m : Nat) : Nat := 0x1000308 + n * 0x1000 + m * 0x10
def tileT (n m : Nat) : Nat := 0x1000340 + n * 0x1000 + m * 0x4
def tileK0 (n : Nat) : Nat := 0x1000350 + n * 0x1000
def tileAcclo (n : Nat) : Nat := 0x1000354 + n * 0x1000
def tileAcchi (n : Nat) : Nat := 0x1000358 + n * 0x1000
def tileSlot (n : Nat) : Nat := 0x100035C + n * 0x1000
def tilePrev (n : Nat) : Nat := 0x1000360 + n * 0x1000
def tileMac (n : Nat) : Nat := 0x1000364 + n * 0x1000
def tilePbx (n : Nat) : Nat := 0x1000368 + n * 0x1000
/-! 13_conductor_cores.md Table CO-13. -/
def cndCtrl (n : Nat) : Nat := 0x200000 + n * 0x10000
def cndStat (n : Nat) : Nat := 0x200004 + n * 0x10000
def cndTvec (n : Nat) : Nat := 0x200008 + n * 0x10000
def cndTcause (n : Nat) : Nat := 0x20000C + n * 0x10000
def cndTpc (n : Nat) : Nat := 0x200010 + n * 0x10000
def cndTval (n : Nat) : Nat := 0x200014 + n * 0x10000
def cndDf (n : Nat) : Nat := 0x200018 + n * 0x10000
def cndXown (n : Nat) : Nat := 0x20001C + n * 0x10000
def cndWerraddr (n : Nat) : Nat := 0x200020 + n * 0x10000
def cndCycLo (n : Nat) : Nat := 0x200024 + n * 0x10000
def cndCycHi (n : Nat) : Nat := 0x200028 + n * 0x10000
def cndXstall (n : Nat) : Nat := 0x20002C + n * 0x10000
def cndRptmax (n : Nat) : Nat := 0x200030 + n * 0x10000
def cndTraps (n : Nat) : Nat := 0x200034 + n * 0x10000
def cndSwitch (n : Nat) : Nat := 0x200038 + n * 0x10000
def cndBank (n m : Nat) : Nat := 0x200040 + n * 0x10000 + m * 0x4
def cndXa (n m : Nat) : Nat := 0x200060 + n * 0x10000 + m * 0x4
def cndSkStat (n : Nat) : Nat := 0x200100 + n * 0x10000
def cndSkPc (n : Nat) : Nat := 0x200104 + n * 0x10000
def cndSkBanks (n : Nat) : Nat := 0x200108 + n * 0x10000
/-! 15_boot_security.md Tables BS-11 to BS-13 and 16_panel_reconfiguration.md Table PR-3. -/
def devIdcode : Nat := 0x0
def devUnits : Nat := 0x4
def devStatus : Nat := 0x8
def devBootOk : Nat := 0xC
def devBootCause (n : Nat) : Nat := 0x10 + n * 0x4
def devPrimerReason : Nat := 0x1C
def devSerialLo : Nat := 0x20
def devSerialHi : Nat := 0x24
def devWdog : Nat := 0x28
def ldrStat : Nat := 0x20000
def ldrCmd : Nat := 0x20004
def ldrTime : Nat := 0x20008
def ldrRecskip : Nat := 0x2000C
def ldrBayStat (n : Nat) : Nat := 0x20010 + n * 0x10
def ldrBayBuild (n : Nat) : Nat := 0x20014 + n * 0x10
def ldrBaySeq (n : Nat) : Nat := 0x20018 + n * 0x10
def ldrBayLen (n : Nat) : Nat := 0x2001C + n * 0x10
def ldrUpdCtrl : Nat := 0x20040
def ldrUpdLen : Nat := 0x20044
def ldrUpdCmd : Nat := 0x20048
def ldrUpdData : Nat := 0x2004C
def ldrUpdOff : Nat := 0x20050
def ldrUpdStatus : Nat := 0x20054
def ldrScrCtrl : Nat := 0x20100
def ldrScrStat : Nat := 0x20104
def ldrScrLap : Nat := 0x20108
def ldrScrLaps : Nat := 0x2010C
def ldrScrIgn (n : Nat) : Nat := 0x20110 + n * 0x4
def ldrScrLast : Nat := 0x20120
def ldrScrPendLo : Nat := 0x20128
def ldrScrPendHi : Nat := 0x2012C
def ldrScrStopLo : Nat := 0x20130
def ldrScrStopHi : Nat := 0x20134
def secStat : Nat := 0x28000
def secCmd : Nat := 0x28004
def secBuf (n : Nat) : Nat := 0x28020 + n * 0x4
def secAttNonce (n : Nat) : Nat := 0x28040 + n * 0x4
def secAttPtr : Nat := 0x28060
def secAttData : Nat := 0x28064
def secAttLen : Nat := 0x28068
def secCertPtr : Nat := 0x28070
def secCertData : Nat := 0x28074
def secCertLen : Nat := 0x28078
def secMkey (n m : Nat) : Nat := 0x28100 + n * 0x20 + m * 0x4
def secIbCtrl : Nat := 0x28180
def secIbfail : Nat := 0x28184
def secIbopens : Nat := 0x28188
/-! 18_management_observation.md Table MO-10. -/
def mgtStat : Nat := 0x10000
def mgtIrqen : Nat := 0x10004
def mgtIrq : Nat := 0x10008
def mgtMcrcerr : Nat := 0x1000C
def mgtMshort : Nat := 0x10010
def mgtDbg : Nat := 0x10014
def mgtEklcLo : Nat := 0x10018
def mgtEklcHi : Nat := 0x1001C
def mgtIbCfg : Nat := 0x10040
def mgtIbMacLo : Nat := 0x10044
def mgtIbMacHi : Nat := 0x10048
def mgtIbrx : Nat := 0x1004C
def mgtIbdrop : Nat := 0x10050
def mgtWaddrLo (n : Nat) : Nat := 0x10100 + n * 0x20
def mgtWaddrHi (n : Nat) : Nat := 0x10104 + n * 0x20
def mgtWdata (n : Nat) : Nat := 0x10108 + n * 0x20
def mgtWstat (n : Nat) : Nat := 0x1010C + n * 0x20
def mgtWerrLo (n : Nat) : Nat := 0x10110 + n * 0x20
def mgtWerrHi (n : Nat) : Nat := 0x10114 + n * 0x20
def mgtWctl (n : Nat) : Nat := 0x10118 + n * 0x20
def mgtSkctrl : Nat := 0x10200
def mgtSkcmd : Nat := 0x10204
def mgtSkstat : Nat := 0x10208
def mgtSkmiss : Nat := 0x1020C
def mgtSkfmaskLo : Nat := 0x10210
def mgtSkfmaskHi : Nat := 0x10214
def mgtSkrecPtr : Nat := 0x10218
def mgtSkrecData : Nat := 0x1021C
def mgtPb (n : Nat) : Nat := 0x10300 + n * 0x4
def mgtRbCtrl : Nat := 0x10400
def mgtRbStat : Nat := 0x10404
def mgtRbPtr : Nat := 0x10408
def mgtRbData : Nat := 0x1040C
def mgtRbLen : Nat := 0x10410
def mgtTs (n : Nat) : Nat := 0x10500 + n * 0x4
def mgtTlim : Nat := 0x10540
def mgtVm (n : Nat) : Nat := 0x10580 + n * 0x8
def mgtVmLim (n : Nat) : Nat := 0x10584 + n * 0x8
def mgtPsel (n m : Nat) : Nat := 0x14000 + n * 0x10 + m * 0x4
/-! 02_easel_axes.md Tables EA-3 to EA-11 and 03_easel_schedule.md Tables ES-6 to ES-9. -/
def easCtrl : Nat := 0x100000
def easStat : Nat := 0x100004
def easArmcnt : Nat := 0x100008
def easLast : Nat := 0x10000C
def easTpinLo : Nat := 0x100010
def easTpinHi : Nat := 0x100014
def easTpoutLo : Nat := 0x100018
def easTpoutHi : Nat := 0x10001C
def easColl : Nat := 0x100020
def easLate : Nat := 0x100024
def easSkip : Nat := 0x100028
def easDrop : Nat := 0x10002C
def axCfg (n : Nat) : Nat := 0x100100 + n * 0x40
def axPin (n : Nat) : Nat := 0x100104 + n * 0x40
def axPosLo (n : Nat) : Nat := 0x100108 + n * 0x40
def axPosHi (n : Nat) : Nat := 0x10010C + n * 0x40
def axSetLo (n : Nat) : Nat := 0x100110 + n * 0x40
def axSetHi (n : Nat) : Nat := 0x100114 + n * 0x40
def axCmd (n : Nat) : Nat := 0x100118 + n * 0x40
def axMod (n : Nat) : Nat := 0x10011C + n * 0x40
def axRev (n : Nat) : Nat := 0x100120 + n * 0x40
def axIntv (n : Nat) : Nat := 0x100124 + n * 0x40
def axVel (n : Nat) : Nat := 0x100128 + n * 0x40
def axRate (n : Nat) : Nat := 0x10012C + n * 0x40
def axStat (n : Nat) : Nat := 0x100130 + n * 0x40
def axErr (n : Nat) : Nat := 0x100134 + n * 0x40
def axIdxv (n : Nat) : Nat := 0x100138 + n * 0x40
def axZcap (n : Nat) : Nat := 0x10013C + n * 0x40
def tpCfg (n : Nat) : Nat := 0x100800 + n * 0x4
def easSw (n m : Nat) : Nat := 0x100900 + n * 0x20 + m * 0x4
def easScmd (n : Nat) : Nat := 0x100910 + n * 0x20
def easRstepLo (n : Nat) : Nat := 0x100A00 + n * 0x8
def easRstepHi (n : Nat) : Nat := 0x100A04 + n * 0x8
def easPcmdLo (n : Nat) : Nat := 0x101000 + n * 0x8
def easPcmdHi (n : Nat) : Nat := 0x101004 + n * 0x8
/-! 17_integrity.md Table IN-4. -/
def intStat : Nat := 0x40000
def fltEpoch : Nat := 0x40004
def fltCtrl : Nat := 0x40008
def fltLost : Nat := 0x4000C
def fltValid : Nat := 0x40010
def fltAck : Nat := 0x40014
def fltTok : Nat := 0x40018
def fltTokdrop : Nat := 0x4001C
def fltTimeLo : Nat := 0x40020
def fltTimeHi : Nat := 0x40024
def fltPinmaskLo : Nat := 0x40028
def fltPinmaskHi : Nat := 0x4002C
def fltFwdmaskLo : Nat := 0x40030
def fltFwdmaskHi : Nat := 0x40034
def fltTokmaskLo : Nat := 0x40038
def fltTokmaskHi : Nat := 0x4003C
def fltFwdcnt : Nat := 0x40040
def intScrb (n : Nat) : Nat := 0x40100 + n * 0x20
def intCecnt (n : Nat) : Nat := 0x40104 + n * 0x20
def intUecnt (n : Nat) : Nat := 0x40108 + n * 0x20
def intLap (n : Nat) : Nat := 0x4010C + n * 0x20
def intLaps (n : Nat) : Nat := 0x40110 + n * 0x20
def intPfull (n : Nat) : Nat := 0x40114 + n * 0x20
def intPassCmd : Nat := 0x40300
def intPassStart : Nat := 0x40304
def intPassEnd : Nat := 0x40308
def intPassStat : Nat := 0x4030C
def intPassRead : Nat := 0x40310
def intPassCorr : Nat := 0x40314
def intPassUe : Nat := 0x40318
def intPassPers : Nat := 0x4031C
def intPassSkip : Nat := 0x40320
def intPassFirst : Nat := 0x40324
def intPassLast : Nat := 0x40328
def intPtAddr (n m : Nat) : Nat := 0x41000 + n * 0x100 + m * 0x8
def intPtStat (n m : Nat) : Nat := 0x41004 + n * 0x100 + m * 0x8
def fltE (n : Nat) : Nat := 0x44000 + n * 0x20
/-! 14_dispatcher.md Tables DI-5 to DI-7. -/
def disCtrl : Nat := 0x1C0000
def disStat : Nat := 0x1C0004
def disErr : Nat := 0x1C0008
def disCore : Nat := 0x1C000C
def disCancel : Nat := 0x1C0010
def disInjv : Nat := 0x1C0014
def disInj : Nat := 0x1C0018
def disQmax : Nat := 0x1C0020
def disCancelDiscard : Nat := 0x1C0024
def disRefused : Nat := 0x1C0028
def disBadtok : Nat := 0x1C002C
def disNestcnt : Nat := 0x1C0030
def disEvicts : Nat := 0x1C0034
def disDispatches : Nat := 0x1C0038
def disPreempts : Nat := 0x1C003C
def disEvtdrop : Nat := 0x1C0040
def disCpri (n : Nat) : Nat := 0x1C0100 + n * 0x4
def disEvt (n : Nat) : Nat := 0x1C0200 + n * 0x4
def disRdy (n : Nat) : Nat := 0x1C0300 + n * 0x4
def disTcfg (n : Nat) : Nat := 0x1C4000 + n * 0x10
def disTent (n : Nat) : Nat := 0x1C4004 + n * 0x10
def disTslh (n : Nat) : Nat := 0x1C4008 + n * 0x10
def disTsp (n : Nat) : Nat := 0x1C400C + n * 0x10
def disTst (n : Nat) : Nat := 0x1C8000 + n * 0x4
def disTval (n m : Nat) : Nat := 0x1CA000 + n * 0x10 + m * 0x4
/-! 11_noc.md Tables NC-5 to NC-8. -/
def nocStat : Nat := 0x120000
def nocBlim : Nat := 0x120004
def nocFreq : Nat := 0x120008
def nocFack : Nat := 0x12000C
def nocFenceDrop : Nat := 0x120010
def nocStray : Nat := 0x120014
def nocRfailDrop : Nat := 0x120018
def drtCfg (n : Nat) : Nat := 0x120400 + n * 0x10
def drtStg (n : Nat) : Nat := 0x120404 + n * 0x10
def drtCmd (n : Nat) : Nat := 0x120408 + n * 0x10
def drtStat (n : Nat) : Nat := 0x12040C + n * 0x10
def crtCfg (n : Nat) : Nat := 0x120600 + n * 0x10
def crtStg (n : Nat) : Nat := 0x120604 + n * 0x10
def crtCmd (n : Nat) : Nat := 0x120608 + n * 0x10
def crtStat (n : Nat) : Nat := 0x12060C + n * 0x10
def niStat (n : Nat) : Nat := 0x121000 + n * 0x100
def niRtref (n : Nat) : Nat := 0x121004 + n * 0x100
def niTmo (n : Nat) : Nat := 0x121008 + n * 0x100
def niBadop (n : Nat) : Nat := 0x12100C + n * 0x100
def niTb (n m : Nat) : Nat := 0x121010 + n * 0x100 + m * 0x4
def niBrk01 (n : Nat) : Nat := 0x121020 + n * 0x100
def niBrk23 (n : Nat) : Nat := 0x121024 + n * 0x100
def niSctl (n : Nat) : Nat := 0x121030 + n * 0x100
def niSbytesLo (n : Nat) : Nat := 0x121034 + n * 0x100
def niSbytesHi (n : Nat) : Nat := 0x121038 + n * 0x100
def niSpkts (n : Nat) : Nat := 0x12103C + n * 0x100
def niSlmin (n : Nat) : Nat := 0x121040 + n * 0x100
def niSlmax (n : Nat) : Nat := 0x121044 + n * 0x100
def niSlsumLo (n : Nat) : Nat := 0x121048 + n * 0x100
def niSlsumHi (n : Nat) : Nat := 0x12104C + n * 0x100
def niSlcnt (n : Nat) : Nat := 0x121050 + n * 0x100
def niShist (n m : Nat) : Nat := 0x121060 + n * 0x100 + m * 0x4
def niRtLo (n m : Nat) : Nat := 0x128000 + n * 0x200 + m * 0x8
def niRtHi (n m : Nat) : Nat := 0x128004 + n * 0x200 + m * 0x8
/-! 10_memory_tables.md Table MT-3. -/
def memStat (n : Nat) : Nat := 0x1A0000 + n * 0x100
def memPwr (n : Nat) : Nat := 0x1A0004 + n * 0x100
def memCecnt (n : Nat) : Nat := 0x1A0008 + n * 0x100
def memUecnt (n : Nat) : Nat := 0x1A000C + n * 0x100
def memUeaddrLo (n : Nat) : Nat := 0x1A0010 + n * 0x100
def memUeaddrHi (n : Nat) : Nat := 0x1A0014 + n * 0x100
def memTemp (n : Nat) : Nat := 0x1A0018 + n * 0x100
def memPprLo (n : Nat) : Nat := 0x1A0020 + n * 0x100
def memPprHi (n : Nat) : Nat := 0x1A0024 + n * 0x100
def memPprCmd (n : Nat) : Nat := 0x1A0028 + n * 0x100
def memPprStat (n : Nat) : Nat := 0x1A002C + n * 0x100
def memInj (n : Nat) : Nat := 0x1A0030 + n * 0x100
def memSclrLo : Nat := 0x1A0800
def memSclrHi : Nat := 0x1A0804
/-! 10_memory_tables.md Tables MT-4 and MT-8. -/
def tblStat : Nat := 0x180000
def tblSwapReg : Nat := 0x180004
def tblActiveLo (n : Nat) : Nat := 0x180008 + n * 0x4
def tblLkpLo : Nat := 0x180010
def tblLkpHi : Nat := 0x180014
def tblMiss : Nat := 0x180018
def tblSwapdrop : Nat := 0x18001C
def tblCfgref : Nat := 0x180020
def tblAwdrop : Nat := 0x180024
def tblFmt : Nat := 0x180028
def tblUe : Nat := 0x18002C
def tblPort (n : Nat) : Nat := 0x180100 + n * 0x4
def tblD (n m : Nat) : Nat := 0x181000 + n * 0x40 + m * 0x4
/-! 08_palette_switching.md Tables PS-3 to PS-6 and 16_panel_reconfiguration.md Table PR-2. -/
def palStat : Nat := 0x110000
def palCmdLo : Nat := 0x110008
def palCmdHi : Nat := 0x11000C
def palIssued : Nat := 0x110010
def palConflict : Nat := 0x110014
def palBlocked : Nat := 0x110018
def palDrop : Nat := 0x11001C
def palWrefuse : Nat := 0x110020
def palPendClr : Nat := 0x110024
def palPendv : Nat := 0x110028
def palGroupLo (n : Nat) : Nat := 0x110100 + n * 0x8
def palGroupHi (n : Nat) : Nat := 0x110104 + n * 0x8
def palPendLo (n : Nat) : Nat := 0x110200 + n * 0x8
def palPendHi (n : Nat) : Nat := 0x110204 + n * 0x8
def palSlock (n : Nat) : Nat := 0x110400 + n * 0x4
def palPnlCtrl : Nat := 0x110800
def palPnlSrcLo : Nat := 0x110804
def palPnlSrcHi : Nat := 0x110808
def palPnlCmd : Nat := 0x11080C
def palPnlStat : Nat := 0x110810
def palPnlTok : Nat := 0x110814
def palPnlBdrop : Nat := 0x110818
def palPnlCount : Nat := 0x11081C
def palPnlHoldt : Nat := 0x110820
def palPnlDig (n : Nat) : Nat := 0x110840 + n * 0x4
/-! 19_power_clock_pins.md Table PW-15. -/
def pwrStat : Nat := 0x30000
def pwrRstcause : Nat := 0x30004
def pwrSwrst : Nat := 0x30008
def pwrPllstat : Nat := 0x3000C
def pwrThctrl : Nat := 0x30010
def pwrRefuse : Nat := 0x30014
def pwrBank : Nat := 0x30018
def pwrDomctl (n : Nat) : Nat := 0x30020 + n * 0x4
def pwrGpout (n : Nat) : Nat := 0x30100 + n * 0x4
def pwrGpoe (n : Nat) : Nat := 0x30110 + n * 0x4
def pwrGpin (n : Nat) : Nat := 0x30120 + n * 0x4
def pwrSafe (n : Nat) : Nat := 0x30200 + n * 0x4
def pwrSafebuf (n : Nat) : Nat := 0x30280 + n * 0x4
def pwrSafecmd : Nat := 0x302D0
def pwrIocfg (n : Nat) : Nat := 0x30400 + n * 0x4
/-! 12_shaga_link.md Table SH-5. -/
def shgCfg : Nat := 0x160000
def shgStat : Nat := 0x160004
def shgDid : Nat := 0x160008
def shgFold : Nat := 0x16000C
def shgSkcfg : Nat := 0x160010
def shgSklead : Nat := 0x160014
def shgSkseq : Nat := 0x160018
def shgHopexc : Nat := 0x160020
def shgNoroute : Nat := 0x160024
def shgRref : Nat := 0x160028
def shgTokdrop : Nat := 0x16002C
def shgTundrop : Nat := 0x160030
def shgDndrop : Nat := 0x160034
def shgFolded : Nat := 0x160038
def shgStray : Nat := 0x16003C
def shgRtidx : Nat := 0x160040
def shgRtw0 : Nat := 0x160044
def shgRtw1 : Nat := 0x160048
def shgRtw2 : Nat := 0x16004C
def shgRtcmd : Nat := 0x160050
def shgRwin (n : Nat) : Nat := 0x160100 + n * 0x4
def shgTun (n : Nat) : Nat := 0x160200 + n * 0x4
def shgProxyLo (n : Nat) : Nat := 0x160400 + n * 0x8
def shgProxyHi (n : Nat) : Nat := 0x160404 + n * 0x8
def shgLcfg (n : Nat) : Nat := 0x160800 + n * 0x40
def shgLstat (n : Nat) : Nat := 0x160804 + n * 0x40
def shgLpeer (n : Nat) : Nat := 0x160808 + n * 0x40
def shgLxp (n : Nat) : Nat := 0x16080C + n * 0x40
def shgLtrim (n : Nat) : Nat := 0x160810 + n * 0x40
def shgLdly (n : Nat) : Nat := 0x160814 + n * 0x40
def shgLrtt (n : Nat) : Nat := 0x160818 + n * 0x40
def shgLcrc (n : Nat) : Nat := 0x16081C + n * 0x40
def shgLdown (n : Nat) : Nat := 0x160820 + n * 0x40
def shgRax (n : Nat) : Nat := 0x161000 + n * 0x4
/-! 09_stream_ports.md Tables SP-10 to SP-14, SP-4, SP-5, SP-7, SP-8. -/
def spgGcfg (n : Nat) : Nat := 0x140000 + n * 0x4000
def spgGstat (n : Nat) : Nat := 0x140004 + n * 0x4000
def lnCfg (n m : Nat) : Nat := 0x140100 + n * 0x4000 + m * 0x20
def lnStat (n m : Nat) : Nat := 0x140104 + n * 0x4000 + m * 0x20
def lnFecc (n m : Nat) : Nat := 0x140108 + n * 0x4000 + m * 0x20
def lnFecu (n m : Nat) : Nat := 0x14010C + n * 0x4000 + m * 0x20
def lnPrbserr (n m : Nat) : Nat := 0x140110 + n * 0x4000 + m * 0x20
def chCfg (n m : Nat) : Nat := 0x140400 + n * 0x4000 + m * 0x100
def chStat (n m : Nat) : Nat := 0x140404 + n * 0x4000 + m * 0x100
def chPfc (n m : Nat) : Nat := 0x140408 + n * 0x4000 + m * 0x100
def chBuf (n m : Nat) : Nat := 0x14040C + n * 0x4000 + m * 0x100
def chRxcorr (n m : Nat) : Nat := 0x140410 + n * 0x4000 + m * 0x100
def chTxcorr (n m : Nat) : Nat := 0x140414 + n * 0x4000 + m * 0x100
def chRxFrames (n m : Nat) : Nat := 0x140440 + n * 0x4000 + m * 0x100
def chRxBytesLo (n m : Nat) : Nat := 0x140444 + n * 0x4000 + m * 0x100
def chRxBytesHi (n m : Nat) : Nat := 0x140448 + n * 0x4000 + m * 0x100
def chRxFcs (n m : Nat) : Nat := 0x14044C + n * 0x4000 + m * 0x100
def chRxRunt (n m : Nat) : Nat := 0x140450 + n * 0x4000 + m * 0x100
def chRxOvsz (n m : Nat) : Nat := 0x140454 + n * 0x4000 + m * 0x100
def chRxNomatch (n m : Nat) : Nat := 0x140458 + n * 0x4000 + m * 0x100
def chRxRdrop (n m : Nat) : Nat := 0x14045C + n * 0x4000 + m * 0x100
def chRxOvf (n m : Nat) : Nat := 0x140460 + n * 0x4000 + m * 0x100
def chRxPfc (n m : Nat) : Nat := 0x140464 + n * 0x4000 + m * 0x100
def chTxFrames (n m : Nat) : Nat := 0x140468 + n * 0x4000 + m * 0x100
def chTxBytesLo (n m : Nat) : Nat := 0x14046C + n * 0x4000 + m * 0x100
def chTxBytesHi (n m : Nat) : Nat := 0x140470 + n * 0x4000 + m * 0x100
def chTxPoison (n m : Nat) : Nat := 0x140474 + n * 0x4000 + m * 0x100
def chTxUnder (n m : Nat) : Nat := 0x140478 + n * 0x4000 + m * 0x100
def chTxPfc (n m : Nat) : Nat := 0x14047C + n * 0x4000 + m * 0x100
def chTxLenerr (n m : Nat) : Nat := 0x140480 + n * 0x4000 + m * 0x100
def chRxPause (n m : Nat) : Nat := 0x140484 + n * 0x4000 + m * 0x100
def chRxMgt (n m : Nat) : Nat := 0x140488 + n * 0x4000 + m * 0x100
def chRxtsInfo (n m : Nat) : Nat := 0x1404C0 + n * 0x4000 + m * 0x100
def chRxtsLo (n m : Nat) : Nat := 0x1404C4 + n * 0x4000 + m * 0x100
def chRxtsHi (n m : Nat) : Nat := 0x1404C8 + n * 0x4000 + m * 0x100
def chTxtsInfo (n m : Nat) : Nat := 0x1404D0 + n * 0x4000 + m * 0x100
def chTxtsLo (n m : Nat) : Nat := 0x1404D4 + n * 0x4000 + m * 0x100
def chTxtsHi (n m : Nat) : Nat := 0x1404D8 + n * 0x4000 + m * 0x100
def spxStat : Nat := 0x150004
def spxMarkdrop : Nat := 0x150010
def spxEgrmark : Nat := 0x150014
def spxEgrpad : Nat := 0x150018
def spxCfgref : Nat := 0x15001C
def spxEgr0 (n : Nat) : Nat := 0x151000 + n * 0x8
def spxEgr1 (n : Nat) : Nat := 0x151004 + n * 0x8
def spxTmpl0 (n : Nat) : Nat := 0x152000 + n * 0x80
def spxTmpl1 (n : Nat) : Nat := 0x152004 + n * 0x80
def spxTmplW (n m : Nat) : Nat := 0x152000 + n * 0x80 + m * 0x4
def spxIng0 (n : Nat) : Nat := 0x154000 + n * 0x8
def spxIng1 (n : Nat) : Nat := 0x154004 + n * 0x8
def spxIscnt (n : Nat) : Nat := 0x156000 + n * 0x4
def spxRule (n m : Nat) : Nat := 0x158000 + n * 0x80 + m * 0x4

end Reg

/-- Rows of block DEV, part 0. -/
def rows_dev_0 : List RegRow := [
  ⟨0x0, 1, 0x4, 1, 0x4, 0, 0, 0, 0⟩,
  ⟨0x4, 1, 0x4, 1, 0x4, 0, 0, 0, 0⟩,
  ⟨0x8, 1, 0x4, 1, 0x4, 0, 1, 0, 0⟩,
  ⟨0xC, 1, 0x4, 1, 0x4, 0, 0, 0, 0⟩,
  ⟨0x10, 3, 0x4, 1, 0x4, 0, 0, 0, 0⟩,
  ⟨0x1C, 1, 0x4, 1, 0x4, 0, 0, 0, 0⟩,
  ⟨0x20, 1, 0x4, 1, 0x4, 0, 0, 0, 0⟩,
  ⟨0x24, 1, 0x4, 1, 0x4, 0, 0, 0, 0⟩,
  ⟨0x28, 1, 0x4, 1, 0x4, 0, 0, 0, 0⟩]

/-- Rows of block MGT, part 0. -/
def rows_mgt_0 : List RegRow := [
  ⟨0x10000, 1, 0x4, 1, 0x4, 0, 0xFF, 0, 0⟩,
  ⟨0x10004, 1, 0x4, 1, 0x4, 0x7F, 0, 0, 0xC⟩,
  ⟨0x10008, 1, 0x4, 1, 0x4, 0, 0x7F, 0, 0⟩,
  ⟨0x1000C, 1, 0x4, 1, 0x4, 0, 0, 0xFFFFFFFF, 0⟩,
  ⟨0x10010, 1, 0x4, 1, 0x4, 0, 0, 0xFFFFFFFF, 0⟩,
  ⟨0x10014, 1, 0x4, 1, 0x4, 0, 0, 0, 0⟩,
  ⟨0x10018, 1, 0x4, 1, 0x4, 0, 0, 0, 0⟩,
  ⟨0x1001C, 1, 0x4, 1, 0x4, 0, 0, 0, 0⟩,
  ⟨0x10040, 1, 0x4, 1, 0x4, 0xFFFF0003, 0, 0, 0x88B50000⟩,
  ⟨0x10044, 1, 0x4, 1, 0x4, 0xFFFFFFFF, 0, 0, 0⟩,
  ⟨0x10048, 1, 0x4, 1, 0x4, 0xFFFF, 0, 0, 0⟩,
  ⟨0x1004C, 1, 0x4, 1, 0x4, 0, 0, 0xFFFFFFFF, 0⟩,
  ⟨0x10050, 1, 0x4, 1, 0x4, 0, 0, 0xFFFFFFFF, 0⟩,
  ⟨0x10100, 8, 0x20, 1, 0x4, 0xFFFFFFFF, 0, 0, 0⟩,
  ⟨0x10104, 8, 0x20, 1, 0x4, 0x7FFFFFFF, 0, 0, 0⟩,
  ⟨0x10108, 8, 0x20, 1, 0x4, 0, 0, 0, 0⟩,
  ⟨0x1010C, 8, 0x20, 1, 0x4, 0, 8, 0, 0⟩,
  ⟨0x10110, 8, 0x20, 1, 0x4, 0, 0, 0, 0⟩,
  ⟨0x10114, 8, 0x20, 1, 0x4, 0, 0, 0, 0⟩,
  ⟨0x10118, 8, 0x20, 1, 0x4, 3, 0, 0, 1⟩,
  ⟨0x10200, 1, 0x4, 1, 0x4, 0xF, 0, 0, 1⟩,
  ⟨0x10204, 1, 0x4, 1, 0x4, 0, 0, 0, 0⟩,
  ⟨0x10208, 1, 0x4, 1, 0x4, 0, 8, 0, 0⟩,
  ⟨0x1020C, 1, 0x4, 1, 0x4, 0, 0, 0xFFFFFFFF, 0⟩]

/-- Rows of block MGT, part 1. -/
def rows_mgt_1 : List RegRow := [
  ⟨0x10210, 1, 0x4, 1, 0x4, 0xFFFFFFFF, 0, 0, 0⟩,
  ⟨0x10214, 1, 0x4, 1, 0x4, 0xFFFFFFFF, 0, 0, 0⟩,
  ⟨0x10218, 1, 0x4, 1, 0x4, 0x1FF, 0, 0, 0⟩,
  ⟨0x1021C, 1, 0x4, 1, 0x4, 0, 0, 0, 0⟩,
  ⟨0x10300, 16, 0x4, 1, 0x4, 0x7FFF, 0, 0, 0⟩,
  ⟨0x10400, 1, 0x4, 1, 0x4, 0x7F, 0, 0, 0⟩,
  ⟨0x10404, 1, 0x4, 1, 0x4, 0, 0, 0, 0⟩,
  ⟨0x10408, 1, 0x4, 1, 0x4, 0xFFFF, 0, 0, 0⟩,
  ⟨0x1040C, 1, 0x4, 1, 0x4, 0, 0, 0, 0⟩,
  ⟨0x10410, 1, 0x4, 1, 0x4, 0, 0, 0, 0⟩,
  ⟨0x10500, 16, 0x4, 1, 0x4, 0, 0, 0, 0⟩,
  ⟨0x10540, 1, 0x4, 1, 0x4, 0xFFFF, 0, 0, 0x6E64⟩,
  ⟨0x10580, 8, 0x8, 1, 0x4, 0, 0, 0, 0⟩,
  ⟨0x10584, 1, 0x4, 1, 0x4, 0x1FFF1FFF, 0, 0, 0x31402C9⟩,
  ⟨0x1058C, 1, 0x4, 1, 0x4, 0x1FFF1FFF, 0, 0, 0x34802F8⟩,
  ⟨0x10594, 1, 0x4, 1, 0x4, 0x1FFF1FFF, 0, 0, 0x31402C9⟩,
  ⟨0x1059C, 1, 0x4, 1, 0x4, 0x1FFF1FFF, 0, 0, 0x4EC0474⟩,
  ⟨0x105A4, 1, 0x4, 1, 0x4, 0x1FFF1FFF, 0, 0, 0x4830415⟩,
  ⟨0x105AC, 1, 0x4, 1, 0x4, 0x1FFF1FFF, 0, 0, 0x4830415⟩,
  ⟨0x105B4, 1, 0x4, 1, 0x4, 0x1FFF1FFF, 0, 0, 0xD8906AE⟩,
  ⟨0x105BC, 1, 0x4, 1, 0x4, 0x1FFF1FFF, 0, 0, 0xD8906AE⟩,
  ⟨0x10584, 8, 0x8, 1, 0x4, 0x1FFF1FFF, 0, 0, 0⟩,
  ⟨0x14000, 64, 0x10, 4, 0x4, 0x1FFFF, 0, 0, 0⟩]

/-- Rows of block LDR, part 0. -/
def rows_ldr_0 : List RegRow := [
  ⟨0x20000, 1, 0x4, 1, 0x4, 0, 0, 0, 0⟩,
  ⟨0x20004, 1, 0x4, 1, 0x4, 0, 0, 0, 0⟩,
  ⟨0x20008, 1, 0x4, 1, 0x4, 0, 0, 0, 0⟩,
  ⟨0x2000C, 1, 0x4, 1, 0x4, 0, 0, 0xFFFFFFFF, 0⟩,
  ⟨0x20010, 2, 0x10, 1, 0x4, 0, 0, 0, 0⟩,
  ⟨0x20014, 2, 0x10, 1, 0x4, 0, 0, 0, 0⟩,
  ⟨0x20018, 2, 0x10, 1, 0x4, 0, 0, 0, 0⟩,
  ⟨0x2001C, 2, 0x10, 1, 0x4, 0, 0, 0, 0⟩,
  ⟨0x20040, 1, 0x4, 1, 0x4, 3, 0, 0, 0⟩,
  ⟨0x20044, 1, 0x4, 1, 0x4, 0xFFFFFFFF, 0, 0, 0⟩,
  ⟨0x20048, 1, 0x4, 1, 0x4, 0, 0, 0, 0⟩,
  ⟨0x2004C, 1, 0x4, 1, 0x4, 0, 0, 0, 0⟩,
  ⟨0x20050, 1, 0x4, 1, 0x4, 0, 0, 0, 0⟩,
  ⟨0x20054, 1, 0x4, 1, 0x4, 0, 0, 0, 0⟩,
  ⟨0x20100, 1, 0x4, 1, 0x4, 0x3FFF, 0, 0, 0x191⟩,
  ⟨0x20104, 1, 0x4, 1, 0x4, 0, 0x1F, 0, 0⟩,
  ⟨0x20108, 1, 0x4, 1, 0x4, 0, 0, 0, 0⟩,
  ⟨0x2010C, 1, 0x4, 1, 0x4, 0, 0, 0xFFFFFFFF, 0⟩,
  ⟨0x20110, 4, 0x4, 1, 0x4, 0, 0, 0xFFFFFFFF, 0⟩,
  ⟨0x20120, 1, 0x4, 1, 0x4, 0, 0x80000000, 0, 0⟩,
  ⟨0x20128, 1, 0x4, 1, 0x4, 0, 0, 0, 0⟩,
  ⟨0x2012C, 1, 0x4, 1, 0x4, 0, 0, 0, 0⟩,
  ⟨0x20130, 1, 0x4, 1, 0x4, 0, 0, 0, 0⟩,
  ⟨0x20134, 1, 0x4, 1, 0x4, 0, 0, 0, 0⟩]

/-- Rows of block LDR, part 1. -/
def rows_ldr_1 : List RegRow := [
  ⟨0x28000, 1, 0x4, 1, 0x4, 0, 4, 0, 0⟩,
  ⟨0x28004, 1, 0x4, 1, 0x4, 0, 0, 0, 0⟩,
  ⟨0x28020, 8, 0x4, 1, 0x4, 0xFFFFFFFF, 0, 0, 0⟩,
  ⟨0x28040, 8, 0x4, 1, 0x4, 0xFFFFFFFF, 0, 0, 0⟩,
  ⟨0x28060, 1, 0x4, 1, 0x4, 0xFFF, 0, 0, 0⟩,
  ⟨0x28064, 1, 0x4, 1, 0x4, 0, 0, 0, 0⟩,
  ⟨0x28068, 1, 0x4, 1, 0x4, 0, 0, 0, 0⟩,
  ⟨0x28070, 1, 0x4, 1, 0x4, 0xFFF, 0, 0, 0⟩,
  ⟨0x28074, 1, 0x4, 1, 0x4, 0, 0, 0, 0⟩,
  ⟨0x28078, 1, 0x4, 1, 0x4, 0, 0, 0, 0⟩,
  ⟨0x28100, 4, 0x20, 8, 0x4, 0, 0, 0, 0⟩,
  ⟨0x28180, 1, 0x4, 1, 0x4, 0xFFFF, 0, 0, 0x3C⟩,
  ⟨0x28184, 1, 0x4, 1, 0x4, 0, 0, 0xFFFFFFFF, 0⟩,
  ⟨0x28188, 1, 0x4, 1, 0x4, 0, 0, 0xFFFFFFFF, 0⟩]

/-- Rows of block PWR, part 0. -/
def rows_pwr_0 : List RegRow := [
  ⟨0x30000, 1, 0x4, 1, 0x4, 0, 0x1F, 0, 0⟩,
  ⟨0x30004, 1, 0x4, 1, 0x4, 0, 0x7F, 0, 1⟩,
  ⟨0x30008, 1, 0x4, 1, 0x4, 0, 0, 0, 0⟩,
  ⟨0x3000C, 1, 0x4, 1, 0x4, 0, 0, 0, 0⟩,
  ⟨0x30010, 1, 0x4, 1, 0x4, 1, 0, 0, 0⟩,
  ⟨0x30014, 1, 0x4, 1, 0x4, 0, 0, 0xFFFFFFFF, 0⟩,
  ⟨0x30018, 1, 0x4, 1, 0x4, 0, 0, 0, 0⟩,
  ⟨0x30020, 11, 0x4, 1, 0x4, 3, 0x10, 0, 0⟩,
  ⟨0x30100, 3, 0x4, 1, 0x4, 0xFFFFFFFF, 0, 0, 0⟩,
  ⟨0x30110, 3, 0x4, 1, 0x4, 0xFFFFFFFF, 0, 0, 0⟩,
  ⟨0x30120, 3, 0x4, 1, 0x4, 0, 0, 0, 0⟩,
  ⟨0x30200, 18, 0x4, 1, 0x4, 0, 0, 0, 0⟩,
  ⟨0x30280, 18, 0x4, 1, 0x4, 0x3FFFFFFF, 0, 0, 0⟩,
  ⟨0x302D0, 1, 0x4, 1, 0x4, 0, 0, 0, 0⟩,
  ⟨0x30400, 176, 0x4, 1, 0x4, 0x7F, 0, 0, 9⟩]

/-- Rows of block INT, part 0. -/
def rows_int_0 : List RegRow := [
  ⟨0x40000, 1, 0x4, 1, 0x4, 0, 0x7F, 0, 0⟩,
  ⟨0x40004, 1, 0x4, 1, 0x4, 0x3FF, 0, 0, 0x00A⟩,
  ⟨0x40008, 1, 0x4, 1, 0x4, 0x7FFF, 0, 0, 0⟩,
  ⟨0x4000C, 1, 0x4, 1, 0x4, 0, 0, 0xFFFFFFFF, 0⟩,
  ⟨0x40010, 1, 0x4, 1, 0x4, 0, 0, 0, 0⟩,
  ⟨0x40014, 1, 0x4, 1, 0x4, 0, 0, 0, 0⟩,
  ⟨0x40018, 1, 0x4, 1, 0x4, 0x3FFF, 0, 0, 0⟩,
  ⟨0x4001C, 1, 0x4, 1, 0x4, 0, 0, 0xFFFFFFFF, 0⟩,
  ⟨0x40020, 1, 0x4, 1, 0x4, 0, 0, 0, 0⟩,
  ⟨0x40024, 1, 0x4, 1, 0x4, 0, 0, 0, 0⟩,
  ⟨0x40028, 1, 0x4, 1, 0x4, 0xFFFFFFFF, 0, 0, 0xFFFFFFFF⟩,
  ⟨0x4002C, 1, 0x4, 1, 0x4, 0xFFFFFFFF, 0, 0, 0xFFFFFFFF⟩,
  ⟨0x40030, 1, 0x4, 1, 0x4, 0xFFFFFFFF, 0, 0, 0⟩,
  ⟨0x40034, 1, 0x4, 1, 0x4, 0xFFFFFFFF, 0, 0, 0⟩,
  ⟨0x40038, 1, 0x4, 1, 0x4, 0xFFFFFFFF, 0, 0, 0⟩,
  ⟨0x4003C, 1, 0x4, 1, 0x4, 0xFFFFFFFF, 0, 0, 0⟩,
  ⟨0x40040, 1, 0x4, 1, 0x4, 0, 0, 0xFFFFFFFF, 0⟩,
  ⟨0x40100, 1, 0x4, 1, 0x4, 0x1F, 0, 0, 0x11⟩,
  ⟨0x40120, 1, 0x4, 1, 0x4, 0x1F, 0, 0, 0x1⟩,
  ⟨0x40140, 1, 0x4, 1, 0x4, 0x1F, 0, 0, 0x15⟩,
  ⟨0x40160, 1, 0x4, 1, 0x4, 0x1F, 0, 0, 0xd⟩,
  ⟨0x40180, 1, 0x4, 1, 0x4, 0x1F, 0, 0, 0xd⟩,
  ⟨0x401A0, 1, 0x4, 1, 0x4, 0x1F, 0, 0, 0xd⟩,
  ⟨0x401C0, 1, 0x4, 1, 0x4, 0x1F, 0, 0, 0x9⟩]

/-- Rows of block INT, part 1. -/
def rows_int_1 : List RegRow := [
  ⟨0x401E0, 1, 0x4, 1, 0x4, 0x1F, 0, 0, 0xd⟩,
  ⟨0x40200, 1, 0x4, 1, 0x4, 0x1F, 0, 0, 0xd⟩,
  ⟨0x40220, 1, 0x4, 1, 0x4, 0x1F, 0, 0, 0xd⟩,
  ⟨0x40240, 1, 0x4, 1, 0x4, 0x1F, 0, 0, 0xd⟩,
  ⟨0x40100, 11, 0x20, 1, 0x4, 0x1F, 0, 0, 0⟩,
  ⟨0x40104, 11, 0x20, 1, 0x4, 0, 0, 0xFFFFFFFF, 0⟩,
  ⟨0x40108, 11, 0x20, 1, 0x4, 0, 0, 0xFFFFFFFF, 0⟩,
  ⟨0x4010C, 11, 0x20, 1, 0x4, 0, 0, 0, 0⟩,
  ⟨0x40110, 11, 0x20, 1, 0x4, 0, 0, 0, 0⟩,
  ⟨0x40114, 11, 0x20, 1, 0x4, 0, 0, 0xFFFFFFFF, 0⟩,
  ⟨0x40300, 1, 0x4, 1, 0x4, 0xF, 0, 0, 0⟩,
  ⟨0x40304, 1, 0x4, 1, 0x4, 0xFFFFFFFF, 0, 0, 0⟩,
  ⟨0x40308, 1, 0x4, 1, 0x4, 0xFFFFFFFF, 0, 0, 0⟩,
  ⟨0x4030C, 1, 0x4, 1, 0x4, 0, 6, 0, 0⟩,
  ⟨0x40310, 1, 0x4, 1, 0x4, 0, 0, 0, 0⟩,
  ⟨0x40314, 1, 0x4, 1, 0x4, 0, 0, 0, 0⟩,
  ⟨0x40318, 1, 0x4, 1, 0x4, 0, 0, 0, 0⟩,
  ⟨0x4031C, 1, 0x4, 1, 0x4, 0, 0, 0, 0⟩,
  ⟨0x40320, 1, 0x4, 1, 0x4, 0, 0, 0, 0⟩,
  ⟨0x40324, 1, 0x4, 1, 0x4, 0, 0, 0, 0⟩,
  ⟨0x40328, 1, 0x4, 1, 0x4, 0, 0, 0, 0⟩,
  ⟨0x41000, 11, 0x100, 32, 0x8, 0, 0, 0, 0⟩,
  ⟨0x41004, 11, 0x100, 32, 0x8, 0, 0, 0, 0⟩,
  ⟨0x44000, 256, 0x20, 1, 0x4, 0, 0, 0, 0⟩]

/-- Rows of block EAS, part 0. -/
def rows_eas_0 : List RegRow := [
  ⟨0x100000, 1, 0x4, 1, 0x4, 3, 0, 0, 0⟩,
  ⟨0x100004, 1, 0x4, 1, 0x4, 0, 0xFF, 0, 0⟩,
  ⟨0x100008, 1, 0x4, 1, 0x4, 0, 0, 0, 0⟩,
  ⟨0x10000C, 1, 0x4, 1, 0x4, 0, 0, 0, 0⟩,
  ⟨0x100010, 1, 0x4, 1, 0x4, 0, 0, 0, 0⟩,
  ⟨0x100014, 1, 0x4, 1, 0x4, 0, 0, 0, 0⟩,
  ⟨0x100018, 1, 0x4, 1, 0x4, 0, 0, 0, 0⟩,
  ⟨0x10001C, 1, 0x4, 1, 0x4, 0, 0, 0, 0⟩,
  ⟨0x100020, 1, 0x4, 1, 0x4, 0, 0, 0xFFFFFFFF, 0⟩,
  ⟨0x100024, 1, 0x4, 1, 0x4, 0, 0, 0xFFFFFFFF, 0⟩,
  ⟨0x100028, 1, 0x4, 1, 0x4, 0, 0, 0xFFFFFFFF, 0⟩,
  ⟨0x10002C, 1, 0x4, 1, 0x4, 0, 0, 0xFFFFFFFF, 0⟩,
  ⟨0x100100, 16, 0x40, 1, 0x4, 0x1FFF7FFF, 0, 0, 0x1F000000⟩,
  ⟨0x100104, 16, 0x40, 1, 0x4, 0x003F3FFF, 0, 0, 0⟩,
  ⟨0x100108, 16, 0x40, 1, 0x4, 0, 0, 0, 0⟩,
  ⟨0x10010C, 16, 0x40, 1, 0x4, 0, 0, 0, 0⟩,
  ⟨0x100110, 16, 0x40, 1, 0x4, 0xFFFFFFFF, 0, 0, 0⟩,
  ⟨0x100114, 16, 0x40, 1, 0x4, 0xFFFFFFFF, 0, 0, 0⟩,
  ⟨0x100118, 16, 0x40, 1, 0x4, 0, 0, 0, 0⟩,
  ⟨0x10011C, 16, 0x40, 1, 0x4, 0xFFFFFFFF, 0, 0, 0⟩,
  ⟨0x100120, 16, 0x40, 1, 0x4, 0, 0, 0, 0⟩,
  ⟨0x100124, 16, 0x40, 1, 0x4, 0, 0, 0, 0⟩,
  ⟨0x100128, 16, 0x40, 1, 0x4, 0, 0, 0, 0⟩,
  ⟨0x10012C, 16, 0x40, 1, 0x4, 0xFFFFFFFF, 0, 0, 0⟩]

/-- Rows of block EAS, part 1. -/
def rows_eas_1 : List RegRow := [
  ⟨0x100130, 16, 0x40, 1, 0x4, 0, 0x1F0, 0, 0⟩,
  ⟨0x100134, 16, 0x40, 1, 0x4, 0, 0, 0xFFFF, 0⟩,
  ⟨0x100138, 16, 0x40, 1, 0x4, 0xFFFFFFFF, 0, 0, 0⟩,
  ⟨0x10013C, 16, 0x40, 1, 0x4, 0, 0, 0, 0⟩,
  ⟨0x100800, 64, 0x4, 1, 0x4, 0xFFFFFFFF, 0, 0, 0⟩,
  ⟨0x100900, 8, 0x20, 4, 0x4, 0xFFFFFFFF, 0, 0, 0⟩,
  ⟨0x100910, 8, 0x20, 1, 0x4, 0xFFF, 0, 0, 0⟩,
  ⟨0x100A00, 64, 0x8, 1, 0x4, 0, 0, 0, 0⟩,
  ⟨0x100A04, 64, 0x8, 1, 0x4, 0, 0, 0, 0⟩,
  ⟨0x101000, 512, 0x8, 1, 0x4, 0, 0, 0, 0⟩,
  ⟨0x101004, 512, 0x8, 1, 0x4, 0, 0, 0, 0⟩]

/-- Rows of block PAL, part 0. -/
def rows_pal_0 : List RegRow := [
  ⟨0x110000, 1, 0x4, 1, 0x4, 0, 0x3F, 0, 0⟩,
  ⟨0x110008, 1, 0x4, 1, 0x4, 0, 0, 0, 0⟩,
  ⟨0x11000C, 1, 0x4, 1, 0x4, 0, 0, 0, 0⟩,
  ⟨0x110010, 1, 0x4, 1, 0x4, 0, 0, 0xFFFFFFFF, 0⟩,
  ⟨0x110014, 1, 0x4, 1, 0x4, 0, 0, 0xFFFFFFFF, 0⟩,
  ⟨0x110018, 1, 0x4, 1, 0x4, 0, 0, 0xFFFFFFFF, 0⟩,
  ⟨0x11001C, 1, 0x4, 1, 0x4, 0, 0, 0xFFFFFFFF, 0⟩,
  ⟨0x110020, 1, 0x4, 1, 0x4, 0, 0, 0xFFFFFFFF, 0⟩,
  ⟨0x110024, 1, 0x4, 1, 0x4, 0, 0, 0, 0⟩,
  ⟨0x110028, 1, 0x4, 1, 0x4, 0, 0, 0, 0⟩,
  ⟨0x110100, 16, 0x8, 1, 0x4, 0, 0, 0, 0⟩,
  ⟨0x110104, 16, 0x8, 1, 0x4, 0, 0, 0, 0⟩,
  ⟨0x110200, 16, 0x8, 1, 0x4, 0, 0, 0, 0⟩,
  ⟨0x110204, 16, 0x8, 1, 0x4, 0, 0, 0, 0⟩,
  ⟨0x110400, 64, 0x4, 1, 0x4, 0x1FF, 0, 0, 0⟩,
  ⟨0x110800, 1, 0x4, 1, 0x4, 0x1FFFFF, 0, 0, 0⟩,
  ⟨0x110804, 1, 0x4, 1, 0x4, 0xFFFFFFC0, 0, 0, 0⟩,
  ⟨0x110808, 1, 0x4, 1, 0x4, 0xFFFF, 0, 0, 0⟩,
  ⟨0x11080C, 1, 0x4, 1, 0x4, 0, 0, 0, 0⟩,
  ⟨0x110810, 1, 0x4, 1, 0x4, 0, 0, 0, 0⟩,
  ⟨0x110814, 1, 0x4, 1, 0x4, 0x1FFF, 0, 0, 0⟩,
  ⟨0x110818, 1, 0x4, 1, 0x4, 0, 0, 0xFFFFFFFF, 0⟩,
  ⟨0x11081C, 1, 0x4, 1, 0x4, 0, 0, 0xFFFFFFFF, 0⟩,
  ⟨0x110820, 1, 0x4, 1, 0x4, 0, 0, 0, 0⟩]

/-- Rows of block PAL, part 1. -/
def rows_pal_1 : List RegRow := [
  ⟨0x110840, 8, 0x4, 1, 0x4, 0, 0, 0, 0⟩]

/-- Rows of block NOC, part 0. -/
def rows_noc_0 : List RegRow := [
  ⟨0x120000, 1, 0x4, 1, 0x4, 0, 0xF, 0, 0⟩,
  ⟨0x120004, 1, 0x4, 1, 0x4, 0xFFFFFFFF, 0, 0, 0x40101008⟩,
  ⟨0x120008, 1, 0x4, 1, 0x4, 0, 0, 0, 0⟩,
  ⟨0x12000C, 1, 0x4, 1, 0x4, 0, 0, 0, 0⟩,
  ⟨0x120010, 1, 0x4, 1, 0x4, 0, 0, 0xFFFFFFFF, 0⟩,
  ⟨0x120014, 1, 0x4, 1, 0x4, 0, 0, 0xFFFFFFFF, 0⟩,
  ⟨0x120018, 1, 0x4, 1, 0x4, 0, 0, 0xFFFFFFFF, 0⟩,
  ⟨0x120400, 24, 0x10, 1, 0x4, 0, 0, 0, 0x3F281⟩,
  ⟨0x120404, 24, 0x10, 1, 0x4, 0x3FFFF, 0, 0, 0x3F281⟩,
  ⟨0x120408, 24, 0x10, 1, 0x4, 0, 0, 0, 0⟩,
  ⟨0x12040C, 24, 0x10, 1, 0x4, 0, 6, 0, 0⟩,
  ⟨0x120600, 24, 0x10, 1, 0x4, 0, 0, 0, 0x3F281⟩,
  ⟨0x120604, 24, 0x10, 1, 0x4, 0x3FFFF, 0, 0, 0x3F281⟩,
  ⟨0x120608, 24, 0x10, 1, 0x4, 0, 0, 0, 0⟩,
  ⟨0x12060C, 24, 0x10, 1, 0x4, 0, 6, 0, 0⟩,
  ⟨0x121000, 48, 0x100, 1, 0x4, 0, 0x1C, 0, 0⟩,
  ⟨0x121004, 48, 0x100, 1, 0x4, 0, 0, 0xFFFFFFFF, 0⟩,
  ⟨0x121008, 48, 0x100, 1, 0x4, 0, 0, 0xFFFFFFFF, 0⟩,
  ⟨0x12100C, 48, 0x100, 1, 0x4, 0, 0, 0xFFFFFFFF, 0⟩,
  ⟨0x121010, 48, 0x100, 4, 0x4, 0x3FFFFF, 0, 0, 0x3FF5DC⟩,
  ⟨0x121020, 48, 0x100, 1, 0x4, 0, 0, 0xFFFFFFFF, 0⟩,
  ⟨0x121024, 48, 0x100, 1, 0x4, 0, 0, 0xFFFFFFFF, 0⟩,
  ⟨0x121030, 48, 0x100, 1, 0x4, 0x1FF, 0, 0, 0xF⟩,
  ⟨0x121034, 48, 0x100, 1, 0x4, 0, 0, 0, 0⟩]

/-- Rows of block NOC, part 1. -/
def rows_noc_1 : List RegRow := [
  ⟨0x121038, 48, 0x100, 1, 0x4, 0, 0, 0, 0⟩,
  ⟨0x12103C, 48, 0x100, 1, 0x4, 0, 0, 0, 0⟩,
  ⟨0x121040, 48, 0x100, 1, 0x4, 0, 0, 0, 0xFFFFFFFF⟩,
  ⟨0x121044, 48, 0x100, 1, 0x4, 0, 0, 0, 0⟩,
  ⟨0x121048, 48, 0x100, 1, 0x4, 0, 0, 0, 0⟩,
  ⟨0x12104C, 48, 0x100, 1, 0x4, 0, 0, 0, 0⟩,
  ⟨0x121050, 48, 0x100, 1, 0x4, 0, 0, 0, 0⟩,
  ⟨0x121060, 48, 0x100, 8, 0x4, 0, 0, 0, 0⟩,
  ⟨0x128000, 48, 0x200, 64, 0x8, 0, 0, 0, 0⟩,
  ⟨0x128004, 48, 0x200, 64, 0x8, 0, 0, 0, 0⟩]

/-- Rows of block SPX, part 0. -/
def rows_spx_0 : List RegRow := [
  ⟨0x150004, 1, 0x4, 1, 0x4, 0, 0xF, 0, 0⟩,
  ⟨0x150010, 1, 0x4, 1, 0x4, 0, 0, 0xFFFFFFFF, 0⟩,
  ⟨0x150014, 1, 0x4, 1, 0x4, 0, 0, 0xFFFFFFFF, 0⟩,
  ⟨0x150018, 1, 0x4, 1, 0x4, 0, 0, 0xFFFFFFFF, 0⟩,
  ⟨0x15001C, 1, 0x4, 1, 0x4, 0, 0, 0xFFFFFFFF, 0⟩,
  ⟨0x151000, 64, 0x8, 1, 0x4, 0x07FFFFFF, 0, 0, 0⟩,
  ⟨0x151004, 64, 0x8, 1, 0x4, 0x3FFF, 0, 0, 0⟩,
  ⟨0x152000, 64, 0x80, 1, 0x4, 0x1FFFFF7F, 0, 0, 0⟩,
  ⟨0x152004, 64, 0x80, 1, 0x4, 0x03FFFFFF, 0, 0, 0⟩,
  ⟨0x152008, 64, 0x80, 2, 0x4, 0, 0, 0, 0⟩,
  ⟨0x152000, 64, 0x80, 32, 0x4, 0xFFFFFFFF, 0, 0, 0⟩,
  ⟨0x154000, 1024, 0x8, 1, 0x4, 0x7FFFFFFF, 0, 0, 0⟩,
  ⟨0x154004, 1024, 0x8, 1, 0x4, 0xFFF, 0, 0, 0⟩,
  ⟨0x156000, 1024, 0x4, 1, 0x4, 0, 0, 0xFFFFFFFF, 0⟩,
  ⟨0x158000, 256, 0x80, 1, 0x4, 0x7FFFF, 0, 0, 0⟩,
  ⟨0x158008, 256, 0x80, 1, 0x4, 0x0FFF0FFF, 0, 0, 0⟩,
  ⟨0x15800C, 256, 0x80, 1, 0x4, 0x00FFFFFF, 0, 0, 0⟩,
  ⟨0x158024, 256, 0x80, 1, 0x4, 0x1FFF, 0, 0, 0⟩,
  ⟨0x158048, 256, 0x80, 1, 0x4, 0x3FF, 0, 0, 0⟩,
  ⟨0x15804C, 256, 0x80, 13, 0x4, 0, 0, 0, 0⟩,
  ⟨0x158000, 256, 0x80, 32, 0x4, 0xFFFFFFFF, 0, 0, 0⟩]

/-- Rows of block SHG, part 0. -/
def rows_shg_0 : List RegRow := [
  ⟨0x160000, 1, 0x4, 1, 0x4, 0x3F, 0, 0, 0⟩,
  ⟨0x160004, 1, 0x4, 1, 0x4, 0, 0xFF, 0, 0⟩,
  ⟨0x160008, 1, 0x4, 1, 0x4, 0, 0, 0, 0⟩,
  ⟨0x16000C, 1, 0x4, 1, 0x4, 0x3FF, 0, 0, 0x32⟩,
  ⟨0x160010, 1, 0x4, 1, 0x4, 0x1F, 0, 0, 0⟩,
  ⟨0x160014, 1, 0x4, 1, 0x4, 0xFFFFFFFF, 0, 0, 0x10000⟩,
  ⟨0x160018, 1, 0x4, 1, 0x4, 0, 0, 0, 0⟩,
  ⟨0x160020, 1, 0x4, 1, 0x4, 0, 0, 0xFFFFFFFF, 0⟩,
  ⟨0x160024, 1, 0x4, 1, 0x4, 0, 0, 0xFFFFFFFF, 0⟩,
  ⟨0x160028, 1, 0x4, 1, 0x4, 0, 0, 0xFFFFFFFF, 0⟩,
  ⟨0x16002C, 1, 0x4, 1, 0x4, 0, 0, 0xFFFFFFFF, 0⟩,
  ⟨0x160030, 1, 0x4, 1, 0x4, 0, 0, 0xFFFFFFFF, 0⟩,
  ⟨0x160034, 1, 0x4, 1, 0x4, 0, 0, 0xFFFFFFFF, 0⟩,
  ⟨0x160038, 1, 0x4, 1, 0x4, 0, 0, 0xFFFFFFFF, 0⟩,
  ⟨0x16003C, 1, 0x4, 1, 0x4, 0, 0, 0xFFFFFFFF, 0⟩,
  ⟨0x160040, 1, 0x4, 1, 0x4, 0x3FFF, 0, 0, 0⟩,
  ⟨0x160044, 1, 0x4, 1, 0x4, 0xFFFFFFFF, 0, 0, 0⟩,
  ⟨0x160048, 1, 0x4, 1, 0x4, 0xFFFFFFFF, 0, 0, 0⟩,
  ⟨0x16004C, 1, 0x4, 1, 0x4, 0x8000FFFF, 0, 0, 0⟩,
  ⟨0x160050, 1, 0x4, 1, 0x4, 0, 0, 0, 0⟩,
  ⟨0x160100, 16, 0x4, 1, 0x4, 0x803FFFFF, 0, 0, 0⟩,
  ⟨0x160200, 16, 0x4, 1, 0x4, 0x7FFFFFFF, 0, 0, 0⟩,
  ⟨0x160400, 128, 0x8, 1, 0x4, 0xFFFFF, 0, 0, 0⟩,
  ⟨0x160404, 128, 0x8, 1, 0x4, 0x80003FFF, 0, 0, 0⟩]

/-- Rows of block SHG, part 1. -/
def rows_shg_1 : List RegRow := [
  ⟨0x160800, 32, 0x40, 1, 0x4, 0x3F, 0, 0, 0x2C⟩,
  ⟨0x160804, 32, 0x40, 1, 0x4, 0, 0xE0, 0, 0⟩,
  ⟨0x160808, 32, 0x40, 1, 0x4, 0, 0, 0, 0⟩,
  ⟨0x16080C, 32, 0x40, 1, 0x4, 0xFFFF, 0, 0, 0⟩,
  ⟨0x160810, 32, 0x40, 1, 0x4, 0xFFFFFFFF, 0, 0, 0⟩,
  ⟨0x160814, 32, 0x40, 1, 0x4, 0, 0, 0, 0⟩,
  ⟨0x160818, 32, 0x40, 1, 0x4, 0, 0, 0, 0⟩,
  ⟨0x16081C, 32, 0x40, 1, 0x4, 0, 0, 0xFFFFFFFF, 0⟩,
  ⟨0x160820, 32, 0x40, 1, 0x4, 0, 0, 0xFFFFFFFF, 0⟩,
  ⟨0x161000, 16, 0x4, 1, 0x4, 0x3F, 0, 0, 0⟩]

/-- Rows of block TBL, part 0. -/
def rows_tbl_0 : List RegRow := [
  ⟨0x180000, 1, 0x4, 1, 0x4, 0, 0x1F, 0, 0⟩,
  ⟨0x180004, 1, 0x4, 1, 0x4, 0, 0, 0, 0⟩,
  ⟨0x180008, 2, 0x4, 1, 0x4, 0, 0, 0, 0⟩,
  ⟨0x180010, 1, 0x4, 1, 0x4, 0, 0, 0, 0⟩,
  ⟨0x180014, 1, 0x4, 1, 0x4, 0, 0, 0, 0⟩,
  ⟨0x180018, 1, 0x4, 1, 0x4, 0, 0, 0xFFFFFFFF, 0⟩,
  ⟨0x18001C, 1, 0x4, 1, 0x4, 0, 0, 0xFFFFFFFF, 0⟩,
  ⟨0x180020, 1, 0x4, 1, 0x4, 0, 0, 0xFFFFFFFF, 0⟩,
  ⟨0x180024, 1, 0x4, 1, 0x4, 0, 0, 0xFFFFFFFF, 0⟩,
  ⟨0x180028, 1, 0x4, 1, 0x4, 0, 0, 0xFFFFFFFF, 0⟩,
  ⟨0x18002C, 1, 0x4, 1, 0x4, 0, 0, 0xFFFFFFFF, 0⟩,
  ⟨0x180100, 64, 0x4, 1, 0x4, 0, 0, 0, 0⟩,
  ⟨0x181000, 64, 0x40, 1, 0x4, 0xFFF, 0, 0, 0⟩,
  ⟨0x181004, 64, 0x40, 1, 0x4, 0xFFFFFF, 0, 0, 0⟩,
  ⟨0x181008, 64, 0x40, 2, 0x4, 0x1FFFFFFF, 0, 0, 0⟩,
  ⟨0x181028, 64, 0x40, 6, 0x4, 0, 0, 0, 0⟩,
  ⟨0x181000, 64, 0x40, 16, 0x4, 0xFFFFFFFF, 0, 0, 0⟩]

/-- Rows of block MEM, part 0. -/
def rows_mem_0 : List RegRow := [
  ⟨0x1A0000, 2, 0x100, 1, 0x4, 0, 0, 0, 8⟩,
  ⟨0x1A0004, 2, 0x100, 1, 0x4, 7, 0, 0, 4⟩,
  ⟨0x1A0008, 2, 0x100, 1, 0x4, 0, 0, 0xFFFFFFFF, 0⟩,
  ⟨0x1A000C, 2, 0x100, 1, 0x4, 0, 0, 0xFFFFFFFF, 0⟩,
  ⟨0x1A0010, 2, 0x100, 1, 0x4, 0, 0, 0, 0⟩,
  ⟨0x1A0014, 2, 0x100, 1, 0x4, 0, 0x80000000, 0, 0⟩,
  ⟨0x1A0018, 2, 0x100, 1, 0x4, 0, 0, 0, 0⟩,
  ⟨0x1A0020, 2, 0x100, 1, 0x4, 0xFFFFFFFF, 0, 0, 0⟩,
  ⟨0x1A0024, 2, 0x100, 1, 0x4, 7, 0, 0, 0⟩,
  ⟨0x1A0028, 2, 0x100, 1, 0x4, 2, 0, 0, 0⟩,
  ⟨0x1A002C, 2, 0x100, 1, 0x4, 0, 0xE, 0, 0⟩,
  ⟨0x1A0030, 2, 0x100, 1, 0x4, 3, 0, 0, 0⟩,
  ⟨0x1A0800, 1, 0x4, 1, 0x4, 0xFFFFFFFF, 0, 0, 0⟩,
  ⟨0x1A0804, 1, 0x4, 1, 0x4, 7, 0, 0, 0⟩]

/-- Rows of block DIS, part 0. -/
def rows_dis_0 : List RegRow := [
  ⟨0x1C0000, 1, 0x4, 1, 0x4, 7, 0, 0, 0⟩,
  ⟨0x1C0004, 1, 0x4, 1, 0x4, 0, 0, 0, 0⟩,
  ⟨0x1C0008, 1, 0x4, 1, 0x4, 0, 0xFF, 0, 0⟩,
  ⟨0x1C000C, 1, 0x4, 1, 0x4, 0, 0, 0, 0⟩,
  ⟨0x1C0010, 1, 0x4, 1, 0x4, 0, 0, 0, 0⟩,
  ⟨0x1C0014, 1, 0x4, 1, 0x4, 0xFFFFFFFF, 0, 0, 0⟩,
  ⟨0x1C0018, 1, 0x4, 1, 0x4, 0, 0, 0, 0⟩,
  ⟨0x1C0020, 1, 0x4, 1, 0x4, 0, 0, 0, 0⟩,
  ⟨0x1C0024, 1, 0x4, 1, 0x4, 0, 0, 0xFFFFFFFF, 0⟩,
  ⟨0x1C0028, 1, 0x4, 1, 0x4, 0, 0, 0xFFFFFFFF, 0⟩,
  ⟨0x1C002C, 1, 0x4, 1, 0x4, 0, 0, 0xFFFFFFFF, 0⟩,
  ⟨0x1C0030, 1, 0x4, 1, 0x4, 0, 0, 0xFFFFFFFF, 0⟩,
  ⟨0x1C0034, 1, 0x4, 1, 0x4, 0, 0, 0xFFFFFFFF, 0⟩,
  ⟨0x1C0038, 1, 0x4, 1, 0x4, 0, 0, 0xFFFFFFFF, 0⟩,
  ⟨0x1C003C, 1, 0x4, 1, 0x4, 0, 0, 0xFFFFFFFF, 0⟩,
  ⟨0x1C0040, 1, 0x4, 1, 0x4, 0, 0, 0xFFFFFFFF, 0⟩,
  ⟨0x1C0100, 8, 0x4, 1, 0x4, 0, 0, 0, 0⟩,
  ⟨0x1C0200, 16, 0x4, 1, 0x4, 0x807FFFFF, 0, 0, 0⟩,
  ⟨0x1C0300, 16, 0x4, 1, 0x4, 0, 0, 0, 0⟩,
  ⟨0x1C4000, 1024, 0x10, 1, 0x4, 0, 0, 0, 0⟩,
  ⟨0x1C4004, 1024, 0x10, 1, 0x4, 0, 0, 0, 0⟩,
  ⟨0x1C4008, 1024, 0x10, 1, 0x4, 0, 0, 0, 0⟩,
  ⟨0x1C400C, 1024, 0x10, 1, 0x4, 0, 0, 0, 0⟩,
  ⟨0x1C8000, 1024, 0x4, 1, 0x4, 0, 0, 0, 0⟩]

/-- Rows of block DIS, part 1. -/
def rows_dis_1 : List RegRow := [
  ⟨0x1CA000, 1024, 0x10, 4, 0x4, 0, 0, 0, 0⟩]

/-- Rows of block CAN, part 0. -/
def rows_can_0 : List RegRow := [
  ⟨0x1000200, 4096, 0x1000, 1, 0x4, 0, 0x1FF00, 0, 0⟩,
  ⟨0x1000204, 4096, 0x1000, 1, 0x4, 5, 0, 0, 0⟩,
  ⟨0x1000208, 4096, 0x1000, 1, 0x4, 0, 0, 0, 0⟩,
  ⟨0x100020C, 4096, 0x1000, 1, 0x4, 0, 0, 0xFFFFFFFF, 0⟩,
  ⟨0x1000210, 4096, 0x1000, 1, 0x4, 0, 0, 0xFFFFFFFF, 0⟩,
  ⟨0x1000214, 4096, 0x1000, 1, 0x4, 0, 0, 0xFFFFFFFF, 0⟩,
  ⟨0x1000218, 4096, 0x1000, 1, 0x4, 0, 0, 0xFFFFFFFF, 0⟩,
  ⟨0x100021C, 4096, 0x1000, 1, 0x4, 0, 0, 0xFFFFFFFF, 0⟩,
  ⟨0x1000220, 4096, 0x1000, 1, 0x4, 0, 0, 0xFFFFFFFF, 0⟩,
  ⟨0x1000224, 4096, 0x1000, 1, 0x4, 0, 0, 0xFFFFFFFF, 0⟩,
  ⟨0x1000228, 4096, 0x1000, 1, 0x4, 0, 0, 0xFFFFFFFF, 0⟩,
  ⟨0x100022C, 4096, 0x1000, 1, 0x4, 0, 0, 0xFFFFFFFF, 0⟩,
  ⟨0x1000230, 4096, 0x1000, 1, 0x4, 0, 0, 0, 0⟩,
  ⟨0x1000234, 4096, 0x1000, 1, 0x4, 0, 0, 0, 0⟩,
  ⟨0x1000238, 4096, 0x1000, 1, 0x4, 0, 0, 0, 0⟩,
  ⟨0x100023C, 4096, 0x1000, 1, 0x4, 0, 0, 0, 0xAAAA⟩,
  ⟨0x1000240, 4096, 0x1000, 1, 0x4, 0, 0, 0xFFFF, 0⟩,
  ⟨0x1000244, 4096, 0x1000, 1, 0x4, 0, 0x80000000, 0, 0⟩,
  ⟨0x1000248, 4096, 0x1000, 1, 0x4, 0, 0xFF, 0, 0⟩,
  ⟨0x100024C, 4096, 0x1000, 1, 0x4, 0, 0, 0xFFFFFFFF, 0⟩,
  ⟨0x1000250, 4096, 0x1000, 1, 0x4, 0, 0, 0xFFFF, 0⟩,
  ⟨0x1000254, 4096, 0x1000, 1, 0x4, 0, 0x80000000, 0, 0⟩,
  ⟨0x1000258, 4096, 0x1000, 1, 0x4, 0x1FF, 0, 0, 0⟩,
  ⟨0x100025C, 4096, 0x1000, 1, 0x4, 0, 0, 0, 0⟩]

/-- Rows of block CAN, part 1. -/
def rows_can_1 : List RegRow := [
  ⟨0x1000280, 4096, 0x1000, 1, 0x4, 0, 0, 0, 0⟩,
  ⟨0x1000284, 4096, 0x1000, 1, 0x4, 0, 0, 0, 0⟩,
  ⟨0x1000288, 4096, 0x1000, 1, 0x4, 0, 0, 0, 0⟩,
  ⟨0x100028C, 4096, 0x1000, 1, 0x4, 0, 0, 0, 0⟩,
  ⟨0x1000290, 4096, 0x1000, 1, 0x4, 0, 0, 0, 0⟩,
  ⟨0x1000294, 4096, 0x1000, 1, 0x4, 0, 0, 0, 0⟩,
  ⟨0x1000298, 4096, 0x1000, 1, 0x4, 0, 0, 0, 0⟩,
  ⟨0x100029C, 4096, 0x1000, 4, 0x4, 0, 0, 0, 0⟩,
  ⟨0x10002AC, 4096, 0x1000, 1, 0x4, 0, 0, 0, 0⟩,
  ⟨0x10002B0, 4096, 0x1000, 1, 0x4, 0, 0, 0, 0⟩,
  ⟨0x10002B4, 4096, 0x1000, 1, 0x4, 0, 0, 0, 0⟩,
  ⟨0x1000300, 4096, 0x1000, 4, 0x10, 0, 0, 0, 0⟩,
  ⟨0x1000304, 4096, 0x1000, 4, 0x10, 0, 0, 0, 0⟩,
  ⟨0x1000308, 4096, 0x1000, 4, 0x10, 0, 0, 0, 0⟩,
  ⟨0x1000340, 4096, 0x1000, 4, 0x4, 0, 0, 0, 0⟩,
  ⟨0x1000350, 4096, 0x1000, 1, 0x4, 0, 0, 0, 0⟩,
  ⟨0x1000354, 4096, 0x1000, 1, 0x4, 0, 0, 0, 0⟩,
  ⟨0x1000358, 4096, 0x1000, 1, 0x4, 0, 0, 0, 0⟩,
  ⟨0x100035C, 4096, 0x1000, 1, 0x4, 0, 0, 0, 0⟩,
  ⟨0x1000360, 4096, 0x1000, 1, 0x4, 0, 0, 0, 0⟩,
  ⟨0x1000364, 4096, 0x1000, 1, 0x4, 0, 0xC, 0, 0⟩,
  ⟨0x1000368, 4096, 0x1000, 1, 0x4, 0, 0, 0, 0⟩]

/-- Rows of block CND, part 0. -/
def rows_cnd_0 : List RegRow := [
  ⟨0x200000, 8, 0x10000, 1, 0x4, 6, 0, 0, 0⟩,
  ⟨0x200004, 8, 0x10000, 1, 0x4, 0, 0x200, 0, 0⟩,
  ⟨0x200008, 8, 0x10000, 1, 0x4, 0xFE00, 0, 0, 0⟩,
  ⟨0x20000C, 8, 0x10000, 1, 0x4, 0, 0, 0, 0⟩,
  ⟨0x200010, 8, 0x10000, 1, 0x4, 0, 0, 0, 0⟩,
  ⟨0x200014, 8, 0x10000, 1, 0x4, 0, 0, 0, 0⟩,
  ⟨0x200018, 8, 0x10000, 1, 0x4, 0, 0x80000000, 0, 0⟩,
  ⟨0x20001C, 8, 0x10000, 1, 0x4, 0, 0, 0, 0⟩,
  ⟨0x200020, 8, 0x10000, 1, 0x4, 0, 0, 0, 0⟩,
  ⟨0x200024, 8, 0x10000, 1, 0x4, 0, 0, 0, 0⟩,
  ⟨0x200028, 8, 0x10000, 1, 0x4, 0, 0, 0, 0⟩,
  ⟨0x20002C, 8, 0x10000, 1, 0x4, 0, 0, 0xFFFFFFFF, 0⟩,
  ⟨0x200030, 8, 0x10000, 1, 0x4, 0, 0, 0xFFFF, 0⟩,
  ⟨0x200034, 8, 0x10000, 1, 0x4, 0, 0, 0xFFFFFFFF, 0⟩,
  ⟨0x200038, 8, 0x10000, 1, 0x4, 0, 0, 0xFFFFFFFF, 0⟩,
  ⟨0x200040, 8, 0x10000, 8, 0x4, 0, 0, 0, 0⟩,
  ⟨0x200060, 8, 0x10000, 8, 0x4, 0, 0, 0, 0⟩,
  ⟨0x200100, 8, 0x10000, 1, 0x4, 0, 0, 0, 0⟩,
  ⟨0x200104, 8, 0x10000, 1, 0x4, 0, 0, 0, 0⟩,
  ⟨0x200108, 8, 0x10000, 1, 0x4, 0, 0, 0, 0⟩]

/-- Rows of block SPG, part 0. -/
def rows_spg_0 : List RegRow := [
  ⟨0x140000, 4, 0x4000, 1, 0x4, 7, 0, 0, 0⟩,
  ⟨0x140004, 4, 0x4000, 1, 0x4, 0, 0, 0, 0⟩,
  ⟨0x140100, 4, 0x4000, 8, 0x20, 0x1FFFF, 0, 0, 0x4000⟩,
  ⟨0x140104, 4, 0x4000, 8, 0x20, 0, 0x400, 0, 0⟩,
  ⟨0x140108, 4, 0x4000, 8, 0x20, 0, 0, 0xFFFFFFFF, 0⟩,
  ⟨0x14010C, 4, 0x4000, 8, 0x20, 0, 0, 0xFFFFFFFF, 0⟩,
  ⟨0x140110, 4, 0x4000, 8, 0x20, 0, 0, 0xFFFFFFFF, 0⟩,
  ⟨0x140400, 4, 0x4000, 8, 0x100, 0x7FFFF, 0, 0, 0x800⟩,
  ⟨0x140404, 4, 0x4000, 8, 0x100, 0, 0x7E, 0, 0⟩,
  ⟨0x140408, 4, 0x4000, 8, 0x100, 0xFFFFFFFF, 0, 0, 0xFFFF0000⟩,
  ⟨0x14040C, 4, 0x4000, 8, 0x100, 0xFFFFFFFF, 0, 0, 0x00800100⟩,
  ⟨0x140410, 4, 0x4000, 8, 0x100, 0xFFFFFFFF, 0, 0, 0⟩,
  ⟨0x140414, 4, 0x4000, 8, 0x100, 0xFFFFFFFF, 0, 0, 0⟩,
  ⟨0x140440, 4, 0x4000, 8, 0x100, 0, 0, 0xFFFFFFFF, 0⟩,
  ⟨0x140444, 4, 0x4000, 8, 0x100, 0, 0, 0, 0⟩,
  ⟨0x140448, 4, 0x4000, 8, 0x100, 0, 0, 0, 0⟩,
  ⟨0x14044C, 4, 0x4000, 8, 0x100, 0, 0, 0xFFFFFFFF, 0⟩,
  ⟨0x140450, 4, 0x4000, 8, 0x100, 0, 0, 0xFFFFFFFF, 0⟩,
  ⟨0x140454, 4, 0x4000, 8, 0x100, 0, 0, 0xFFFFFFFF, 0⟩,
  ⟨0x140458, 4, 0x4000, 8, 0x100, 0, 0, 0xFFFFFFFF, 0⟩,
  ⟨0x14045C, 4, 0x4000, 8, 0x100, 0, 0, 0xFFFFFFFF, 0⟩,
  ⟨0x140460, 4, 0x4000, 8, 0x100, 0, 0, 0xFFFFFFFF, 0⟩,
  ⟨0x140464, 4, 0x4000, 8, 0x100, 0, 0, 0xFFFFFFFF, 0⟩,
  ⟨0x140468, 4, 0x4000, 8, 0x100, 0, 0, 0xFFFFFFFF, 0⟩]

/-- Rows of block SPG, part 1. -/
def rows_spg_1 : List RegRow := [
  ⟨0x14046C, 4, 0x4000, 8, 0x100, 0, 0, 0, 0⟩,
  ⟨0x140470, 4, 0x4000, 8, 0x100, 0, 0, 0, 0⟩,
  ⟨0x140474, 4, 0x4000, 8, 0x100, 0, 0, 0xFFFFFFFF, 0⟩,
  ⟨0x140478, 4, 0x4000, 8, 0x100, 0, 0, 0xFFFFFFFF, 0⟩,
  ⟨0x14047C, 4, 0x4000, 8, 0x100, 0, 0, 0xFFFFFFFF, 0⟩,
  ⟨0x140480, 4, 0x4000, 8, 0x100, 0, 0, 0xFFFFFFFF, 0⟩,
  ⟨0x140484, 4, 0x4000, 8, 0x100, 0, 0, 0xFFFFFFFF, 0⟩,
  ⟨0x140488, 4, 0x4000, 8, 0x100, 0, 0, 0xFFFFFFFF, 0⟩,
  ⟨0x1404C0, 4, 0x4000, 8, 0x100, 0, 0, 0, 0⟩,
  ⟨0x1404C4, 4, 0x4000, 8, 0x100, 0, 0, 0, 0⟩,
  ⟨0x1404C8, 4, 0x4000, 8, 0x100, 0, 0, 0, 0⟩,
  ⟨0x1404D0, 4, 0x4000, 8, 0x100, 0, 0, 0, 0⟩,
  ⟨0x1404D4, 4, 0x4000, 8, 0x100, 0, 0, 0, 0⟩,
  ⟨0x1404D8, 4, 0x4000, 8, 0x100, 0, 0, 0, 0⟩]

/-- The rows of the block that owns an address (Table SC-6). -/
def blockRows (a : Nat) : List RegRow :=
  if 0x0 ≤ a ∧ a ≤ 0xFFFF then rows_dev_0
  else if 0x10000 ≤ a ∧ a ≤ 0x1FFFF then rows_mgt_0 ++ rows_mgt_1
  else if 0x20000 ≤ a ∧ a ≤ 0x2FFFF then rows_ldr_0 ++ rows_ldr_1
  else if 0x30000 ≤ a ∧ a ≤ 0x3FFFF then rows_pwr_0
  else if 0x40000 ≤ a ∧ a ≤ 0x4FFFF then rows_int_0 ++ rows_int_1
  else if 0x100000 ≤ a ∧ a ≤ 0x10FFFF then rows_eas_0 ++ rows_eas_1
  else if 0x110000 ≤ a ∧ a ≤ 0x11FFFF then rows_pal_0 ++ rows_pal_1
  else if 0x120000 ≤ a ∧ a ≤ 0x12FFFF then rows_noc_0 ++ rows_noc_1
  else if 0x150000 ≤ a ∧ a ≤ 0x15FFFF then rows_spx_0
  else if 0x160000 ≤ a ∧ a ≤ 0x16FFFF then rows_shg_0 ++ rows_shg_1
  else if 0x180000 ≤ a ∧ a ≤ 0x18FFFF then rows_tbl_0
  else if 0x1A0000 ≤ a ∧ a ≤ 0x1AFFFF then rows_mem_0
  else if 0x1C0000 ≤ a ∧ a ≤ 0x1CFFFF then rows_dis_0 ++ rows_dis_1
  else if 0x1000000 ≤ a ∧ a ≤ 0x1FFFFFF then rows_can_0 ++ rows_can_1
  else if 0x200000 ≤ a ∧ a ≤ 0x27FFFF then rows_cnd_0
  else if 0x140000 ≤ a ∧ a ≤ 0x14FFFF then rows_spg_0 ++ rows_spg_1
  else []

/-- Whether a row holds the register at address `a`. -/
def RegRow.has (r : RegRow) (a : Nat) : Bool :=
  if a < r.base then false
  else
    let d := a - r.base
    let i := d / r.s1
    if i < r.n1 then
      let q := d - i * r.s1
      q % r.s2 == 0 && q / r.s2 < r.n2
    else false

/-- The row of the register at address `a`, if some chapter maps one there. -/
def regRow (a : Nat) : Option RegRow := (blockRows a).find? (fun r => r.has a)

/-- The reset value of the register at address `a`; an unmapped offset reads zero (R18). -/
def regReset (a : Nat) : Word :=
  match regRow a with
  | some r => word r.reset
  | none => 0#32

end Sys2Proof.Machine
end

