-- ==== Sys2Proof/Machine/State.lean ====
section
/-! DEFINITION. Sys2Proof/Machine/State.lean: everything the spec gives the block, as plain data, with the
value every part has at reset, the reasons a step can stop, and the queue of waiting commands. Registers that
no part below holds stand in `State.regs`, a sparse map over their addresses. -/
namespace Sys2Proof.Machine

/-- Who made an access of the register space or the global space, and so receives its response (log 7). -/
inductive Asker where
  /-- The command that names the access. -/
  | direct (p : Path)
  /-- The management port, and MGTACC of JTAG. -/
  | msp
  | jtag
  /-- Access number `no` of window `k`. -/
  | window (k no : Nat)
  /-- The load of bank `b` of conductor `c`, and the oldest store of its store buffer. -/
  | load (c b : Nat)
  | store (c : Nat)
  /-- Flit `i` of in-band REQ frame `no`, from channel `ch`. -/
  | ib (ch no i : Nat)
  /-- A request packet that reached NI `n`. -/
  | flight (n : Nat) (pk : Packet)
  /-- A request that another device sent in a flit cell, by the cell header and the flit header. -/
  | remote (hdr : BitVec 128) (flit : BitVec 64)
  /-- An initiator of NI `n` that has been answered TIMEOUT. -/
  | gone (n : Nat)
  /-- The sender of a posted write over path `p`, on device `dev` where it came over Shaga: no response follows. -/
  | posted (p : Path) (dev : Nat)
  deriving DecidableEq, Repr

/-! ## Easel (02_easel_axes.md, 03_easel_schedule.md) -/

/-- The interpolator and accumulator of one axis (R48, R59, R61), with what step 6 of Table EA-6 sees of the EKL cycle. -/
structure Axis where
  /-- Count C (R48). -/
  c : Int := 0
  /-- Fraction accumulator A, 48 bits (R48). -/
  a : Nat := 0
  /-- Increment INC, 48 bits (R48). -/
  inc : Nat := 0
  /-- EKL cycles since the last edge (R48). -/
  e : Nat := 0
  /-- Direction d of the last edge: true for −1. -/
  neg : Bool := false
  /-- Whether an edge interval is known (R48). -/
  known : Bool := false
  /-- Last measured period T of a period axis (R47). -/
  period : Option Nat := none
  /-- Whether the load of IDX_MODE 2 is armed (R52). -/
  idxArmed : Bool := false
  /-- Time accumulator, in units of 2^-48 ns (R59). -/
  acc : Int := 0
  /-- STEP of a time axis now in use (R59). -/
  step : Nat := 225179981368524
  /-- A new STEP is being computed (RATE_BUSY, R59). -/
  rateBusy : Bool := false
  /-- Position of a remote axis, in units of 2^-48 count (R255). -/
  racc : Int := 0
  /-- Beacon velocity of a remote axis, 2^-48 count per EKL cycle (R255). -/
  rvel : Int := 0
  /-- MOVING of a remote axis (R255, R62). -/
  rmoving : Bool := false
  /-- LOST (R62). -/
  lost : Bool := false
  /-- Value held for AXn_POS_HI (R63). -/
  posHi : Word := 0#32
  /-- Levels of A, B and Z last presented to the decoder (R39, R43). -/
  lvA : Bool := false
  lvB : Bool := false
  lvZ : Bool := false
  /-- Position of the EKL cycle before the present one (R75). -/
  prev : Pos := 0#64
  /-- The present EKL cycle holds a counting edge (R75). -/
  edge : Bool := false
  /-- The present EKL cycle holds a jump (R55, R68). -/
  jump : Bool := false
  /-- A counting edge or a beacon has already opened the next EKL cycle of this axis (log 3). -/
  opened : Bool := false
  /-- Wraps that step 4 of Table EA-6 adds to AXn_REV in the present cycle; AXn_REV shows them (R56, R57). -/
  wraps : Int := 0
  /-- AXn_VEL takes the velocity of a counting edge in the next cycle (R51). -/
  velDue : Bool := false
  deriving DecidableEq, Repr

/-- A schedule entry: its four words (Table ES-1) and its crossing state (R68). -/
structure Entry where
  w0 : Word := 0#32
  w1 : Word := 0#32
  w2 : Word := 0#32
  w3 : Word := 0#32
  fresh : Bool := false
  qup : Bool := false
  qdn : Bool := false
  /-- First EKL cycle in which the entry is evaluated after a recurrence (R71). -/
  notBefore : Nat := 0
  deriving DecidableEq, Repr

/-- An output timing pin (R74 to R77). -/
structure Pin where
  /-- Internal level: true is the active level. -/
  active : Bool := false
  /-- End of the running pulse, as an EKL cycle, with the tap of its trailing edge. -/
  pulse : Option (Nat × Nat) := none
  /-- Time of the previous edge in units of 100 ps (R76). -/
  lastEdge : Option Nat := none
  deriving DecidableEq, Repr

/-- A Dispatcher token (R292). -/
structure Token where
  tid  : Nat
  slot : Nat
  val  : Word
  deriving DecidableEq, Repr

/-- A Palette command in flight, or a marker, token or other action target already taken in this EKL cycle (R72). -/
structure Fired where
  act : Nat
  target : Nat
  deriving DecidableEq, Repr

/-- A WRITE (1), ARM (3) or DISARM (4) of staging set `k`, a WRITE with its words (R86). -/
structure StageOp where
  k  : Nat
  op : Nat
  w0 : Word := 0#32
  w1 : Word := 0#32
  w2 : Word := 0#32
  w3 : Word := 0#32
  deriving DecidableEq, Repr

/-- The staging operations of one EKL cycle on one entry, in ascending `k`, and the entry before them (R86). -/
structure Staged where
  idx  : Nat
  base : Entry
  ops  : List StageOp
  deriving DecidableEq, Repr

/-- State of the Easel beside its registers. -/
structure Easel where
  axes : SMap Axis := []
  entries : SMap Entry := []
  pins : SMap Pin := []
  /-- Accepted levels after synchroniser and filter, before INV (R40). -/
  level : BitVec 64 := 0#64
  /-- Recurrence steps and stored Palette commands as applied (R87). -/
  rstep : SMap (BitVec 64) := []
  pcmd : SMap (BitVec 64) := []
  /-- The latch shared by all EAS_RSTEPj and EAS_PCMDi pairs (R87). -/
  pairLatch : Word := 0#32
  /-- The Easel token FIFO of 64 tokens, oldest first (R81). -/
  tokFifo : List Token := []
  /-- Targets acted on in this EKL cycle (R72). -/
  fired : List Fired := []
  /-- Lowest index of the entries that fired a SKETCH action in this EKL cycle (R72). -/
  sketch : Option Nat := none
  /-- Staging operations of this EKL cycle (R86). -/
  staged : List Staged := []
  /-- READ operations of this EKL cycle: staging set, entry, and whether each of its words still takes the result (R86). -/
  reads : List (Nat × Nat × List Nat) := []
  deriving DecidableEq, Repr

/-! ## Integrity and fault collector (17_integrity.md) -/

/-- The contents of a FAULT flit (Table IN-2). -/
structure Report where
  code  : Nat
  unit  : Nat
  subj  : Nat
  count : Nat
  first : Nat
  last  : Nat
  span  : Nat
  deriving DecidableEq, Repr

/-- An entry of the fault collector (R361). -/
structure FEntry where
  valid  : Bool := false
  unit   : Nat := 0
  subj   : Nat := 0
  code   : Nat := 0
  count  : Nat := 0
  first  : Nat := 0
  last   : Nat := 0
  tf     : Nat := 0
  tl     : Nat := 0
  remote : Bool := false
  /-- A report merged into the entry in this epoch (R364). -/
  merged : Bool := false
  deriving DecidableEq, Repr

/-- An entry of a persistent-error tracker (R357): 0 free, 1 CANDIDATE, 2 MARKED, 3 PERSISTENT. -/
structure Track where
  addr  : Nat := 0
  state : Nat := 0
  l     : Nat := 0
  /-- Order of entry, for "oldest". -/
  age   : Nat := 0
  deriving DecidableEq, Repr

/-- State of a stored word: correct, correctable, uncorrectable, poison, or an error pattern of three or more
check bits, given by its mask, whose outcome R428 leaves open. -/
inductive Ecc where
  | ok
  | correctable
  | uncorrectable
  | poison
  | open_ (mask : Nat)
  deriving DecidableEq, Repr

/-- State of the integrity block beside its registers. -/
structure Integ where
  /-- Condition of the words of classes 6 to 10, keyed by 2^32·class + class address (R351). -/
  eccs : SMap Ecc := []
  /-- FAULT flits on their way to the collector, oldest first. -/
  inbox : List Report := []
  /-- Unit, code and subject already reported in this epoch (R358). -/
  sent : List (Nat × Nat × Nat) := []
  entries : SMap FEntry := []
  /-- Tokens of the collector waiting for Dispatcher credit (R364), at most 16. -/
  tokens : List Token := []
  /-- Subject and code already forwarded in this epoch (R365). -/
  fwd : List (Nat × Nat) := []
  /-- Epoch length of the running epoch, ms (R358). -/
  epochMs : Nat := 10
  /-- Trackers, entry i of class c at 32c + i (R357). -/
  tracks : SMap Track := []
  trackAge : Nat := 0
  /-- Next class address of the background scrubber of each class (R355). -/
  scrubPtr : SMap Nat := []
  /-- Class and next address of the running pass (R356). -/
  pass : Option (Nat × Nat) := none
  passAbort : Bool := false
  passEnd : Nat := 0
  /-- Whether a failing address was found in the running pass. -/
  passHit : Bool := false
  /-- FLT_TIME_HI as latched by the read of FLT_TIME_LO. -/
  timeHi : Word := 0#32
  deriving DecidableEq, Repr

/-! ## Dispatcher (14_dispatcher.md) -/

/-- State of a thread beside its descriptor registers (R291 to R303). -/
structure Thread where
  cfg  : Word := 0#32
  ent  : Word := 0#32
  slh  : Word := 0#32
  sp   : Word := 0#32
  /-- 0 DISABLED, 1 WAIT, 2 READY, 3 ACTIVE, 4 FAULTED. -/
  state : Nat := 0
  slot0 : Option Word := none
  slot1 : Option Word := none
  slot2 : Option Word := none
  slot3 : Option Word := none
  pend : Bool := false
  /-- Core and bank of residence. -/
  res : Option (Nat × Nat) := none
  cold : Bool := true
  /-- Inside a blocked episode of R300. -/
  nested : Bool := false
  /-- Order of the last run, for "least recently run" (R299). -/
  lastRun : Nat := 0
  /-- A write of V = 0 waits for the end of the run to free the bank (R302). -/
  dying : Bool := false
  deriving DecidableEq, Repr

/-- A token channel (Table DI-2). -/
structure Chan where
  /-- Tokens sent by the source and not yet arrived. -/
  transit : List Token := []
  /-- Landing buffer, oldest first, at most 8. -/
  landing : List Token := []
  deriving DecidableEq, Repr

/-- A token of the overflow queue, with the condition of its word (class 6 of Table IN-1). -/
structure QTok where
  tk  : Token
  ecc : Ecc := .ok
  deriving DecidableEq, Repr

/-- State of the Dispatcher beside its registers. -/
structure Disp where
  threads : SMap Thread := []
  /-- READY threads of each priority, head first. -/
  ready : SMap (List Nat) := []
  /-- Overflow queue of 2,048 tokens, oldest first (R294). -/
  overflow : List QTok := []
  chans : SMap Chan := []
  runCount : Nat := 0
  /-- Writes of DIS_INJ waiting for a credit, with the EKL cycle of each (R424). -/
  injWait : List (Token × Nat × Asker) := []
  deriving DecidableEq, Repr

/-! ## On-chip network (11_noc.md) -/

/-- Where a flit is. -/
inductive Place where
  /-- In input buffer `inp` of router `r` of its layer: 0 to 3 for the sides N, E, S and W, 4 and 5 for its two NIs (R224). -/
  | router (r inp : Nat)
  /-- Ejected to NI `n`. -/
  | ni (n : Nat)
  deriving DecidableEq, Repr

/-- A flit on the network: its header as it stands (R228), where it is and when it came there, and whether it has counted a
breach (R234). -/
structure Flit where
  hdr : BitVec 64
  at_ : Place
  seq : Nat := 0
  breached : Bool := false
  deriving DecidableEq, Repr

/-- A packet on the network: its number, the packet as it was injected, and its flits, first to last. -/
structure Flight where
  no : Nat := 0
  pk : Packet
  flits : List Flit
  deriving DecidableEq, Repr

/-- A request an NI has injected and not yet seen answered (R227). -/
structure Outst where
  tag : Nat
  opc : Nat
  lay : Layer
  tc  : Nat
  start : Nat
  deriving DecidableEq, Repr

/-- A network interface. -/
structure NI where
  /-- Bucket level of each class, in 1/1,500 flit, may be negative (R233). -/
  l0 : Int := 1536000
  l1 : Int := 1536000
  l2 : Int := 1536000
  l3 : Int := 1536000
  /-- NCK cycle up to which the buckets have been refilled, and NCK cycles so credited since the last INJECT (log 61). -/
  tick : Nat := 0
  since : Nat := 0
  routes : SMap (Word × Word) := []
  /-- The latched low half of each route entry (R230, R425). -/
  rtLatch : SMap Word := []
  /-- Packets that wait for injection, with their destination NIs, oldest first (R233). -/
  queue : List (Nat × Packet) := []
  outst : List Outst := []
  /-- Responses delivered to the units of this NI, newest first. -/
  got : List Packet := []
  /-- Classes named by a GUARANTEE_BREACH report of this epoch (R234). -/
  named : Nat := 0
  /-- EKL cycle of the last such report, whose mask names every class that advances in its cycle (R234). -/
  brkAt : Option Nat := none
  bytesHi : Word := 0#32
  sumHi : Word := 0#32
  deriving DecidableEq, Repr

/-- State of the network beside its registers. -/
structure Noc where
  flights : List Flight := []
  /-- Numbers given to packets and to arrivals of flits so far. -/
  count : Nat := 0
  /-- The packet whose flits hold an output in their class (R224), keyed by 768·layer + 32·router + 4·output + class. -/
  locks : SMap (Option Nat) := []
  /-- Requests of the units of NIs that are performed without a packet and not yet answered: who asked, from which NI, in
  which class, since which EKL cycle (R235, log 40). -/
  asks : List (Asker × Nat × Nat × Nat) := []
  /-- Flits sent in the running round robin of an output by TC2, TC3 and unmarked TC1 (R231), keyed by
  192·layer + 8·router + output. -/
  rounds : SMap (Nat × Nat × Nat) := []
  nis : SMap NI := []
  deriving DecidableEq, Repr

/-! ## Canvas (04_canvas_tile.md to 07_context_word.md) -/

/-- A channel word: 32 data bits and the tag of Table CT-3 (0 data, 1 data-last, 2 marker, 3 poison). -/
structure ChWord where
  data : Word
  tag  : Nat
  deriving DecidableEq, Repr

/-- A word of tile, conductor or Dispatcher memory. -/
structure MCell where
  data : Word := 0#32
  ecc  : Ecc := .ok
  deriving DecidableEq, Repr

/-- A protected word of the context store (R152). -/
structure CCell where
  data : BitVec 64 := 0#64
  ecc  : Ecc := .ok
  deriving DecidableEq, Repr

/-- An address generator (R113): live geometry, signed offset, pointer, staged geometry. A length of 0 stands for 1,024. -/
structure AGen where
  base  : Nat := 0
  len   : Nat := 0
  off   : Int := 0
  ptr   : Nat := 0
  sbase : Nat := 0
  slen  : Nat := 0
  pend  : Bool := false
  deriving DecidableEq, Repr

/-- A tile register t0 to t3 (R105). -/
structure TReg where
  val    : Word := 0#32
  poison : Bool := false
  deriving DecidableEq, Repr

/-- An armed Palette command (R168) and the number under which its completion is tracked (R175). -/
structure Arm where
  slot   : Nat
  min    : Nat
  many   : Bool
  mmatch : Nat
  mcode  : Nat
  track  : Nat
  deriving DecidableEq, Repr

/-- A tile. -/
structure Tile where
  /-- A FIRE_ONE waits for its firing (Table CT-12). -/
  fireOne : Bool := false
  /-- Active slot and the context applied at the last entry (R157). -/
  slot : Nat := 0
  act : BitVec 512 := 0#512
  /-- The last apply met an uncorrectable word (R156). -/
  ctxUe : Bool := false
  /-- The active slot was written since the last apply (R345). -/
  stale : Bool := false
  z : Bool := false
  n : Bool := false
  c : Bool := false
  v : Bool := false
  /-- Stored carry Cs (R100). -/
  cs : Bool := false
  prev : Word := 0#32
  step : Nat := 0
  acc : Int := 0
  accPoison : Bool := false
  sat : Bool := false
  satNeg : Bool := false
  mstep : Nat := 0
  ovfStep : Nat := 0
  t : SMap TReg := []
  ag : SMap AGen := []
  /-- Input buffers 0 to 15, head first (R104). -/
  inp : SMap (List ChWord) := []
  /-- Credits an input withholds for words discarded at a hold (R339). -/
  withheld : SMap Nat := []
  tok : Option Token := none
  ovfTok : Option Token := none
  /-- The OVF token was produced before the token in the token register (R109). -/
  ovfFirst : Bool := false
  mem : SMap MCell := []
  /-- Words corrected and not yet written back, oldest first (R111). -/
  wback : List Nat := []
  ctx : SMap CCell := []
  /-- The context write latch: slot, even word, value (R153). -/
  ctxLatch : Option (Nat × Nat × Word) := none
  arm : Option Arm := none
  /-- Cause of the last entry (TILE_PARM.LAST). -/
  lastEntry : Nat := 0
  deriving DecidableEq, Repr

/-- What acts on a block-exponent detector at the end of one CCLK cycle (R139, R140): the least headroom folded in, a
close, and the TARGET and EXP of a register write. -/
structure PbxEv where
  low    : Option Nat := none
  close  : Bool := false
  target : Option Nat := none
  exp    : Option Nat := none
  deriving DecidableEq, Repr

/-- The block-exponent detector of a Panel (R139, R140). -/
structure Pbx where
  held   : Nat := 31
  live   : Nat := 31
  target : Nat := 8
  shift  : Nat := 0
  exp    : Nat := 0
  none_  : Bool := false
  /-- A contribution was folded since the last close. -/
  any    : Bool := false
  /-- What acts at the end of a CCLK cycle, keyed by that cycle. -/
  ev     : SMap PbxEv := []
  deriving DecidableEq, Repr

/-- What the probe lines may carry of a tile's cycle: the words its outputs (0 to 7) and express drivers (8 to 15) send,
and bits 0 to 3 for a normal firing, a marker firing, a stall and an apply (R387). -/
structure ProbeRec where
  words : List (Nat × ChWord) := []
  bits  : Nat := 0
  deriving DecidableEq, Repr

/-- State of the Canvas beside its registers. -/
structure Canvas where
  tiles : SMap Tile := []
  /-- Joints out of segments, keyed by lane, line and Panel position (R124). -/
  joints : SMap (List ChWord) := []
  pbx : SMap Pbx := []
  /-- Unit ID of the tile each quadrant's token path served last (R109). -/
  tokLast : SMap Nat := []
  /-- Words waiting in the edge ports on their way out of the Canvas (R127, R196). -/
  edgeOut : SMap (List ChWord) := []
  /-- Words waiting in the table ports on their way out of the Canvas (R127, R216). -/
  tblOut : SMap (List ChWord) := []
  /-- Joints whose enrolment is kept by a held Panel (R338) or a quadrant that is off (R124). -/
  heldJ : List Nat := []
  /-- Quadrants that lost their contents and have not been released since (R124). -/
  lostQ : BitVec 4 := 0#4
  /-- Segments in contention, keyed as their joints (R126). -/
  contd : List Nat := []
  /-- What the tiles that acted did in this CCLK cycle (R387). -/
  probe : SMap ProbeRec := []
  deriving DecidableEq, Repr

/-! ## Palette (08_palette_switching.md, 16_panel_reconfiguration.md) -/

/-- A delivered command in the Palette tree: delivery cycle, source rank (Easel entry index; 4,096 + table index for a
released pending command; 8,192 for the register command), command, and whether it has been acted on. -/
structure TreeCmd where
  k    : Nat
  src  : Nat
  cmd  : BitVec 64
  /-- The Panels of a group scope, as the group stands in the first tree cycle (R163). -/
  grp  : BitVec 64
  /-- A released EVENT command, whose COND reads as 0 (R166). -/
  rel  : Bool
  done : Bool
  deriving DecidableEq, Repr

/-- A pending EVENT command and the EKL cycle in which it entered the table (R167). -/
structure Pend where
  cmd : BitVec 64
  k   : Nat
  deriving DecidableEq, Repr

/-- The source recorded for a Panel (R347). -/
inductive PanelSrc where
  | none
  | bay (b : Nat)
  | staged (addr : Nat) (digest : BitVec 256)
  deriving DecidableEq, Repr

/-- A reload in progress, with what its GO sampled (R334). -/
structure Reload where
  panel   : Nat
  discard : Bool
  tmem    : Bool
  atev    : Bool
  eidx    : Nat
  addr    : Nat
  tok     : Word
  scrub   : Bool
  /-- Source of a scrub reload. -/
  src     : PanelSrc
  /-- Buffered context image and Stencil (40 KiB), sparse bytes. -/
  image   : SMap Nat
  digest  : BitVec 256
  /-- Cycle h. -/
  h       : Nat
  deriving DecidableEq, Repr

/-- State of the Palette and the reload engine beside their registers. -/
structure Palette where
  cmdLatch : Word := 0#32
  /-- Command most recently placed, bits [31:0] (R425). -/
  lastPlaced : Word := 0#32
  /-- Register-command queue of 8 (R164). -/
  queue : List (BitVec 64) := []
  /-- The EKL cycle of the last delivery of a register command (R164). -/
  lastDel : Option Nat := none
  /-- A write of PAL_CMD_HI waiting for a queue entry. -/
  waiting : List (BitVec 64 × Asker) := []
  tree : List TreeCmd := []
  pendT : SMap (Option Pend) := []
  groups : SMap (BitVec 64) := []
  groupLatch : Word := 0#32
  /-- Palette token queue of 16 (R175). -/
  tokens : List Token := []
  /-- MARKER commands whose completion token waits for their arms (R175). -/
  tracked : List (Nat × BitVec 64) := []
  trackNo : Nat := 0
  /-- Apply cycle and number of armed commands already counted as lost in it (R173), and as refused (R174). -/
  armLost : List (Nat × Nat) := []
  armBlocked : List (Nat × Nat) := []
  reload : Option Reload := none
  /-- Panels held by a reload, with BORDER_DISCARD (R338). -/
  heldP : SMap (Option Bool) := []
  /-- Panels stopped by the scrubber (R348). -/
  stopped : BitVec 64 := 0#64
  /-- Pending scrub reloads (R347). -/
  pendP : BitVec 64 := 0#64
  srcs : SMap PanelSrc := []
  /-- Stencil bytes, keyed by 8,192·p + byte (R343), and those of Panels without a CTX section (R344). -/
  stencil : SMap Nat := []
  noCtx : BitVec 64 := 0#64
  /-- Next Panel of configuration scrubbing (R345) and the start of the running lap. -/
  scrNext : Nat := 0
  lapStart : Nat := 0
  deriving DecidableEq, Repr

/-! ## Stream ports and the edge exchange (09_stream_ports.md) -/

/-- A received frame that waits for classification: its bytes before the FCS, whether it ends as for an FCS error
(R183), and the positions of the sixteen axes at its SFD (R193). -/
structure RxFrame where
  bytes  : List Byte
  /-- Bytes it occupies in the ingress buffer. -/
  held   : Nat
  bad    : Bool
  stamps : List Pos
  /-- EKL cycle of its SFD, rate of its channel in Gb/s (0: not of a lane) and bytes through its FCS (log 36). -/
  sfd    : Nat := 0
  rate   : Nat := 0
  total  : Nat := 0
  /-- Poisoned byte ranges of a tunnelled frame (R252). -/
  pois   : List (Nat × Nat) := []
  deriving DecidableEq, Repr

/-- A row of a frame (R190): one word for each port, how many bytes of the ingress buffer it frees, and the EKL cycle in
which its data reached the edge exchange (R191) (log 37). -/
structure Row where
  ws   : List ChWord
  free : Nat
  at_  : Nat := 0
  deriving DecidableEq, Repr

/-- A classified frame in delivery to its stripe. -/
structure Delivery where
  sid   : Nat
  pbase : Nat
  ports : Nat
  /-- Order of completion of classification (R190). -/
  order : Nat
  started : Bool
  held  : Nat
  rows  : List Row
  /-- Discarded frames that its loss marker counts and has not yet shown (R190). -/
  lost  : Nat := 0
  /-- EKL cycle of its last byte, rate in Gb/s and bytes through its FCS (log 36). -/
  ends  : Nat := 0
  rate  : Nat := 0
  total : Nat := 0
  deriving DecidableEq, Repr

/-- An entry of a timestamp FIFO (R194, R195). -/
structure Ts where
  seq   : Nat := 0
  mtype : Nat := 0
  dom   : Nat := 0
  stamp : Pos := 0#64
  deriving DecidableEq, Repr

/-- An egress frame in reassembly or waiting for the wire (R196 to R199). -/
structure EFrame where
  /-- Descriptor word, when the stream has one and its first word was not poison. -/
  desc : Option Word := none
  /-- The first word of a described frame is still awaited. -/
  wantDesc : Bool := false
  words : List ChWord := []
  poison : Bool := false
  /-- Cut at 9,216 bytes (R197). -/
  cut : Bool := false
  complete : Bool := false
  /-- Position of EAXIS and of TSAXIS when the SFD left the MAC, for a frame started on the wire. -/
  sfd : Option (Pos × Pos × Nat) := none
  deriving DecidableEq, Repr

/-- A MAC channel. -/
structure MacChan where
  wait  : List RxFrame := []
  deliv : List Delivery := []
  /-- The occupancy is above XOFF and no XON has been sent (R185). -/
  xoff  : Bool := false
  /-- Priorities held by received PFC (R200), and the quanta received for the last. -/
  hold  : Nat := 0
  rxBytes : Nat := 0
  txBytes : Nat := 0
  rxHi  : Word := 0#32
  txHi  : Word := 0#32
  rxts  : List Ts := []
  txts  : List Ts := []
  rxtsL : Pos := 0#64
  txtsL : Pos := 0#64
  /-- Egress stream whose frame is on the wire, and the stream served last (R199). -/
  onWire : Option Nat := none
  lastE : Nat := 64
  /-- The last frame sent, destination address to FCS. -/
  sent  : List Byte := []
  deriving DecidableEq, Repr

/-- An Easel marker that waits for credit in every port of its stripe (R191). -/
structure WaitMark where
  sid   : Nat
  pbase : Nat
  ports : Nat
  word  : Word
  /-- Fire cycle of its action. -/
  k     : Nat
  deriving DecidableEq, Repr

/-- State of the stream ports beside their registers. -/
structure Streams where
  chans : SMap MacChan := []
  /-- Frames of the Shaga tunnels in delivery (R252). -/
  tunnel : List Delivery := []
  order : Nat := 0
  /-- Frame sequence number of each ingress stream (R429). -/
  seqNo : SMap Nat := []
  /-- Frames discarded since the last delivered frame of each stream (R190). -/
  lost  : SMap Nat := []
  marks : List WaitMark := []
  /-- Egress frames of each stream, oldest first; the last may be in reassembly. -/
  egr   : SMap (List EFrame) := []
  /-- Streams that discard words up to a data-last word. -/
  skip  : List Nat := []
  /-- Sequence counter of each template (R197). -/
  tseq  : SMap Nat := []
  deriving DecidableEq, Repr


/-! ## Stacked memory and position tables (10_memory_tables.md) -/

/-- State of the stacks beside their registers. Words are keyed by global address / 4, sectors by global address / 32. -/
structure Mem where
  words : SMap Word := []
  sects : SMap Ecc := []
  /-- What a stack is doing (R204, R208): 0 training begun by a start, 1 training that zero initialisation follows,
  2 training that none follows, 3 zero initialisation, 4 settled. -/
  phase : SMap Nat := []
  /-- Stacks that lost their contents and were not zero-initialised (Table MT-2). -/
  raw : List Nat := []
  /-- Sectors of such a stack whose contents have been determined since. -/
  known : SMap Bool := []
  /-- Address and HARD of the repair in progress of each stack (R207). -/
  ppr : SMap (Option (Nat × Bool)) := []
  deriving DecidableEq, Repr

/-- An entry of a table port's answer queue (R218): a response, or a marker that goes onto the response channel. -/
structure TAnswer where
  words : List ChWord
  isResp : Bool
  deriving DecidableEq, Repr

/-- A table port (R216, R218). -/
structure TPort where
  /-- Words of the request in collection. -/
  got : List ChWord := []
  /-- Words are discarded up to the next data-last word (R216). -/
  skip : Bool := false
  queue : List TAnswer := []
  deriving DecidableEq, Repr

/-- An open collection of the table aperture (R221). -/
structure Collect where
  ni    : Nat
  dev   : Nat
  table : Nat
  entry : Nat
  words : List Word
  deriving DecidableEq, Repr

/-- State of the table engine beside its registers. -/
structure Tables where
  ports : SMap TPort := []
  /-- Swaps on their way to the engine (R220). -/
  swaps : List Nat := []
  /-- Latched D4 and D6 of each table (R211), keyed by 2t + generation. -/
  orgLatch : SMap Word := []
  /-- Open collections, oldest first, at most eight. -/
  colls : List Collect := []
  lkp   : Nat := 0
  lkpHi : Word := 0#32
  /-- One more than the cycle of the last swap received of each table (R220). -/
  swapped : SMap Nat := []
  deriving DecidableEq, Repr

/-! ## Shaga (12_shaga_link.md) -/

/-- A Shaga cell: link header and body (R245). -/
structure Cell where
  hdr  : BitVec 128
  body : BitVec 576
  deriving DecidableEq, Repr

/-- A request for another device (R247, R249). -/
structure OutReq where
  dev  : Nat
  lay  : Layer
  opc  : Nat
  tc   : Nat
  addr : Nat
  data : Word := 0#32
  body : List (BitVec 512) := []
  who  : Asker
  /-- TAG the engine gave it, once sent. -/
  tag  : Nat := 0
  deriving DecidableEq, Repr

/-- What the engine is to send in flit cells (R247, R251, R252, R259). -/
inductive OutItem where
  | req (r : OutReq)
  | token (dev : Nat) (tk : Token)
  | fault (dev : Nat) (r : Report)
  | sdat (dev : Nat) (payload : List Byte) (pmask : Nat)
  /-- The response to a request of device `dev`, whose flit header is `flit`. -/
  | rsp (dev : Nat) (lay : Layer) (flit : BitVec 64) (status pmask : Nat) (flits : List (BitVec 512))
  deriving DecidableEq, Repr

/-- An entry of the folding table (R259). -/
structure FoldE where
  dst : Nat
  rep : Report
  /-- EKL cycle in which it was taken, and the SPAN it arrived with. -/
  at_ : Nat
  deriving DecidableEq, Repr

/-- The link-up authentication exchange of one end (R258). -/
structure LinkAuth where
  own   : BitVec 256 := 0#256
  peer  : Option (BitVec 256) := none
  cert  : List Byte := []
  sig   : List Byte := []
  failed : Bool := false
  /-- The exchange has ended and holds the link back no longer. -/
  passed : Bool := false
  deriving DecidableEq, Repr

/-- A Shaga link beside its registers. -/
structure Link where
  /-- Credits held toward the peer for TC0 to TC3 (R243), and credits to return. -/
  cr0 : Nat := 64
  cr1 : Nat := 64
  cr2 : Nat := 64
  cr3 : Nat := 64
  ow0 : Nat := 0
  ow1 : Nat := 0
  ow2 : Nat := 0
  ow3 : Nat := 0
  /-- Relayed flit cells waiting for credit, oldest first, each with the link whose buffer holds it (R243). -/
  wait : List (Nat × Cell) := []
  /-- Flits of TC2, of TC3 and of TC1 with CONF = 0 sent in the present round (R231, R243). -/
  round : Nat × Nat × Nat := (0, 0, 0)
  /-- The peer has identified itself, with its AUTH mode. -/
  peerAuth : Option Nat := none
  /-- A conflict of device IDs waits for the retrain of R242. -/
  conflict : Bool := false
  /-- Next SEQ of DREQ, the DREQ outstanding (SEQ and T1), and the last 16 round trips (R253). -/
  dseq : Nat := 0
  dpend : Option (Nat × Nat) := none
  rts : List Int := []
  auth : LinkAuth := {}
  /-- Extra beacons waiting to be sent: axis, EKL cycle of the sample and body without AGE (R84, R254). -/
  extra : List (Nat × Nat × BitVec 576) := []
  /-- Cells sent by the last event of the link. -/
  tx : List Cell := []
  deriving DecidableEq, Repr

/-- A tunnel frame in reassembly at its receiver (R252). -/
structure TunFrame where
  src   : Nat
  isid  : Nat
  num   : Nat
  bytes : List Byte
  /-- Poisoned byte ranges of the frame. -/
  pois  : List (Nat × Nat)
  stamps : List Pos
  deriving DecidableEq, Repr

/-- The armed system latch (R257). -/
structure SysLatch where
  adev  : Nat
  aaxis : Nat
  tpos  : Pos
  axis  : Nat
  up    : Bool
  tdev  : Nat
  seq   : Nat
  deriving DecidableEq, Repr

/-- State of the Shaga engine beside its registers. -/
structure Shaga where
  links : SMap Link := []
  /-- Destination table (R247): ROUTE with V in bit 95. -/
  routes : SMap Nat := []
  outq : List OutItem := []
  /-- Requests sent and not yet answered (R247). -/
  outst : List OutReq := []
  /-- D-layer packets of several flits in arrival, keyed by source and class. -/
  dasm : List (Nat × Nat × List Cell) := []
  /-- Tokens received and waiting for Dispatcher credit, at most 256 (R251). -/
  tokIn : List Token := []
  fold : SMap (Option FoldE) := []
  /-- Kinds of discard already reported in this epoch (R246). -/
  kinds : List Nat := []
  /-- HOPS of the last beacon of each remote axis. -/
  hops : SMap Nat := []
  /-- Latched low halves of the proxy pairs (Table SH-5). -/
  proxyLo : SMap Word := []
  /-- Frame number of each tunnel, and the last number received from each source and stream (R252). -/
  tnum : SMap Nat := []
  rnum : List (Nat × Nat × Nat) := []
  tfr : List TunFrame := []
  /-- Last SEQ of a SKETCH cell held for each TDEV (R257). -/
  skseq : SMap (Option Nat) := []
  latch : Option SysLatch := none
  deriving DecidableEq, Repr

/-! ## Conductors (13_conductor_cores.md) -/

/-- A register bank (R279, R286). -/
structure Bank where
  g : SMap Word := []
  pc : Word := 0#32
  sr : Word := 0#32
  slh : Word := 0#32
  /-- 0 FREE, 1 IDLE, 2 RUN, 3 PREEMPTED, 4 WAIT, 5 MOVING. -/
  state : Nat := 0
  tid : Nat := 0
  /-- 0 NONE, 1 LIVE, 2 SAVED, 3 LOST. -/
  xst : Nat := 0
  xbad : Bool := false
  xarea : Word := 0#32
  /-- A register-space load holds the bank (R269). -/
  load : Bool := false
  /-- Address of a load whose error waits for the bank to be active. -/
  loadErr : Option Word := none
  deriving DecidableEq, Repr

/-- A register-space access of a core on its way, or a store to cluster memory in the store buffer (R269, R271); SZ 0
byte, 1 half, 2 word, 3 double. -/
structure BusReq where
  bank : Nat
  load : Bool
  rd   : Nat
  addr : Word
  data : Word
  size : Nat
  /-- The second word of a double. -/
  data2 : Word := 0#32
  /-- Pointer update of a P-format load, made when the load completes. -/
  ptr  : Option (Nat × Word)
  /-- Performed, its response awaited. -/
  sent  : Bool := false
  deriving DecidableEq, Repr

/-- A bank switch requested of a core (R280): a dispatch of a thread with its slot values, or the resumption of a
bank. -/
structure SwitchReq where
  bank : Nat
  disp : Option Nat
  vals : List (Nat × Word)
  deriving DecidableEq, Repr

/-- A move of the save engine for the dispatch of a thread: it evicts the thread of the bank, or reloads the thread into
it (R285, R299). -/
structure Move where
  evict  : Bool
  bank   : Nat
  thread : Nat
  /-- Slot values taken for the dispatch. -/
  vals   : List (Nat × Word)
  deriving DecidableEq, Repr

/-- A conductor. -/
structure Core where
  banks : SMap Bank := []
  active : Option Nat := none
  a0 : Int := 0
  a1 : Int := 0
  p : SMap Word := []
  m : SMap Word := []
  l : SMap Word := []
  head : Nat := 31
  exp : Nat := 0
  xown : Nat := 0
  imem : SMap MCell := []
  xmem : SMap MCell := []
  ymem : SMap MCell := []
  /-- Halted by BREAK. -/
  brk : Bool := false
  dfault : Bool := false
  held : Bool := true
  /-- Repetitions left of the instruction at pc (R278). -/
  rpt : Option Nat := none
  /-- Cycles for which the running RPT has deferred a switch. -/
  rptWait : Nat := 0
  /-- Register-space accesses issued and not answered, and stores to cluster memory that wait behind a store, oldest
  first; at most eight stores. -/
  bus : List BusReq := []
  /-- Token FIFO of four (R269). -/
  posts : List Token := []
  /-- A failed store not yet seen by SYNC (R271). -/
  syncErr : Bool := false
  cycHi : Word := 0#32
  /-- Owner whose extended state is being saved, the bank that will own it, the bank being restored (R286). -/
  save : Option Nat := none
  want : Option Nat := none
  restore : Option Nat := none
  /-- KCK cycle in which the stall of the active bank for its extended state began. -/
  xsince : Nat := 0
  /-- Moves of the save engine, the head under way (R285, R299). -/
  moves : List Move := []
  /-- Thread that runs or is about to, with the priority it was selected with, and those pre-empted, most recent first
  (R301). -/
  run : Option (Nat × Nat) := none
  stack : List (Nat × Nat) := []
  reqs : List SwitchReq := []
  deriving DecidableEq, Repr

/-- State of the conductor cluster beside its registers. Cluster memory is keyed by 64-bit word index. -/
structure Cluster where
  cores : SMap Core := []
  cluster : SMap CCell := []
  deriving DecidableEq, Repr


/-! ## Sketch and management (18_management_observation.md) -/

/-- The Sketch (R382 to R386) beside its registers. -/
structure Sketch where
  /-- Trigger cycle of the first accepted trigger, while L is awaited. -/
  t0 : Option Nat := none
  /-- Trigger cycle of the last Sketch latched. -/
  last : Option Nat := none
  /-- Combined SRC bits of Table MO-5. -/
  src : Nat := 0
  /-- Lowest index of an Easel entry that triggered. -/
  entry : Option Nat := none
  /-- TDEV and SEQ of the system latch, and SKLATE (R257). -/
  tdev : Nat := 0
  seq : Nat := 0
  late : Bool := false
  locked : Bool := false
  rdy : Bool := false
  lseq : Nat := 0
  /-- A record has been assembled and waits to be marked ready. -/
  built : Bool := false
  /-- The 100 words of Table MO-6. -/
  record : List Word := []
  deriving DecidableEq, Repr

/-- An access of a window (R375, R376): its number, who still waits for its response, and its response. -/
structure WinAcc where
  no    : Nat
  who   : Option Asker
  write : Bool
  data  : Word
  addr  : Nat
  dev   : Nat
  tc    : Nat
  remote : Bool
  res   : Option (Nat × Word) := none
  deriving DecidableEq, Repr

/-- A window: accesses issued and not completed, and accesses not yet issued, oldest first. -/
structure Win where
  issued : List WinAcc := []
  wait : List WinAcc := []
  next : Nat := 0
  deriving DecidableEq, Repr

/-- The stored response of the management port or of MGTACC (R372, R393). -/
structure Stored where
  status : Nat
  tag : Nat
  data : Word
  deriving DecidableEq, Repr

/-- A port that performs management requests: its stored response, the TAG of an access that is outstanding, the
frames that wait for it (CMD, TAG, ADDR, DATA), and the bytes it returned last. -/
structure HostPort where
  stored : Option Stored := none
  busy : Option Nat := none
  wait : List (Byte × Byte × Word × Word) := []
  out : List Byte := []
  deriving DecidableEq, Repr

/-- A probe pin (R388): the source in the first cycle of a DBG cycle under way, the value that MODE 3 toggles, and the
values of the last twelve DBG cycles, newest first. -/
structure ProbePin where
  half : Bool := false
  tog  : Bool := false
  line : List Bool := []
  deriving DecidableEq, Repr

/-- State of the management block beside its registers. -/
structure Mgmt where
  sk : Sketch := {}
  wins : SMap Win := []
  msp : HostPort := {}
  jtag : HostPort := {}
  /-- JTAG instruction in effect, data register last captured, and boundary register as preloaded (R391). -/
  jir : Nat := 1
  jdr : Nat := 0
  bsr : BitVec 176 := 0#176
  /-- Sensors above WARN and above CRIT (R394). -/
  warm : BitVec 16 := 0#16
  hot : BitVec 16 := 0#16
  /-- MGT_EKLC_HI as latched by the read of the low half. -/
  eklcHi : Word := 0#32
  /-- The enabled probe pins (R388). -/
  pbs : SMap ProbePin := []
  deriving DecidableEq, Repr


/-! ## Start-up, images and identity (15_boot_security.md) -/

/-- One-time-programmable memory (Table BS-7). The private key is inside the uninterpreted functions of Config. -/
structure Otp where
  serial : BitVec 64 := 0#64
  cust   : BitVec 256 := 0#256
  /-- Programmed ROLLBACK bits N, 0 to 64 (R316). -/
  roll   : Nat := 0
  plane  : Bool := false
  safe   : SMap Word := []
  cert   : List Byte := []
  vendor : List Byte := []
  deriving DecidableEq, Repr

/-- What was read of the loaded image, for attestation (Table BS-10), R316 and R347. -/
structure Loaded where
  bay   : Nat := 0
  build : Word := 0#32
  roll  : Nat := 0
  adv   : Bool := false
  /-- Digest of header bytes 0x000 to 0x0FF and the section table, and the section digests in table order. -/
  head  : BitVec 256 := 0#256
  digs  : List (BitVec 256) := []
  deriving DecidableEq, Repr

/-- Where the loader stands. -/
inductive Stage where
  /-- A start is due. -/
  | due
  /-- An attempt of bay `b` waits at step 7 for the stacks. -/
  | waiting (b : Nat)
  | running
  /-- A failed start; a new start follows after 100 ms (R323). -/
  | failed
  | primer
  deriving DecidableEq, Repr

/-- State of the loader beside its registers. -/
structure Boot where
  stage : Stage := .due
  /-- Failed-start count (R323). -/
  count : Nat := 0
  /-- This start has been counted as failed. -/
  counted : Bool := false
  /-- Bays already attempted in this start. -/
  tried : List Nat := []
  /-- Stacks and other domains step 5 of this start has dealt with. -/
  powered : Bool := false
  image : Loaded := {}
  /-- Watchdog in ms and the EKL cycle in which it started; 0 when it does not run. -/
  wdog : Nat := 0
  wdogAt : Nat := 0
  /-- Bytes of the update page not yet programmed (R325). -/
  page : List Byte := []
  /-- LDR_UPD_LEN as BEGIN took it. -/
  updLen : Nat := 0
  deriving DecidableEq, Repr

/-- An in-band session (R329, R330, R379). -/
structure Session where
  chan : Nat
  mac  : List Byte
  vlan : List Byte
  sid  : Nat
  k1   : List Byte
  k2   : List Byte
  rx   : Nat := 0
  tx   : Nat := 1
  /-- Consecutive discards. -/
  bad  : Nat := 0
  deriving DecidableEq, Repr

/-- The SM2 key exchange in progress (R329). -/
structure Exchange where
  chan : Nat
  mac  : List Byte
  vlan : List Byte
  sid  : Nat
  /-- S1 to compare with SA, K1 and K2. -/
  sa   : List Byte
  k1   : List Byte
  k2   : List Byte
  deriving DecidableEq, Repr

/-- A flit of a REQ frame (R380): not yet injected, injected in a class with the header of its response, or answered. -/
inductive IbFlit where
  | todo (hdr pay : BitVec 64)
  | sent (tc : Nat) (hdr : BitVec 64)
  | done (hdr pay : BitVec 64)
  deriving DecidableEq, Repr

/-- A REQ frame being answered (R380): its number among the frames received, its session, its FID and its flits. -/
structure IbReq where
  no    : Nat
  sess  : Nat
  fid   : Byte
  flits : List IbFlit
  deriving DecidableEq, Repr

/-- State of the security engine and of in-band management beside their registers. -/
structure Sec where
  att : List Byte := []
  /-- Nonce bytes of the attestation being built. -/
  attReq : Option (List Byte) := none
  prdig : BitVec 256 := 0#256
  reloads : Nat := 0
  sess : SMap (Option Session) := []
  exch : Option Exchange := none
  /-- Channels that ignore OPEN1 (R329). -/
  holdoff : List Nat := []
  reqs : List IbReq := []
  reqNo : Nat := 0
  /-- REPORT bodies that wait for a transmit slot of their session's channel, oldest first (R381). -/
  reports : List (Nat × List Byte) := []
  deriving DecidableEq, Repr

/-- State of power, clocks, reset and pins beside their registers (19_power_clock_pins.md). -/
structure Power where
  /-- The domain that changes, the state it leaves and the state it goes to (R405). -/
  change : Option (Nat × Nat × Nat) := none
  /-- Requests not yet acted on, by domain. -/
  asked : BitVec 11 := 0#11
  /-- Held in reset after a thermal trip, and after a clock loss (R410). -/
  holdT : Bool := false
  holdC : Bool := false
  /-- Device ID as strapped at the last rise of PORST_N or RST_N (R244). -/
  straps : BitVec 14 := 0#14
  /-- Levels at the GP pins after the synchroniser (R412). -/
  gpin : BitVec 96 := 0#96
  /-- Profile fields being programmed (R414). -/
  prog : Option (SMap Word) := none
  /-- Bank voltages detected at power-up, in the layout of PWR_BANK (log 5). -/
  banks : BitVec 4 := 5#4
  /-- Sensors whose last valid reading exceeds 110 °C (R410). -/
  above : BitVec 16 := 0#16
  /-- Lane-group PLLs that lost lock and have not been seen locked since (R403). -/
  unl : BitVec 4 := 0#4
  /-- The image's pin settings reach the pins (R320, R412). -/
  pinsOn : Bool := false
  deriving DecidableEq, Repr

/-! ## The whole state -/

/-- The last response a register access was given: 0 OK, 1 ERROR, 2 FENCED, 3 ROUTE_FAIL, 4 TIMEOUT (R226), 5 while
the access waits (log 7), and the data read. -/
structure Resp where
  status : Nat := 0
  data   : Word := 0#32
  deriving DecidableEq, Repr

/-- The variants of Table SC-1. -/
inductive Variant where
  | q64
  | q64L
  | q32
  | q32L
  | q16
  deriving DecidableEq, Repr

/-- Facts of the part that no rule lets a command change, and its pins and fuses (log 5, log 6). -/
structure Part where
  variant : Variant := .q64
  /-- Version field of IDCODE: A0 = 0, A1 = 1, B0 = 2. -/
  rev : Nat := 2
  deriving DecidableEq, Repr

/-- The state of the block. -/
structure State where
  /-- The commands that wait, first in first out. -/
  pending : List Instr := []
  /-- Plain counter to which the free values of Config are applied (log 8). -/
  free : Nat := 0
  /-- EKL cycles since the rise of PORST_N, as the commands have counted them (log 3). -/
  cyc : Nat := 0
  resp : Resp := {}
  regs : SMap Word := []
  part : Part := {}
  /-- Responses on their way to who waits for them (log 7). -/
  answers : List (Asker × Nat × Word) := []
  eas : Easel := {}
  int : Integ := {}
  dis : Disp := {}
  noc : Noc := {}
  can : Canvas := {}
  pal : Palette := {}
  str : Streams := {}
  mem : Mem := {}
  tbl : Tables := {}
  shg : Shaga := {}
  cnd : Cluster := {}
  /-- EKL cycle of the release cycle. -/
  relCyc : Nat := 0
  mgt : Mgmt := {}
  /-- EKL cycle of the last release from reset. -/
  rstCyc : Nat := 0
  /-- One-time-programmable memory. -/
  otp : Otp := {}
  /-- The xSPI flash: bytes that are not the erased 0xFF; its SFDP signature reads correctly (log 6). -/
  flash : SMap Nat := []
  sfdp : Bool := true
  boot : Boot := {}
  sec : Sec := {}
  pwr : Power := {}
  deriving DecidableEq, Repr

/-- The machine right after reset. -/
def State.reset : State := {}

/-- Reasons a step faults: the block has none, because it answers every access with a response (R16, R18, R19). -/
inductive Fault where
  deriving DecidableEq, Repr

/-- Reasons a command is refused by the model. -/
inductive Refusal where
  /-- Raised by `exec` for a command whose meaning has not been written. Safe: the model stops. -/
  | notModelled (mnemonic : String)
  deriving DecidableEq, Repr

/-- The outcome of a step of this block. -/
abbrev Out := Host.Outcome State Fault Refusal

end Sys2Proof.Machine
end

