-- ==== Sys2Proof/Machine/Ops.lean ====
section
/-! DEFINITION. Sys2Proof/Machine/Ops.lean: the named operations over sparse maps, registers, units, domains, fault
reports, tokens and counters that every meaning uses. -/
namespace Sys2Proof

/-- The value at key `k`; an unlisted key reads as `d` (log 11). -/
def SMap.get {α : Type} : SMap α → Nat → α → α
  | [], _, d => d
  | (j, v) :: r, k, d => if j = k then v else SMap.get r k d

/-- The map with the pair `(k, v)`, at its place in the order. -/
def SMap.put {α : Type} : SMap α → Nat → α → SMap α
  | [], k, v => [(k, v)]
  | (j, w) :: r, k, v =>
    if k < j then (k, v) :: (j, w) :: r
    else if k = j then (k, v) :: r
    else (j, w) :: SMap.put r k v

/-- The map without key `k`. -/
def SMap.drop {α : Type} : SMap α → Nat → SMap α
  | [], _ => []
  | (j, w) :: r, k => if j = k then SMap.drop r k else (j, w) :: SMap.drop r k

/-- The map that reads `v` at `k`, where an unlisted key reads `d` (log 11). -/
def SMap.set {α : Type} [DecidableEq α] (m : SMap α) (k : Nat) (v d : α) : SMap α :=
  if v = d then m.drop k else m.put k v

/-- Keys strictly rise and every key is above `lo`. -/
def SMap.rises {α : Type} : SMap α → Option Nat → Bool
  | [], _ => true
  | (j, _) :: r, none => SMap.rises r (some j)
  | (j, _) :: r, some lo => decide (lo < j) && SMap.rises r (some j)

/-- The canonical form: keys strictly rise and no pair holds its key's default. -/
def SMap.wf {α : Type} [DecidableEq α] (m : SMap α) (d : Nat → α) : Bool :=
  m.rises none && m.all (fun p => decide (p.2 ≠ d p.1))

namespace Machine

/-- Replaces bits `[hi:lo]` of a word. -/
def putBits (w : Word) (hi lo v : Nat) : Word :=
  let m := 2 ^ (hi + 1 - lo) - 1
  let n := w.toNat
  word (n - (bitsOf n hi lo) * 2 ^ lo + (v % (m + 1)) * 2 ^ lo)

/-- Signed reading of the low `b` bits of `n`. -/
def sextN (n b : Nat) : Int :=
  let m := n % 2 ^ b
  if m < 2 ^ (b - 1) then (m : Int) else (m : Int) - (2 ^ b : Nat)

/-- The low `b` bits of a signed number. -/
def lowBits (i : Int) (b : Nat) : Nat := (i % ((2 ^ b : Nat) : Int)).toNat

/-- The 32-bit word of a signed number. -/
def wordI (i : Int) : Word := word (lowBits i 32)

/-- A number clamped to `[lo, hi]`. -/
def clampI (lo hi i : Int) : Int := if i < lo then lo else if hi < i then hi else i

/-! ## Registers -/

/-- The register at address `a`. -/
def State.reg (s : State) (a : Nat) : Word := s.regs.get a (regReset a)

/-- Sets the register at address `a` (log 56). -/
def State.setReg (s : State) (a : Nat) (v : Word) : State := { s with regs := s.regs.set a v (regReset a) }

/-- Bits `[hi:lo]` of the register at `a`. -/
def State.regF (s : State) (a hi lo : Nat) : Nat := (s.reg a).bits hi lo

/-- Bit `i` of the register at `a`. -/
def State.regB (s : State) (a i : Nat) : Bool := (s.reg a).bit i

/-- Sets bits `[hi:lo]` of the register at `a`. -/
def State.setRegF (s : State) (a hi lo v : Nat) : State := s.setReg a (putBits (s.reg a) hi lo v)

/-- Sets the bits of `m` in the register at `a` (a sticky event). -/
def State.orReg (s : State) (a : Nat) (m : Nat) : State := s.setReg a (s.reg a ||| word m)

/-- Clears the bits of `m` in the register at `a`. -/
def State.clrReg (s : State) (a : Nat) (m : Nat) : State := s.setReg a (s.reg a &&& ~~~ (word m))

/-- Adds `n` to a counter field `[hi:lo]`, saturating. -/
def State.bumpF (s : State) (a hi lo n : Nat) : State :=
  s.setRegF a hi lo (Nat.min (s.regF a hi lo + n) (2 ^ (hi + 1 - lo) - 1))

/-- Adds `n` to a saturating 32-bit counter (log 20). -/
def State.bump (s : State) (a n : Nat) : State := s.bumpF a 31 0 n

/-- A write under the masks of the register's row: RW bits take the data, W1C bits written 1 clear, every other bit
stays (Table SC-4). An address without a row is unmapped and ignores the write (R18). -/
def State.plainWrite (s : State) (a : Nat) (d : Word) : State :=
  match regRow a with
  | none => s
  | some r =>
    let old := s.reg a
    s.setReg a (((old &&& ~~~ (word r.rw)) ||| (d &&& word r.rw)) &&& ~~~ (d &&& word r.w1c))

/-- The effect of a plain read: RC bits clear (Table SC-4). -/
def State.plainRead (s : State) (a : Nat) : State :=
  match regRow a with
  | none => s
  | some r => if r.rc = 0 then s else s.setReg a (s.reg a &&& ~~~ (word r.rc))

/-- The response of an access: data, or an error. -/
def State.respond (s : State) (status : Nat) (d : Word) : State := { s with resp := { status := status, data := d } }

/-- OK with data. -/
def State.ok (s : State) (d : Word := 0#32) : State := s.respond 0 d

/-- An error response, with data zero. -/
def State.err (s : State) : State := s.respond 1 0#32

/-- A response sets out to who waits for it; a response to a command is read at once (log 7). -/
def State.answer (s : State) (w : Asker) (status : Nat) (d : Word) : State :=
  match w with
  | .direct _ => s.respond status d
  | .posted _ _ => s
  | _ => { s with answers := s.answers ++ [(w, status, d)] }

/-- A value the spec does not state (log 8). -/
def State.freeWord (s : State) : Word × State := (Config.freeWord s.free, { s with free := s.free + 1 })

/-- A choice among `n` outcomes the spec leaves open (log 8). -/
def State.freeChoice (s : State) (n : Nat) : Nat × State :=
  (Config.freeChoice s.free % n, { s with free := s.free + 1 })

/-! ## Units and domains -/

/-- Whether the release cycle has passed (DEV_STATUS.RELEASED). -/
def State.released (s : State) : Bool := s.regB Reg.devStatus 1

/-- DEV_UNITS of a variant (Table SC-1). -/
def devUnits : Variant → Nat
  | .q64 => 0x000FFFFF
  | .q64L => 0x0007FCFF
  | .q32 => 0x000C3D33
  | .q32L => 0x00043C33
  | .q16 => 0x00000C11

/-- Whether the unit of bit `i` of DEV_UNITS is present. -/
def State.has (s : State) (i : Nat) : Bool := Nat.testBit (devUnits s.part.variant) i

def State.hasQuad (s : State) (q : Nat) : Bool := s.has q
def State.hasLg (s : State) (g : Nat) : Bool := s.has (4 + g)
def State.hasStack (s : State) (m : Nat) : Bool := s.has (8 + m)
def State.hasCore (s : State) (c : Nat) : Bool := s.has (10 + c)
def State.hasShaga (s : State) : Bool := s.has 18
def State.hasTable (s : State) : Bool := s.has 19

/-- Whether the unit of switchable domain `d` is present (R404, numbering of R236). -/
def State.hasDom (s : State) (d : Nat) : Bool :=
  if d < 8 then s.has d else if d < 10 then s.has d else (s.has 10)

/-- STATE of domain `d`: 0 OFF, 1 SLEEP, 2 ON, 3 CHANGING (Table PW-15). A powered PD_Ms follows MEMs_STAT.PWRST
(R404). -/
def State.domState (s : State) (d : Nat) : Nat :=
  let st := s.regF (Reg.pwrDomctl d) 3 2
  if (d = 8 ∨ d = 9) ∧ st = 2 ∧ s.mem.phase.get (d - 8) 0 ≠ 0 then
    match s.regF (Reg.memStat (d - 8)) 3 2 with | 0 => 2 | 1 => 1 | _ => 0
  else st

/-- Whether domain `d` is ON. -/
def State.domOn (s : State) (d : Nat) : Bool := s.domState d == 2

/-- Whether the NIs of domain `d` answer FENCED: by NOC_FREQ (R236) or because the domain is not ON (R406). -/
def State.domFenced (s : State) (d : Nat) : Bool := s.regB Reg.nocFreq d || !s.domOn d

/-- Quadrant of tile `t` (00_scope.md, Coordinates and names). -/
def quadOf (t : Nat) : Nat := 2 * (t / 64 / 32) + (t % 64) / 32

/-- Panel of tile `t`. -/
def panelOf (t : Nat) : Nat := 8 * (t / 64 / 8) + (t % 64) / 8

/-- Local index of tile `t` in its Panel (05_canvas_routing.md). -/
def localOf (t : Nat) : Nat := 8 * (t / 64 % 8) + t % 64 % 8

/-- Tile with local index `l` of Panel `p` (R119). -/
def tileAt (p l : Nat) : Nat := (8 * (p / 8) + l / 8) * 64 + 8 * (p % 8) + l % 8

/-- Quadrant of Panel `p` (Table RT-1). -/
def quadOfPanel (p : Nat) : Nat := 2 * (p / 32) + p % 8 / 4

/-- A quadrant that is present, powered and not fenced (R163). -/
def State.quadOpen (s : State) (q : Nat) : Bool := s.hasQuad q && !s.domFenced q

/-- The own device ID (R244). -/
def State.did (s : State) : Nat := s.regF 0x160008 13 0

/-! ## Fault reports (R358, R359) -/

/-- Sends a FAULT flit to the collector, whatever was sent before. -/
def State.reportAlways (s : State) (code unit subj : Nat) : State :=
  { s with int.inbox := s.int.inbox ++
      [{ code := code, unit := unit, subj := subj, count := 1, first := s.did, last := s.did, span := 0 }] }

/-- Sends one report per report epoch for what `key` names. -/
def State.reportOnce (s : State) (key : Nat × Nat × Nat) (code unit subj : Nat) : State :=
  if s.int.sent.contains key then s
  else
    let s := s.reportAlways code unit subj
    { s with int.sent := key :: s.int.sent }

/-- Sends one report per report epoch for a unit, code and subject (R358). -/
def State.reportOn (s : State) (code unit subj : Nat) : State := s.reportOnce (code, unit, subj) code unit subj

/-- A report whose subject is the own device (log 48). -/
def State.report (s : State) (code unit : Nat) : State := s.reportOn code unit s.did

/-! ## Network interface state -/

def State.ni (s : State) (n : Nat) : NI := s.noc.nis.get n {}
def State.setNi (s : State) (n : Nat) (v : NI) : State := { s with noc.nis := s.noc.nis.set n v {} }

/-- Names a further class in the GUARANTEE_BREACH report that NI `n` sent in this cycle, where it has not reached the
collector yet (R234). -/
def State.joinBreach (s : State) (n cls : Nat) : List Report → Option (List Report)
  | [] => none
  | q :: r =>
    if q.unit = 0x1500 + n ∧ 0x30 < q.code ∧ q.code < 0x40 then some ({ q with code := q.code + 2 ^ cls } :: r)
    else (s.joinBreach n cls r).map (q :: ·)

/-- Counts a breach of class `cls` at NI `n`; each class is named once in an epoch, and the classes that advance in one
cycle are named in one report (R234). -/
def State.breach (s : State) (n cls : Nat) : State :=
  let a := if cls < 2 then Reg.niBrk01 n else Reg.niBrk23 n
  let s := if cls % 2 = 0 then s.bumpF a 15 0 1 else s.bumpF a 31 16 1
  let s := s.orReg Reg.nocStat 8
  let v := s.ni n
  if Nat.testBit v.named cls then s
  else
    let t := s.setNi n { v with named := v.named + 2 ^ cls, brkAt := some s.cyc }
    match (if v.brkAt = some s.cyc then s.joinBreach n cls s.int.inbox.reverse else none) with
    | some l => { t with int.inbox := l.reverse }
    | none => t.reportAlways (0x30 + 2 ^ cls) (0x1500 + n) s.did

/-- A posted packet dropped at a fence (R30, Table NC-6). -/
def State.fenceDrop (s : State) : State := (s.bump Reg.nocFenceDrop 1).orReg Reg.nocStat 1

/-! ## Injection regulators and statistics of the NIs (R233, R235) -/

def NI.level (x : NI) : Nat → Int
  | 0 => x.l0
  | 1 => x.l1
  | 2 => x.l2
  | _ => x.l3

def NI.setLevel (x : NI) (c : Nat) (v : Int) : NI :=
  match c with
  | 0 => { x with l0 := v }
  | 1 => { x with l1 := v }
  | 2 => { x with l2 := v }
  | _ => { x with l3 := v }

/-- The bucket of class `c` after `k` NCK cycles (R233). -/
def refill (tb : Word) (l : Int) (k : Nat) : Int :=
  let cap : Int := ((tb.bits 21 12 + 1) * 1500 : Nat)
  let l' := l + ((k * Nat.min (tb.bits 10 0) 1500 : Nat) : Int)
  if cap < l' then cap else l'

/-- NCK cycles since the rise of PORST_N (log 2). -/
def State.nck (s : State) : Nat := s.cyc * 6 / 5

/-- The buckets of NI `n` after `k` more NCK cycles (R233). -/
def State.refillBy (s : State) (n k : Nat) : State :=
  let x := s.ni n
  s.setNi n { x with
    l0 := refill (s.reg (Reg.niTb n 0)) x.l0 k
    l1 := refill (s.reg (Reg.niTb n 1)) x.l1 k
    l2 := refill (s.reg (Reg.niTb n 2)) x.l2 k
    l3 := refill (s.reg (Reg.niTb n 3)) x.l3 k }

/-- The buckets of NI `n` at the present NCK cycle (log 61). -/
def State.refillNow (s : State) (n : Nat) : State :=
  let x := s.ni n
  let k := s.nck - x.tick
  if k = 0 then s
  else (s.setNi n { x with tick := s.nck, since := x.since + k }).refillBy n k

/-- Whether a packet of class `c` may leave NI `n` now; before release every packet may (R233, log 61). -/
def State.conforms (s : State) (n c : Nat) : Bool :=
  !s.released || decide (1500 ≤ ((s.refillNow n).ni n).level c)

/-- Takes `k` flits out of the bucket of class `c` of NI `n` (R233). -/
def State.spend (s : State) (n c k : Nat) : State :=
  if s.released then
    let s := s.refillNow n
    let x := s.ni n
    s.setNi n (x.setLevel c (x.level c - ((k * 1500 : Nat) : Int)))
  else s

def State.sctl (s : State) (n : Nat) : Word := s.reg (Reg.niSctl n)

/-- Adds to a saturating 64-bit counter held in two registers. -/
def State.bump64 (s : State) (lo hi k : Nat) : State :=
  let v := Nat.min ((s.reg hi).toNat * 4294967296 + (s.reg lo).toNat + k) 18446744073709551615
  (s.setReg lo (word v)).setReg hi (word (v / 4294967296))

/-- Counts a packet of class `tc` and `bytes` payload bytes that NI `n` initiates (R235). -/
def State.statSent (s : State) (n tc bytes : Nat) : State :=
  let c := s.sctl n
  if c.bit 8 || !c.bit tc then s
  else (s.bump (Reg.niSpkts n) 1).bump64 (Reg.niSbytesLo n) (Reg.niSbytesHi n) bytes

/-- Histogram bin of a latency (R235). -/
def histBin (t hshift : Nat) : Nat := if t < 2 ^ (hshift + 1) then 0 else Nat.min 7 (Nat.log2 t - hshift)

/-- Counts a latency of `t` NCK cycles, or a timeout, for a request of class `tc` (R235, log 2). -/
def State.statLatency (s : State) (n tc t : Nat) (timeout : Bool) : State :=
  let c := s.sctl n
  if c.bit 8 || !c.bit tc then s
  else if timeout then s.bump (Reg.niShist n 7) 1
  else
    let s := s.setReg (Reg.niSlmin n) (word (Nat.min (s.reg (Reg.niSlmin n)).toNat t))
    let s := s.setReg (Reg.niSlmax n) (word (Nat.max (s.reg (Reg.niSlmax n)).toNat t))
    let s := (s.bump64 (Reg.niSlsumLo n) (Reg.niSlsumHi n) t).bump (Reg.niSlcnt n) 1
    s.bump (Reg.niShist n (histBin t (c.bits 7 4))) 1

/-- One C-layer flit of class `c` leaves NI `n`, where the packet itself is not followed through the mesh (log 40). -/
def State.wordSent (s : State) (n c : Nat) : State :=
  (if s.conforms n c then s.spend n c 1 else s).statSent n c 8

/-! ## Dispatcher tokens (R292) -/

def State.chan (s : State) (ch : Nat) : Chan := s.dis.chans.get ch {}
def State.setChan (s : State) (ch : Nat) (v : Chan) : State := { s with dis.chans := s.dis.chans.set ch v {} }

/-- Whether the source of channel `ch` holds a credit: 8 end-to-end credits, one for each token sent and not yet
taken out of the landing buffer (R292). -/
def State.chanCredit (s : State) (ch : Nat) : Bool :=
  let c := s.chan ch
  decide (c.transit.length + c.landing.length < 8)

/-- The NI and the class in which the source of a channel injects its tokens (Table DI-2, R81, R175); none for the
sources inside the Dispatcher. -/
def chanNi (ch : Nat) : Option (Nat × Nat) :=
  if ch < 4 then some (2 * ch, 2)
  else if ch = 4 then some (40, 0)
  else if ch = 5 then some (41, 0)
  else if ch < 14 then some (36 + (ch - 6) / 4, 2)
  else if ch = 14 then some (34, 2)
  else if ch = 15 then some (45, 2)
  else none

/-- Whether the source of channel `ch` may send: it holds a credit and its bucket conforms (R233, R292). -/
def State.maySend (s : State) (ch : Nat) : Bool :=
  s.chanCredit ch && (match chanNi ch with | some (n, c) => s.conforms n c | none => true)

/-- Sends a token on channel `ch`; the caller holds a credit. A token that meets the fence of PD_CND is dropped and
counted, and its credit returns at once (R30, R423). -/
def State.sendToken (s : State) (ch : Nat) (tk : Token) : State :=
  let s := match chanNi ch with
    | some (n, c) => s.wordSent n c
    | none => s
  if s.domFenced 10 && (chanNi ch).isSome then s.fenceDrop
  else
    let c := s.chan ch
    s.setChan ch { c with transit := c.transit ++ [tk] }

/-- Event tokens (R297): every valid entry for the event sends a token on channel 16, or drops it (R295). -/
def State.eventToken (s : State) (event sel : Nat) (val : Word) : State :=
  (List.range 16).foldl (fun s i =>
    let e := s.reg (Reg.disEvt i)
    if e.bit 31 && decide (e.bits 15 12 = event) && (e.bit 22 || decide (e.bits 21 16 = sel)) && s.domOn 10 then
      if s.chanCredit 16 then s.sendToken 16 { tid := e.bits 9 0, slot := e.bits 11 10, val := val }
      else s.bump Reg.disEvtdrop 1
    else s) s

/-! ## Typed parts of the Canvas and the Easel -/

def State.tile (s : State) (t : Nat) : Tile := s.can.tiles.get t {}
def State.setTile (s : State) (t : Nat) (v : Tile) : State := { s with can.tiles := s.can.tiles.set t v {} }
def State.axis (s : State) (n : Nat) : Axis := s.eas.axes.get n {}
def State.setAxis (s : State) (n : Nat) (v : Axis) : State := { s with eas.axes := s.eas.axes.set n v {} }
def State.entry (s : State) (i : Nat) : Entry := s.eas.entries.get i {}
def State.setEntry (s : State) (i : Nat) (v : Entry) : State := { s with eas.entries := s.eas.entries.set i v {} }
def State.pin (s : State) (n : Nat) : Pin := s.eas.pins.get n {}
def State.setPin (s : State) (n : Nat) (v : Pin) : State := { s with eas.pins := s.eas.pins.set n v {} }
def State.thread (s : State) (t : Nat) : Thread := s.dis.threads.get t {}
def State.setThread (s : State) (t : Nat) (v : Thread) : State := { s with dis.threads := s.dis.threads.set t v {} }

end Machine
end Sys2Proof
end

