-- ==== Sys2Proof/Machine/Ecc.lean ====
section
/-! DEFINITION. Sys2Proof/Machine/Ecc.lean: what finding a correctable or an uncorrectable word does in every memory class: counts,
the persistent-error tracker and reports (17_integrity.md, R352, R354, R357). -/
namespace Sys2Proof.Machine

/-- Unit that owns class address `a` of class `c` (Table IN-3, code 0x08). -/
def ownerUnit (c a : Nat) : Nat :=
  match c with
  | 0 => a / 1024
  | 1 => a / 64
  | 2 => 0x1600 + a / 0x20000000
  | 3 => 0x1700 + a / 16384
  | 4 => 0x1700 + a / 32768
  | _ => 0x1A00

def State.track (s : State) (k : Nat) : Track := s.int.tracks.get k {}
def State.setTrack (s : State) (k : Nat) (v : Track) : State := { s with int.tracks := s.int.tracks.set k v {} }

/-- The index of the entry with the smallest age among those that satisfy `p`. -/
def State.oldestTrack (s : State) (c : Nat) (p : Track → Bool) : Option Nat :=
  (List.range 32).foldl (fun best i =>
    let e := s.track (32 * c + i)
    if p e then
      match best with
      | none => some i
      | some b => if e.age < (s.track (32 * c + b)).age then some i else best
    else best) none

/-- R357: a correction at class address `a` of class `c`. -/
def State.trackCorrection (s : State) (c a : Nat) : State :=
  let laps := (s.reg (Reg.intLaps c)).toNat
  match (List.range 32).find? (fun i => let e := s.track (32 * c + i); e.state != 0 && e.addr == a) with
  | some i =>
    let e := s.track (32 * c + i)
    if e.state = 3 then s.setTrack (32 * c + i) { e with l := laps }
    else if (laps + 4294967296 - e.l) % 4294967296 ≤ 1 then
      let s := s.setTrack (32 * c + i) { e with state := e.state + 1, l := laps }
      if e.state + 1 = 3 then
        let s := match s.int.pass with
          | some (k, _) => if k = c then s.bump Reg.intPassPers 1 else s
          | none => s
        (s.orReg Reg.intStat 4).reportAlways 0x08 (ownerUnit c a) s.did
      else s
    else s.setTrack (32 * c + i) { e with state := 1, l := laps }
  | none =>
    let slot := ((s.oldestTrack c (fun e => e.state == 0)).orElse (fun _ =>
      s.oldestTrack c (fun e => e.state == 1))).orElse (fun _ => s.oldestTrack c (fun e => e.state == 2))
    match slot with
    | some i =>
      let s := s.setTrack (32 * c + i) { addr := a, state := 1, l := laps, age := s.int.trackAge + 1 }
      { s with int.trackAge := s.int.trackAge + 1 }
    | none => (s.bump (Reg.intPfull c) 1).orReg Reg.intStat 8

/-- R352: a read finds class address `a` of class `c` correctable. -/
def State.eccCorrected (s : State) (c a : Nat) : State :=
  ((s.bump (Reg.intCecnt c) 1).orReg Reg.intStat 1).trackCorrection c a

/-- R354: a read finds class address `a` of class `c` uncorrectable; the report is that of the class (Table IN-1). -/
def State.eccUncorrectable (s : State) (c : Nat) : State :=
  (s.bump (Reg.intUecnt c) 1).orReg Reg.intStat 2

/-- R354 with the SRAM_UE report of the classes that have no report of their own. -/
def State.eccSramUe (s : State) (c a : Nat) : State :=
  (s.eccUncorrectable c).report 0x09 (ownerUnit c a)

/-! ## Words of classes 6 to 10 -/

/-- Condition of the word at class address `a` of class `c`. -/
def State.wordEcc (s : State) (c a : Nat) : Ecc := s.int.eccs.get (c * 4294967296 + a) .ok
def State.setWordEcc (s : State) (c a : Nat) (e : Ecc) : State :=
  { s with int.eccs := s.int.eccs.set (c * 4294967296 + a) e .ok }

/-- What a read does to a word in condition `e` of class `c`: whether its data can be used, its condition afterwards,
and the state with the counts and reports (R352, R354). -/
def State.findEcc (s : State) (c a : Nat) : Ecc → Bool × Ecc × State
  | .ok => (true, .ok, s)
  | .correctable => (true, .ok, s.eccCorrected c a)
  | .poison => (false, .poison, s)
  | .uncorrectable => (false, .poison, s.eccSramUe c a)
  | .open_ _ => (false, .poison, s.eccSramUe c a)

/-- A read of a word of classes 6 to 10: whether its data can be used. -/
def State.consult (s : State) (c a : Nat) : Bool × State :=
  if s.wordEcc c a = .ok then (true, s)
  else
    let (u, e, s) := s.findEcc c a (s.wordEcc c a)
    (u, s.setWordEcc c a e)

/-- Whether the word at class address `a` of class `c` cannot be used (Table IN-1). -/
def State.wordFails (s : State) (c a : Nat) : Bool :=
  match s.wordEcc c a with
  | .ok => false
  | .correctable => false
  | _ => true

/-- A write of the whole word clears its errors (R353). -/
def State.wordWritten (s : State) (c a : Nat) : State := if s.wordEcc c a = .ok then s else s.setWordEcc c a .ok

/-- Class addresses of class 9, which are internal (Table IN-1): rules, ingress streams, egress streams and templates
(log 67). -/
def spbRule (r : Nat) : Nat := r
def spbIngress (sid : Nat) : Nat := 4096 + sid
def spbEgress (e : Nat) : Nat := 8192 + e
def spbTemplate (t : Nat) : Nat := 12288 + t

/-- Class addresses of class 10, which are internal: route entries of the NIs, the folding table, the collector and the
destination table of the Shaga engine (log 67). -/
def utbRoute (n e : Nat) : Nat := 64 * n + e
def utbFold (i : Nat) : Nat := 8192 + i
def utbFault (i : Nat) : Nat := 12288 + i
def utbShaga (d : Nat) : Nat := 16384 + d

end Sys2Proof.Machine
end

