-- ==== Sys2Proof/Machine/Flags.lean ====
section
/-! DEFINITION. Sys2Proof/Machine/Flags.lean: the ALU results and flags of a tile (Table CT-8 of 04_canvas_tile.md), several of which the
conductors share, and the condition codes (Table CT-7). -/
namespace Sys2Proof.Machine

/-- A result with the C and V it gives. -/
structure AluOut where
  r : Word
  c : Bool := false
  v : Bool := false
  deriving DecidableEq, Repr

/-- Whether a number lies outside the signed range of `b` bits. -/
def outRange (b : Nat) (i : Int) : Bool := decide (i < -((2 ^ (b - 1) : Nat) : Int)) || decide (((2 ^ (b - 1) : Nat) : Int) ≤ i)

/-- A number clamped to the signed range of `b` bits. -/
def satInt (b : Nat) (i : Int) : Int := clampI (-((2 ^ (b - 1) : Nat) : Int)) (((2 ^ (b - 1) : Nat) : Int) - 1) i

/-- `a + b + cin` with carry out and signed overflow; a subtraction is the addition of the complement (R100). -/
def addCarry (a b : Word) (cin : Bool) : AluOut :=
  let k := if cin then 1 else 0
  let n := a.toNat + b.toNat + k
  { r := word n, c := decide (2 ^ 32 ≤ n), v := outRange 32 (a.toInt + b.toInt + (k : Int)) }

/-- A signed sum or difference saturated to 32 bits. -/
def satWord (i : Int) : AluOut := { r := wordI (satInt 32 i), v := outRange 32 i }

/-- Shift left by `n` with the last bit shifted out. -/
def shlOut (a : Word) (n : Nat) : AluOut := { r := a <<< n, c := n != 0 && a.getLsbD (32 - n) }
def shrOut (a : Word) (n : Nat) : AluOut := { r := a >>> n, c := n != 0 && a.getLsbD (n - 1) }
def sarOut (a : Word) (n : Nat) : AluOut := { r := a.sshiftRight n, c := n != 0 && a.getLsbD (n - 1) }

/-- Number of leading zero bits, 0 to 32. -/
def clz32 (a : Word) : Nat := if a = 0#32 then 32 else 31 - Nat.log2 a.toNat

/-- Number of bits after bit 31 equal to it, 0 to 31. -/
def cls32 (a : Word) : Nat := clz32 (if a.bit 31 then ~~~a else a) - 1

/-- Number of one bits. -/
def popc32 (a : Word) : Nat := (List.range 32).foldl (fun k i => if a.bit i then k + 1 else k) 0

def minS (a b : Word) : Word := if a.toInt < b.toInt then a else b
def maxS (a b : Word) : Word := if a.toInt < b.toInt then b else a
def minU (a b : Word) : Word := if a.toNat < b.toNat then a else b
def maxU (a b : Word) : Word := if a.toNat < b.toNat then b else a

/-- Two 16-bit lanes joined. -/
def joinHalves (hi lo : Int) : Word := word (lowBits hi 16 * 65536 + lowBits lo 16)

/-- Lane-wise 16-bit sums or differences (codes 0x1F to 0x22). -/
def lanes (sub sat : Bool) (a b : Word) : AluOut :=
  let f (x y : Nat) : Int := if sub then sextN x 16 - sextN y 16 else sextN x 16 + sextN y 16
  let hi := f (a.bits 31 16) (b.bits 31 16)
  let lo := f (a.bits 15 0) (b.bits 15 0)
  let v := outRange 16 hi || outRange 16 lo
  if sat then { r := joinHalves (satInt 16 hi) (satInt 16 lo), v := v } else { r := joinHalves hi lo, v := v }

/-- Bits `[n+w:n]` of `a` replaced by bits `[w:0]` of `b`, bits above 31 dropped (BFI). -/
def bitInsert (a b : Word) (n w : Nat) : Word :=
  let m := 2 ^ (w + 1) - 1
  let mask := word (m * 2 ^ n)
  (a &&& ~~~mask) ||| (word ((b.toNat % (m + 1)) * 2 ^ n) &&& mask)

/-- The ALU of a tile (Table CT-8): operands A, B, S, the stored carry and the field width W. Codes 0x23 and above act
as PASS. -/
def alu (op : Nat) (a b x : Word) (cs : Bool) (w : Nat) : AluOut :=
  let n := b.bits 4 0
  match op with
  | 0x01 => addCarry a b false
  | 0x02 => addCarry a b cs
  | 0x03 => addCarry a (~~~b) true
  | 0x04 => addCarry a (~~~b) cs
  | 0x05 => satWord (a.toInt + b.toInt)
  | 0x06 => satWord (a.toInt - b.toInt)
  | 0x07 => { r := a &&& b }
  | 0x08 => { r := a ||| b }
  | 0x09 => { r := a ^^^ b }
  | 0x0A => { r := a &&& ~~~b }
  | 0x0B => shlOut a n
  | 0x0C => shrOut a n
  | 0x0D => sarOut a n
  | 0x0E => { r := a.rotateLeft n }
  | 0x0F => { r := minS a b }
  | 0x10 => { r := maxS a b }
  | 0x11 => { r := minU a b }
  | 0x12 => { r := maxU a b }
  | 0x13 => { r := word (a.toInt - b.toInt).natAbs }
  | 0x14 => { r := Word.flag (decide (a.toInt < b.toInt)) 0 }
  | 0x15 => { r := Word.flag (decide (a.toNat < b.toNat)) 0 }
  | 0x16 => { r := Word.flag (a == b) 0 }
  | 0x17 => { r := if x != 0#32 then a else b }
  | 0x18 => { r := minS (maxS a b) x, v := decide (a.toInt < b.toInt) || decide (x.toInt < a.toInt) }
  | 0x19 => { r := word (clz32 a) }
  | 0x1A => { r := word (cls32 a) }
  | 0x1B => { r := word (popc32 a) }
  | 0x1C => { r := word (a.toNat / 2 ^ n % 2 ^ (w + 1)) }
  | 0x1D => { r := bitInsert a x n w }
  | 0x1E => { r := word (a.bits 15 0 * 65536 + b.bits 15 0) }
  | 0x1F => lanes false false a b
  | 0x20 => lanes false true a b
  | 0x21 => lanes true false a b
  | 0x22 => lanes true true a b
  | _ => { r := a }

/-- Which of A, B and S an ALU code reads (Table CT-8). -/
def aluReads (op : Nat) : Bool × Bool × Bool :=
  if op = 0 ∨ op = 0x19 ∨ op = 0x1A ∨ op = 0x1B ∨ 0x23 ≤ op then (true, false, false)
  else if op = 0x17 ∨ op = 0x18 ∨ op = 0x1D then (true, true, true)
  else (true, true, false)

/-- A condition code (Table CT-7) on the flags; in a poisoned firing every condition holds (R101). -/
def condHolds (code : Nat) (poisoned z n c last : Bool) : Bool :=
  poisoned || (match code with
    | 0 => true
    | 1 => z
    | 2 => !z
    | 3 => n
    | 4 => !n
    | 5 => c
    | 6 => !c
    | _ => last)

/-! ## Multiply-accumulate arithmetic (06_mac_arithmetic.md) -/

/-- R137: `v` divided by `2^e`, rounded half to even. -/
def rne (v : Int) (e : Nat) : Int :=
  let d : Int := ((2 ^ e : Nat) : Int)
  let q := v / d
  let r := v - q * d
  if e = 0 then q
  else if 2 * r > d ∨ (2 * r = d ∧ q % 2 = 1) then q + 1 else q

/-- R137: the extracted value, with whether it saturated. -/
def extract (acc : Int) (e : Nat) (rnd : Bool) : Word × Bool :=
  let q := if rnd then rne acc e else acc / ((2 ^ e : Nat) : Int)
  (wordI (satInt 32 q), outRange 32 q)

/-- R133: one pre-shifted multiplier input, with whether it was clamped. -/
def preShift (v : Int) (sh w : Nat) : Int × Bool :=
  let q := rne v sh
  (satInt w q, outRange w q)

/-- R132, R133: the product of OP2 and OP3, with whether a pre-shifted input was clamped. -/
def macProduct (mode : Nat) (neg bxuse : Bool) (sh : Nat) (op2 op3 : Word) : Int × Bool :=
  let p : Int × Bool :=
    if mode = 1 then
      let m := if bxuse then preShift op2.toInt sh 24 else (sextN (op2.bits 23 0) 24, false)
      (m.1 * sextN (op3.bits 23 0) 24, m.2)
    else
      let hi := if bxuse then preShift (sextN (op2.bits 31 16) 16) sh 12 else (sextN (op2.bits 27 16) 12, false)
      let lo := if bxuse then preShift (sextN (op2.bits 15 0) 16) sh 12 else (sextN (op2.bits 11 0) 12, false)
      let ph := hi.1 * sextN (op3.bits 27 16) 12
      let pl := lo.1 * sextN (op3.bits 11 0) 12
      (if mode = 2 then pl + ph else pl - ph, hi.2 || lo.2)
  (if neg then -p.1 else p.1, p.2)

end Sys2Proof.Machine
end

