-- ==== Sys2Proof/Machine/CondState.lean ====
section
/-! DEFINITION. Sys2Proof/Machine/CondState.lean: the banks, memories and addresses of the conductors, their traps and their lazy
extended state (13_conductor_cores.md). -/
namespace Sys2Proof.Machine

def State.core (s : State) (c : Nat) : Core := s.cnd.cores.get c {}
def State.setCore (s : State) (c : Nat) (v : Core) : State := { s with cnd.cores := s.cnd.cores.set c v {} }
def Core.bank (x : Core) (b : Nat) : Bank := x.banks.get b {}
def Core.setBank (x : Core) (b : Nat) (v : Bank) : Core := { x with banks := x.banks.set b v {} }
def State.bank (s : State) (c b : Nat) : Bank := (s.core c).bank b
def State.setBank (s : State) (c b : Nat) (v : Bank) : State := s.setCore c ((s.core c).setBank b v)

/-- The active bank, 0 when the core is idle. -/
def State.actBank (s : State) (c : Nat) : Nat := (s.core c).active.getD 0

/-- Register gr of the active bank. -/
def State.gReg (s : State) (c r : Nat) : Word := (s.bank c (s.actBank c)).g.get r 0#32
def State.setG (s : State) (c r : Nat) (v : Word) : State :=
  let b := s.actBank c
  let x := s.bank c b
  s.setBank c b { x with g := x.g.set r v 0#32 }

def State.cpc (s : State) (c : Nat) : Word := (s.bank c (s.actBank c)).pc
def State.setCpc (s : State) (c : Nat) (v : Word) : State :=
  let b := s.actBank c
  s.setBank c b { s.bank c b with pc := v }
def State.csr (s : State) (c : Nat) : Word := (s.bank c (s.actBank c)).sr
def State.setCsr (s : State) (c : Nat) (v : Word) : State :=
  let b := s.actBank c
  s.setBank c b { s.bank c b with sr := v }

/-- Whether core `c` can execute at all: present, powered, released, neither held nor stopped by a double fault. -/
def State.coreRuns (s : State) (c : Nat) : Bool :=
  s.hasCore c && s.released && s.domOn 10 && !(s.core c).held && !(s.core c).dfault

/-- CNDc_STAT.HALTED: HALT and BREAK act outside an RPT (R278, R288). -/
def State.coreHalted (s : State) (c : Nat) : Bool :=
  ((s.core c).brk || s.regB (Reg.cndCtrl c) 2) && (s.core c).rpt.isNone

/-- KCK cycles since release: a KCK cycle lasts 1 ns, an EKL cycle 0.8 ns (log 2, 25). -/
def State.kcyc (s : State) : Nat := (s.cyc - s.relCyc) * 4 / 5

/-! ## Addresses and memories (R263, R264, R273) -/

/-- Targets of Table CO-1. -/
inductive Region where
  | x
  | y
  | i
  | cl
  | reg
  | bad
  deriving DecidableEq, Repr

def regionOf (a : Nat) : Region :=
  if a < 0x10000 then .x
  else if a < 0x20000 then .y
  else if a < 0x30000 then .i
  else if 0x100000 ≤ a ∧ a < 0x300000 then .cl
  else if 0x40000000 ≤ a ∧ a < 0x42000000 then .reg
  else .bad

/-- X, Y or cluster memory. -/
def plainRegion (a : Nat) : Bool := match regionOf a with | .x => true | .y => true | .cl => true | _ => false

def Core.mem (x : Core) : Region → SMap MCell
  | .y => x.ymem
  | .i => x.imem
  | _ => x.xmem

def Core.setMem (x : Core) (r : Region) (m : SMap MCell) : Core :=
  match r with
  | .y => { x with ymem := m }
  | .i => { x with imem := m }
  | _ => { x with xmem := m }

/-- Class and class address of word `w` of a core memory (Table IN-1). -/
def memClass (c : Nat) (r : Region) (w : Nat) : Nat × Nat :=
  match r with
  | .i => (3, c * 16384 + w)
  | .y => (4, c * 32768 + 16384 + w)
  | _ => (4, c * 32768 + w)

/-- Reads the word at byte address `a` of X, Y, instruction or cluster memory as core `c` sees it; none when it is
uncorrectable or poisoned (R273, R352, R354). -/
def State.cRead (s : State) (c a : Nat) : Option Word × State :=
  match regionOf a with
  | .cl =>
    let k := (a - 0x100000) / 8
    let cell := s.cnd.cluster.get k {}
    let w := word (cell.data.toNat / 2 ^ (32 * (a / 4 % 2)))
    match cell.ecc with
    | .ok => (some w, s)
    | .correctable =>
      (some w, { s with cnd.cluster := s.cnd.cluster.set k { cell with ecc := .ok } {} }.eccCorrected 5 k)
    | .poison => (none, s)
    | _ => (none, { s with cnd.cluster := s.cnd.cluster.set k { cell with ecc := .poison } {} }.eccSramUe 5 k)
  | r =>
    let x := s.core c
    let w := a % 0x10000 / 4
    let cell := (x.mem r).get w {}
    let (cls, ca) := memClass c r w
    match cell.ecc with
    | .ok => (some cell.data, s)
    | .correctable =>
      (some cell.data, (s.setCore c (x.setMem r ((x.mem r).set w { cell with ecc := .ok } {}))).eccCorrected cls ca)
    | .poison => (none, s)
    | _ => (none, (s.setCore c (x.setMem r ((x.mem r).set w { cell with ecc := .poison } {}))).eccSramUe cls ca)

/-- Bytes of `d` named by the mask over `old`. -/
def mergeMask (old d : Word) (mask : Nat) : Word :=
  word ((List.range 4).foldl (fun a i =>
    a + bitsOf (if Nat.testBit mask i then d else old).toNat (8 * i + 7) (8 * i) * 2 ^ (8 * i)) 0)

/-- Writes bytes of the word at address `a`; `false` when a partial write meets an uncorrectable word (R273, R353). -/
def State.cWrite (s : State) (c a : Nat) (d : Word) (mask : Nat) : Bool × State :=
  match regionOf a with
  | .cl =>
    let k := (a - 0x100000) / 8
    let (r, s) := s.cRead c a
    match r with
    | none => (false, s)
    | some _ =>
      let n := (s.cnd.cluster.get k {}).data.toNat
      let sh := 32 * (a / 4 % 2)
      let old := word (n / 2 ^ sh)
      let v := n - old.toNat * 2 ^ sh + (mergeMask old d mask).toNat * 2 ^ sh
      (true, { s with cnd.cluster := s.cnd.cluster.set k { data := BitVec.ofNat 64 v } {} })
  | r =>
    let put (s : State) (v : Word) : State :=
      let x := s.core c
      s.setCore c (x.setMem r ((x.mem r).set (a % 0x10000 / 4) { data := v } {}))
    if mask = 15 then (true, put s d)
    else
      let (o, s) := s.cRead c a
      match o with
      | none => (false, s)
      | some old => (true, put s (mergeMask old d mask))

/-- Writes both halves of the 64-bit cluster word `k`: such a write ends its poison (R273, R353). -/
def State.cWrite64 (s : State) (k : Nat) (lo hi : Word) : State :=
  { s with cnd.cluster := s.cnd.cluster.set k { data := hi ++ lo } {} }

/-- Writes words from `a` on, in cluster memory 64 bits at a time where both halves are written; the first refusal names
its address (R273). -/
def State.cWriteAll (s : State) (c a : Nat) : List Word → Option Word × State
  | [] => (none, s)
  | [d] =>
    let (ok, t) := s.cWrite c a d 15
    (if ok then none else some (word a), t)
  | d :: e :: r =>
    if a % 8 = 0 ∧ regionOf a = .cl then (s.cWrite64 ((a - 0x100000) / 8) d e).cWriteAll c (a + 8) r
    else
      let (ok, t) := s.cWrite c a d 15
      if ok then t.cWriteAll c (a + 4) (e :: r) else (some (word a), t)

/-! ## Threads: descriptors, slots and ready lists (R291, R293) -/

def Thread.prio (x : Thread) : Nat := x.cfg.bits 3 0
def Thread.aff (x : Thread) (c : Nat) : Bool := x.cfg.bit (4 + c)
def Thread.mask (x : Thread) (k : Nat) : Bool := x.cfg.bit (12 + k)
def Thread.valid (x : Thread) : Bool := x.cfg.bit 16
def Thread.pinned (x : Thread) : Bool := x.cfg.bit 17
def Thread.rcv (x : Thread) : Bool := x.cfg.bit 18

def Thread.slot (x : Thread) : Nat → Option Word
  | 0 => x.slot0
  | 1 => x.slot1
  | 2 => x.slot2
  | _ => x.slot3

def Thread.setSlot (x : Thread) (k : Nat) (v : Option Word) : Thread :=
  match k with
  | 0 => { x with slot0 := v }
  | 1 => { x with slot1 := v }
  | 2 => { x with slot2 := v }
  | _ => { x with slot3 := v }

/-- Every slot of SMASK is full; a thread with SMASK = 0 never becomes ready. -/
def Thread.complete (x : Thread) : Bool :=
  x.cfg.bits 15 12 != 0 && (List.range 4).all (fun k => !x.mask k || (x.slot k).isSome)

/-- Takes thread `t` off its ready list. -/
def State.unready (s : State) (t : Nat) : State :=
  { s with dis.ready := s.dis.ready.filterMap (fun p =>
      let l := p.2.filter (· != t)
      if l.isEmpty then none else some (p.1, l)) }

def State.readyList (s : State) (p : Nat) : List Nat := s.dis.ready.get p []
def State.setReadyList (s : State) (p : Nat) (l : List Nat) : State := { s with dis.ready := s.dis.ready.set p l [] }

/-- Thread `t` enters the list of its priority at the tail. -/
def State.enqueue (s : State) (t : Nat) : State :=
  let p := (s.thread t).prio
  s.setReadyList p (s.readyList p ++ [t])

/-- Thread `t` becomes READY at the tail of the list of its priority; a blocked episode begins afresh (R300). -/
def State.makeReady (s : State) (t : Nat) : State :=
  (s.setThread t { s.thread t with state := 2, nested := false }).enqueue t

/-! ## Offline cores (R303) -/

/-- A dispatch of thread `t` that cannot get its bank after all: the thread is READY again at the head of its list with
the values taken from its slots; a token that has followed into such a slot returns to the head of the queue. A thread
whose V is 0 keeps nothing, and one that is FAULTED stays so (R299, R302, R303) (log 64). -/
def State.unselect (s : State) (t : Nat) (vals : List (Nat × Word)) : State :=
  let x := s.thread t
  if !x.valid then s.setThread t { x with state := 0, pend := false, dying := false, res := none, cold := true }
  else
    let s := vals.foldl (fun s p =>
      let y := s.thread t
      let s : State := match y.slot p.1 with
        | some v => { s with dis.overflow := { tk := { tid := t, slot := p.1, val := v } } :: s.dis.overflow }
        | none => s
      s.setThread t (y.setSlot p.1 (some p.2))) s
    let y : Thread := { s.thread t with pend := false, dying := false, cold := (s.thread t).cold || (s.thread t).dying }
    if y.state = 4 then s.setThread t y
    else if !y.complete then s.setThread t { y with state := 1 }
    else (s.setThread t { y with state := 2, nested := false }).setReadyList y.prio (t :: s.readyList y.prio)

/-- Thread `t` loses its registers with the bank that held it: it is FAULTED, or DISABLED where its V is 0 (R302, R303). -/
def State.lost (s : State) (t : Nat) : State :=
  let x := s.thread t
  (s.unready t).setThread t { x with
    state := if x.valid then 4 else 0, res := none, cold := true, pend := false, dying := false }

/-- Whether thread `t` is resident on core `c`. -/
def State.residesOn (s : State) (t c : Nat) : Bool :=
  match (s.thread t).res with
  | some (k, _) => k == c
  | none => false

/-- The threads of core `c` when it loses its banks: those resident there lose their registers, and those that wait for
an eviction there are READY again (R284, R303) (log 64). -/
def State.threadsLost (s : State) (c : Nat) : State :=
  let s := (s.dis.threads.map Prod.fst).foldl (fun s t => if s.residesOn t c then s.lost t else s) s
  let waits := (s.core c).moves.filter (fun m => m.evict)
  let s := waits.foldl (fun s m => s.unselect m.thread m.vals) s
  s.setCore c { s.core c with run := none, stack := [], reqs := [], moves := [] }

/-- The Dispatcher's part of a double fault of core `c` (R296, R303). -/
def State.coreOffline (s : State) (c : Nat) : State :=
  let s := ((s.clrReg Reg.disCore (2 ^ c)).orReg Reg.disErr 0x40).threadsLost c
  if s.regB Reg.disCtrl 2 then s.setRegF Reg.disCtrl 1 0 3 else s

/-! ## Traps (R282, R284) -/

/-- The end of the running RPT of core `c`, with the cycles for which it has deferred a switch (R278, R288). -/
def State.rptEnd (s : State) (c : Nat) : State :=
  let x := s.core c
  match x.rpt with
  | none => s
  | some _ =>
    let waits := if x.reqs.isEmpty then 0 else x.rptWait + 1
    (s.setReg (Reg.cndRptmax c) (word (Nat.max (s.reg (Reg.cndRptmax c)).toNat (Nat.min waits 65535)))).setCore c
      { x with rpt := none, rptWait := 0 }

/-- A trap raised by the instruction at pc of the active bank of core `c`. -/
def State.trap (s0 : State) (c cause : Nat) (tval : Word) : State :=
  let rep := (s0.core c).rpt.getD 0
  let s := s0.rptEnd c
  let x := s.core c
  let b := s.actBank c
  if b = 0 then
    let df := word (s.regF (Reg.cndTcause c) 7 0 + cause * 256 + 0x80000000)
    let s := (s.setReg (Reg.cndDf c) df).setCore c { x with dfault := true }
    (s.report 0x15 (0x1700 + c)).coreOffline c
  else
    let k := x.bank b
    let s := s.setReg (Reg.cndTcause c) (word (cause + b * 256 + rep * 2048))
    let s := (s.setReg (Reg.cndTpc c) k.pc).setReg (Reg.cndTval c) tval
    let x := x.setBank b { k with state := 4 }
    let x := x.setBank 0 { x.bank 0 with state := 2, pc := word ((s.reg (Reg.cndTvec c)).toNat + 32 * cause) }
    (s.setCore c { x with active := some 0 }).bump (Reg.cndTraps c) 1

/-- The next instruction, or the next repetition, after one that completed (R278). -/
def State.next (s : State) (c : Nat) : State :=
  let x := s.core c
  let step (s : State) : State := s.setCpc c (s.cpc c + 4#32)
  match x.rpt with
  | none => step s
  | some n =>
    let waits := if x.reqs.isEmpty then 0 else x.rptWait + 1
    if 1 < n then s.setCore c { x with rpt := some (n - 1), rptWait := waits }
    else step (s.rptEnd c)

/-! ## Extended registers (R286) -/

/-- The extended registers at zero, with bx.HEAD 31. -/
def Core.clearExt (x : Core) : Core := { x with a0 := 0, a1 := 0, p := [], m := [], l := [], head := 31, exp := 0 }

/-- The 40 words of an extended save area (Table CO-12). -/
def Core.areaWords (x : Core) (b : Nat) : List Word :=
  let r8 (m : SMap Word) : List Word := (List.range 8).map (fun i => m.get i 0#32)
  let acc (a : Int) : List Word := [wordI a, wordI (a / 4294967296), wordI (sextN (lowBits (a / 2 ^ 64) 8) 8)]
  r8 x.p ++ r8 x.m ++ r8 x.l ++ acc x.a0 ++ acc x.a1 ++ [word (x.head + x.exp * 256), word ((x.bank b).tid + b * 1024)]
    ++ List.replicate 8 0#32

/-- Extended registers loaded from an area. -/
def Core.loadArea (x : Core) (ws : List Word) : Core :=
  let w (i : Nat) : Word := ws.getD i 0#32
  let r8 (k : Nat) : SMap Word := (List.range 8).foldl (fun m i => SMap.set m i (w (k + i)) 0#32) []
  let acc (k : Nat) : Int := sextN ((w k).toNat + (w (k + 1)).toNat * 2 ^ 32 + (w (k + 2)).bits 7 0 * 2 ^ 64) 72
  { x with p := r8 0, m := r8 8, l := r8 16, a0 := acc 24, a1 := acc 27, head := (w 30).bits 4 0, exp := (w 30).bits 15 8 }

/-- KCK cycles of an area transfer. -/
def areaCycles (a : Word) : Nat := if regionOf a.toNat = .cl then 160 else 40

/-- Bank `b` becomes the owner, with the registers at zero. -/
def State.ownExt (s : State) (c b : Nat) : State :=
  let x := (s.core c).clearExt
  s.setCore c ({ x with xown := b, want := none }.setBank b { x.bank b with xst := 1 })

/-- An extended instruction of core `c` (R286): `k` when its bank's state is in the registers; otherwise the owner is
saved first and the instruction stalls. Bank b0 has no state of its own to save. -/
def State.withExt (s : State) (c : Nat) (k : State → State) : State :=
  let x := s.core c
  let b := s.actBank c
  if b = 0 ∨ (x.bank b).xst = 1 then k s
  else
    let o := x.xown
    let own := x.bank o
    if o ≠ 0 ∧ own.xst = 1 then
      if own.xbad then k ((s.setBank c o { own with xst := 3 }).ownExt c b)
      else s.setCore c { x with save := some o, want := some b, xsince := s.kcyc }
    else k (s.ownExt c b)

/-- Writes the area of bank `o`, which becomes SAVED. -/
def State.writeArea (s : State) (c o : Nat) : State :=
  let x := s.core c
  let s := (s.cWriteAll c (x.bank o).xarea.toNat (x.areaWords o)).2
  s.setBank c o { s.bank c o with xst := 2 }

/-- The save engine waits for the auxiliary port: an RPT of core `c` runs and `a` lies in its X or Y memory (R278). -/
def State.auxHeld (s : State) (c a : Nat) : Bool :=
  (s.core c).rpt.isSome && (match regionOf a with | .x => true | .y => true | _ => false)

/-- Counts the cycles of a whole transfer to or from area `a` for which the active bank stalled (R286) (log 25). -/
def State.stalled (s : State) (c : Nat) (a : Word) : State :=
  (s.setCore c { s.core c with xsince := s.kcyc }).bump (Reg.cndXstall c) (areaCycles a)

/-- Counts the cycles so far of a stall that a bank switch cuts short, those of one transfer with area `a` at most. -/
def State.stallCut (s : State) (c : Nat) (a : Word) : State :=
  s.bump (Reg.cndXstall c) (Nat.min (s.kcyc - (s.core c).xsince) (areaCycles a))

/-- Meaning of EXTENDED_SAVE_DONE (R286): a save that goes on after a switch stalls nobody. -/
def extendedSaveDone (c : Nat) (s : State) : State :=
  let x := s.core c
  match x.save with
  | none => s
  | some o =>
    let a := (x.bank o).xarea
    if s.auxHeld c a.toNat then s
    else
      let s := s.writeArea c o
      let s := s.setCore c { s.core c with save := none }
      match x.want, x.restore with
      | some b, _ => (s.stalled c a).ownExt c b
      | none, some _ => s.stalled c a
      | none, none => s

/-- g15 of a bank moves by the size of an area. -/
def Bank.moveSp (k : Bank) (d : Word) : Bank := { k with g := k.g.set 15 (k.g.get 15 0#32 + d) 0#32 }

/-- Raises the BUSERR of a load that failed while its bank was away (R271). -/
def State.lateLoad (s : State) (c : Nat) : State :=
  let b := s.actBank c
  match (s.bank c b).loadErr with
  | some a => (s.setBank c b { s.bank c b with loadErr := none }).trap c 3 a
  | none => s

/-- Reads the 40 words of an area; the first uncorrectable word ends it. -/
def State.readArea (s : State) (c a : Nat) : Nat → List Word × Option Word × State
  | 0 => ([], none, s)
  | n + 1 =>
    let (ws, e, s) := s.readArea c a n
    match e with
    | some _ => (ws, e, s)
    | none =>
      let (r, s) := s.cRead c (a + 4 * n)
      match r with
      | some w => (ws ++ [w], none, s)
      | none => (ws, some (word (a + 4 * n)), s)

/-- Meaning of EXTENDED_RESTORE_DONE (R286). -/
def extendedRestoreDone (c : Nat) (s : State) : State :=
  let x := s.core c
  match x.restore, x.save with
  | some b, none =>
    let area := (x.bank b).xarea
    let (ws, e, s) := s.readArea c area.toNat 40
    let x := s.core c
    let x := match e with
      | none => x.loadArea ws
      | some _ => { x.clearExt with head := 0 }
    let x := { x with restore := none, xown := b }
    let x := x.setBank b { (x.bank b).moveSp 160#32 with xst := 1 }
    let s := (s.setCore c x).stalled c area
    match e with
    | some a => s.trap c 4 a
    | none => s.lateLoad c
  | _, _ => s

/-- Whether an area can hold the extended state. -/
def areaOk (a : Word) : Bool :=
  let n := a.toNat
  n % 8 == 0 && plainRegion n && regionOf (n + 159) == regionOf n

/-- A bank as a switch-out leaves it: PREEMPTED, with its area below g15 (R286). -/
def Bank.switchedOut (k : Bank) : Bank :=
  let k := k.moveSp (0xFFFFFF60#32)
  let a := k.g.get 15 0#32
  { k with state := 3, xarea := a, xbad := !areaOk a }

/-- The switch-out of bank `b` (R286); a restore in progress is abandoned and leaves the bank as it was. The cycles for
which the bank has stalled count. -/
def State.switchOut (s : State) (c b : Nat) : State :=
  let x := s.core c
  let cut (s : State) : State := s.stallCut c (x.bank (x.save.getD b)).xarea
  if x.restore = some b then
    (cut s).setCore c ({ x with restore := none }.setBank b { x.bank b with state := 3 })
  else (if x.want = some b then cut s else s).setCore c (x.setBank b (x.bank b).switchedOut)

/-- The switch-in of a resumed bank (R286). -/
def State.switchIn (s : State) (c b : Nat) : State :=
  let x := (s.core c).setBank b { (s.core c).bank b with state := 2 }
  let x := { x with active := some b, xsince := s.kcyc }
  let k := x.bank b
  if k.xst = 2 then
    let o := x.xown
    if o ≠ 0 ∧ o ≠ b ∧ (x.bank o).xst = 1 then
      if (x.bank o).xbad then s.setCore c { x.setBank o { x.bank o with xst := 3 } with restore := some b }
      else s.setCore c { x with restore := some b, save := some o }
    else s.setCore c { x with restore := some b }
  else
    let s := s.setCore c (x.setBank b { k.moveSp 160#32 with xst := if k.xst = 3 then 0 else k.xst })
    if k.xst = 3 then s.trap c 0x0B k.xarea else s.lateLoad c

/-! ## Save lists (R285) -/

/-- How a save-list instruction ends: the new slh, or a trap cause with its value. -/
inductive ListEnd where
  | done (slh : Word)
  | trap (cause : Nat) (tval : Word)
  deriving DecidableEq, Repr

/-- Whether `n` may hold a node. -/
def nodeOk (n : Word) : Bool := n.toNat % 64 == 0 && plainRegion n.toNat

/-- SAVEL (`low`) or SAVEU of bank `b`, with `pc` the pc to store. -/
def State.saveNode (s : State) (c b : Nat) (low : Bool) (pc : Word) : ListEnd × State :=
  let k := s.bank c b
  if !nodeOk k.slh then (.trap 2 k.slh, s)
  else
    let (r, s) := s.cRead c k.slh.toNat
    match r with
    | none => (.trap 4 k.slh, s)
    | some n =>
      if n = 0#32 then (.trap 5 k.slh, s)
      else if !nodeOk n then (.trap 2 n, s)
      else
        let gs := (List.range 8).map (fun i => k.g.get ((if low then 0 else 8) + i) 0#32)
        let body := [k.slh, if low then 1#32 else 2#32] ++ gs ++ (if low then [pc, k.sr] else [])
        let (e, s) := s.cWriteAll c (n.toNat + 4) body
        match e with
        | some a => (.trap 4 a, s)
        | none => (.done n, s)

/-- Reads the words at the offsets `is` of node `n`; the first uncorrectable word ends it. -/
def State.readNode (s : State) (c n : Nat) : List Nat → List Word × Option Word × State
  | [] => ([], none, s)
  | i :: r =>
    match s.cRead c (n + i) with
    | (none, s) => ([], some (word (n + i)), s)
    | (some w, s) =>
      let (ws, e, s) := s.readNode c n r
      (w :: ws, e, s)

/-- Offsets that RESTL and RESTLJ (`low`) or RESTU read once KIND fits: the registers of Table CO-11, PREV, and the pc
where it is loaded (`jump`). -/
def nodeOffsets (low jump : Bool) : List Nat :=
  (List.range 8).map (fun i => 0x0C + 4 * i) ++ (if low then [0x30] else []) ++ [0x04] ++ (if jump then [0x2C] else [])

/-- RESTL, RESTLJ (`jump`) or RESTU of bank `b`: the new slh, and the registers of the node with sr and the pc where they
are loaded (R285). -/
def State.restNode (s : State) (c b : Nat) (low jump : Bool) : ListEnd × List Word × State :=
  let n := (s.bank c b).slh
  if !nodeOk n then (.trap 2 n, [], s)
  else
    match s.cRead c (n.toNat + 8) with
    | (none, s) => (.trap 4 (n + 8#32), [], s)
    | (some kind, s) =>
      if kind = 0#32 then (.trap 6 n, [], s)
      else if kind ≠ (if low then 1#32 else 2#32) then (.trap 7 n, [], s)
      else
        let (ws, e, s) := s.readNode c n.toNat (nodeOffsets low jump)
        match e with
        | some a => (.trap 4 a, [], s)
        | none => (.done (ws.getD (if low then 9 else 8) 0#32), ws, s)

/-- Bank `b` after RESTL or RESTLJ (`low`), or RESTU, has read `ws` with new slh `n`; the pc is left to the caller. -/
def Bank.restored (k : Bank) (low : Bool) (n : Word) (ws : List Word) : Bank :=
  let base := if low then 0 else 8
  { k with slh := n, sr := if low then ws.getD 8 0#32 &&& 0x3F#32 else k.sr,
           g := (List.range 8).foldl (fun g i => g.set (base + i) (ws.getD i 0#32) 0#32) k.g }

/-- CNDc_STAT as read; a core the loader holds is not IDLE, so that it reads its reset value (R288). -/
def State.cndStatRead (s : State) (c : Nat) : Word :=
  let x := s.core c
  s.reg (Reg.cndStat c) ||| Word.flag (s.coreHalted c) 0 ||| Word.flag x.dfault 1 ||| Word.flag (x.active == some 0) 2
    ||| word (s.actBank c * 8) ||| Word.flag (x.active.isNone && !x.held) 6 ||| Word.flag x.rpt.isSome 7
    ||| Word.flag (x.save.isSome || x.restore.isSome || !x.moves.isEmpty) 8 ||| Word.flag x.held 10

/-- CNDc_BANKb as read. -/
def State.cndBankRead (s : State) (c b : Nat) : Word :=
  let k := s.bank c b
  word (k.state + k.tid * 8 + k.xst * 8192 + (if k.xbad then 32768 else 0))

/-- The copies of CNDc_SK_* at the latch instant of a Sketch. -/
def State.cndSketch (s : State) (c : Nat) : State :=
  let s := s.setReg (Reg.cndSkStat c) (s.cndStatRead c)
  let s := s.setReg (Reg.cndSkPc c) (s.cpc c)
  s.setReg (Reg.cndSkBanks c) (word ((List.range 8).foldl (fun a b => a + (s.bank c b).state * 8 ^ b) 0))

end Sys2Proof.Machine
end

