-- ==== Sys2Proof/Machine/Conductor.lean ====
section
/-! DEFINITION. Sys2Proof/Machine/Conductor.lean: the instruction set of the conductors: decoding of an instruction word and the effect
of each instruction (R265 to R285). -/
namespace Sys2Proof.Machine

/-! ## Decoding (R267, Tables CO-4 and CO-5) -/

/-- The instructions of a conductor, one name for each row of the command table. -/
inductive COp where
  | nop | done | post | sync | rtt | rttn | mfs | mts | bkrd | bkwr | savel | saveu | restl | restlj | restu
  | add | addc | sub | subc | adds | subs | and | or | xor | andn | shl | shr | sar | rol | shrr | min | max | minu | maxu
  | slt | sltu | seq | clz | cls | popc | mul | mulh | mulhu | div | divu | rem | remu
  | addi | andi | ori | xori | slti | sltiu | shli | shri | sari | lui
  | ldb | ldbu | ldh | ldhu | ldw | ldd | stb | sth | stw | std
  | b | call | jalr | jr | rpt | trap | break | pointer
  | extr | expb | bxc | scla | none | mac | msu | mpy | mac2 | msu2 | clr | acca
  deriving DecidableEq, Repr

/-- The ALU function codes in order (Table CO-6). -/
def aluOps : List COp :=
  [.add, .addc, .sub, .subc, .adds, .subs, .and, .or, .xor, .andn, .shl, .shr, .sar, .rol, .shrr, .min,
   .max, .minu, .maxu, .slt, .sltu, .seq, .clz, .cls, .popc, .mul, .mulh, .mulhu, .div, .divu, .rem, .remu]

/-- The SUB codes of OP 0x00 in order. -/
def sysOps : List COp :=
  [.nop, .done, .post, .sync, .rtt, .rttn, .mfs, .mts, .bkrd, .bkwr, .savel, .saveu, .restl, .restlj, .restu]

def immOps : List COp := [.addi, .andi, .ori, .xori, .slti, .sltiu, .shli, .shri, .sari]
def loadOps : List COp := [.ldb, .ldbu, .ldh, .ldhu, .ldw, .ldd]
def storeOps : List COp := [.stb, .sth, .stw, .std]
def dspOps : List COp := [.none, .mac, .msu, .mpy, .mac2, .msu2, .clr, .acca]
def extOps : List COp := [.extr, .expb, .bxc, .scla]

def cOp (w : Word) : Nat := w.bits 31 26
def cRd (w : Word) : Nat := w.bits 25 22
def cRa (w : Word) : Nat := w.bits 21 18
def cRb (w : Word) : Nat := w.bits 17 14
def cImm (w : Word) : Nat := w.bits 17 0
def cSimm (w : Word) : Int := sextN (cImm w) 18
def cE (w : Word) : Nat := w.bits 16 11

/-- The instruction of a word; none where it raises ILLEGAL whatever the state (R267, R277) (log 13). -/
def decodeC (w : Word) : Option COp :=
  let op := cOp w
  if op = 0 then (if w.bits 8 4 = 0 then sysOps[w.bits 3 0]? else .none)
  else if op = 1 then (if w.bits 7 0 = 0 then aluOps[w.bits 13 8]? else .none)
  else if op ≤ 0x0A then immOps[op - 2]?
  else if op = 0x0B then some .lui
  else if 0x10 ≤ op ∧ op ≤ 0x15 then (if op = 0x15 ∧ cRd w % 2 = 1 then .none else loadOps[op - 0x10]?)
  else if 0x18 ≤ op ∧ op ≤ 0x1B then (if op = 0x1B ∧ cRd w % 2 = 1 then .none else storeOps[op - 0x18]?)
  else if op = 0x20 then (if w.bits 25 22 = 15 then .none else some .b)
  else if op = 0x21 then some .call
  else if op = 0x22 then
    (if w.bits 7 0 ≠ 0 then .none else if w.bits 13 8 = 0 then some .jalr else if w.bits 13 8 = 1 then some .jr else .none)
  else if op = 0x23 then (if w.bits 17 13 = 0 then some .rpt else .none)
  else if op = 0x24 then some .trap
  else if op = 0x25 then some .break
  else if op = 0x30 then (if w.bits 9 0 = 0 then some .pointer else .none)
  else if op = 0x31 then
    (if w.bits 4 0 ≠ 0 then .none
     else if (w.bits 10 5 = 0 ∨ w.bits 10 5 = 3) ∧ 40 < cE w then .none
     else if w.bits 10 5 = 2 ∧ 31 < cE w then .none
     else extOps[w.bits 10 5]?)
  else if op = 0x38 then (if w.bits 0 0 = 0 then dspOps[w.bits 25 22]? else .none)
  else .none

/-- The operand fields of Table CO-4, each as wide as its format gives it. -/
structure CFields where
  rd  : Fin 16 := 0
  ra  : Fin 16 := 0
  rb  : Fin 16 := 0
  /-- N and BK of format S. -/
  n   : Fin 64 := 0
  bk  : Fin 8 := 0
  imm18 : Fin 262144 := 0
  imm22 : Fin 4194304 := 0
  disp26 : Fin 67108864 := 0
  /-- R and N−1 of RPT. -/
  rep : Fin 8192 := 0
  /-- P, W, SZ, AM, M and U of format P. -/
  ptr : Fin 4096 := 0
  /-- A and E of format E. -/
  acc : Fin 2 := 0
  e   : Fin 64 := 0
  /-- A, S1, S2, XMV and YMV of format X. -/
  dsp : Fin 2097152 := 0
  deriving DecidableEq, Repr

/-- Words of formats S, R and I (Table CO-4). -/
def encS (f : CFields) (sub : Nat) : Word :=
  word (f.rd.val * 2 ^ 22 + f.ra.val * 2 ^ 18 + f.n.val * 2 ^ 12 + f.bk.val * 2 ^ 9 + sub)
def encR (f : CFields) (op fn : Nat) : Word :=
  word (op * 2 ^ 26 + f.rd.val * 2 ^ 22 + f.ra.val * 2 ^ 18 + f.rb.val * 2 ^ 14 + fn * 2 ^ 8)
def encI (f : CFields) (op : Nat) : Word :=
  word (op * 2 ^ 26 + f.rd.val * 2 ^ 22 + f.ra.val * 2 ^ 18 + f.imm18.val)
/-- Words of formats U and B, E and X. -/
def encU (f : CFields) (op : Nat) : Word := word (op * 2 ^ 26 + f.rd.val * 2 ^ 22 + f.imm22.val)
def encE (f : CFields) (fn : Nat) : Word :=
  word (0x31 * 2 ^ 26 + f.rd.val * 2 ^ 22 + f.ra.val * 2 ^ 18 + f.acc.val * 2 ^ 17 + f.e.val * 2 ^ 11 + fn * 2 ^ 5)
def encX (f : CFields) (dop : Nat) : Word := word (0x38 * 2 ^ 26 + dop * 2 ^ 22 + f.dsp.val * 2)

/-- The word of instruction `op` with operand fields `f` (Tables CO-4 to CO-6 and CO-8). -/
def encodeC (op : COp) (f : CFields) : Word :=
  match op with
  | .nop => encS f 0 | .done => encS f 1 | .post => encS f 2 | .sync => encS f 3 | .rtt => encS f 4 | .rttn => encS f 5
  | .mfs => encS f 6 | .mts => encS f 7 | .bkrd => encS f 8 | .bkwr => encS f 9 | .savel => encS f 10
  | .saveu => encS f 11 | .restl => encS f 12 | .restlj => encS f 13 | .restu => encS f 14
  | .add => encR f 1 0 | .addc => encR f 1 1 | .sub => encR f 1 2 | .subc => encR f 1 3 | .adds => encR f 1 4
  | .subs => encR f 1 5 | .and => encR f 1 6 | .or => encR f 1 7 | .xor => encR f 1 8 | .andn => encR f 1 9
  | .shl => encR f 1 10 | .shr => encR f 1 11 | .sar => encR f 1 12 | .rol => encR f 1 13 | .shrr => encR f 1 14
  | .min => encR f 1 15 | .max => encR f 1 16 | .minu => encR f 1 17 | .maxu => encR f 1 18 | .slt => encR f 1 19
  | .sltu => encR f 1 20 | .seq => encR f 1 21 | .clz => encR f 1 22 | .cls => encR f 1 23 | .popc => encR f 1 24
  | .mul => encR f 1 25 | .mulh => encR f 1 26 | .mulhu => encR f 1 27 | .div => encR f 1 28 | .divu => encR f 1 29
  | .rem => encR f 1 30 | .remu => encR f 1 31
  | .addi => encI f 2 | .andi => encI f 3 | .ori => encI f 4 | .xori => encI f 5 | .slti => encI f 6 | .sltiu => encI f 7
  | .shli => encI f 8 | .shri => encI f 9 | .sari => encI f 10 | .lui => encU f 0x0B
  | .ldb => encI f 0x10 | .ldbu => encI f 0x11 | .ldh => encI f 0x12 | .ldhu => encI f 0x13 | .ldw => encI f 0x14
  | .ldd => encI f 0x15 | .stb => encI f 0x18 | .sth => encI f 0x19 | .stw => encI f 0x1A | .std => encI f 0x1B
  | .b => encU f 0x20 | .call => word (0x21 * 2 ^ 26 + f.disp26.val) | .jalr => encR f 0x22 0 | .jr => encR f 0x22 1
  | .rpt => word (0x23 * 2 ^ 26 + f.rd.val * 2 ^ 22 + f.ra.val * 2 ^ 18 + f.rep.val)
  | .trap => encI f 0x24 | .break => encI f 0x25
  | .pointer => word (0x30 * 2 ^ 26 + f.rd.val * 2 ^ 22 + f.ptr.val * 2 ^ 10)
  | .extr => encE f 0 | .expb => encE f 1 | .bxc => encE f 2 | .scla => encE f 3
  | .none => encX f 0 | .mac => encX f 1 | .msu => encX f 2 | .mpy => encX f 3 | .mac2 => encX f 4 | .msu2 => encX f 5
  | .clr => encX f 6 | .acca => encX f 7

/-- Operands an instruction may have: an even RD for doubles, no COND 15, and E in the range of EXTR, SCLA and BXC. -/
def legalC (op : COp) (f : CFields) : Bool :=
  match op with
  | .ldd | .std => f.rd.val % 2 == 0
  | .b => f.rd.val != 15
  | .extr | .scla => decide (f.e.val ≤ 40)
  | .bxc => decide (f.e.val ≤ 31)
  | _ => true

/-- The operand fields of a word. -/
def fieldsC (w : Word) : CFields :=
  { rd := Fin.ofNat 16 (cRd w), ra := Fin.ofNat 16 (cRa w), rb := Fin.ofNat 16 (cRb w), n := Fin.ofNat 64 (w.bits 17 12),
    bk := Fin.ofNat 8 (w.bits 11 9), imm18 := Fin.ofNat 262144 (cImm w), imm22 := Fin.ofNat 4194304 (w.bits 21 0),
    disp26 := Fin.ofNat 67108864 (w.bits 25 0), rep := Fin.ofNat 8192 (w.bits 12 0), ptr := Fin.ofNat 4096 (w.bits 21 10),
    acc := Fin.ofNat 2 (w.bits 17 17), e := Fin.ofNat 64 (cE w), dsp := Fin.ofNat 2097152 (w.bits 21 1) }

/-- Instructions RPT may repeat (R278). -/
def repeatable : COp → Bool
  | .mul | .mulh | .mulhu | .div | .divu | .rem | .remu => false
  | .ldb | .ldbu | .ldh | .ldhu | .ldw | .ldd | .stb | .sth | .stw | .std | .pointer => true
  | .none | .mac | .msu | .mpy | .mac2 | .msu2 | .clr | .acca => true
  | o => aluOps.contains o || immOps.contains o

/-! ## Fetch and issue (R263, R269, R273) -/

/-- Whether pc can be fetched from. -/
def pcOk (pc : Word) : Bool := pc.bits 31 16 == 0 && pc.bits 1 0 == 0

/-- The word at `pc` as the fetch sees it, without the effects of a correction. -/
def State.peekC (s : State) (c : Nat) (pc : Word) : Option Word :=
  if pcOk pc then
    let cell := (s.core c).imem.get (pc.toNat / 4) {}
    match cell.ecc with
    | .ok => some cell.data
    | .correctable => some cell.data
    | _ => none
  else none

/-- Whether the active bank of core `c` can issue: it is not held by a load, a save or a restore (log 13). -/
def State.canIssue (s : State) (c : Nat) : Bool :=
  let x := s.core c
  s.coreRuns c && (match x.active with
    | none => false
    | some b => !(x.bank b).load && x.restore.isNone && x.want != some b)

/-- The fetch takes its word; a correctable one is corrected (log 13). -/
def State.fetched (s : State) (c : Nat) : State := (s.cRead c (0x20000 + (s.cpc c).toNat)).2

/-- Issues instruction `op` on core `c` when the word at pc is one of it (log 13). -/
def State.issue (s : State) (c : Nat) (op : COp) (sem : Nat → Word → State → State) : State :=
  if !s.canIssue c || s.coreHalted c then s
  else
    match s.peekC c (s.cpc c) with
    | none => s
    | some w => if decodeC w = some op then sem c w (s.fetched c) else s

/-- ILLEGAL with the instruction word (Table CO-10). -/
def State.illegalC (s : State) (c : Nat) (w : Word) : State := s.trap c 1 w

/-! ## ALU (R268) -/

/-- Sets Z, N, C and V (R265). -/
def setFlags (sr : Word) (r : Word) (cc v : Bool) : Word :=
  (sr &&& 0xFFFFFFF0#32) ||| Word.flag (r == 0#32) 0 ||| Word.flag (r.bit 31) 1 ||| Word.flag cc 2 ||| Word.flag v 3

/-- Writes rd and the flags. -/
def State.aluWrite (s : State) (c rd : Nat) (o : AluOut) : State :=
  let s := s.setG c rd o.r
  (s.setCsr c (setFlags (s.csr c) o.r o.c o.v)).next c

/-- An ALU operation of Table CT-8 on ra and rb. -/
def semAlu (code c : Nat) (w : Word) (s : State) : State :=
  s.aluWrite c (cRd w) (alu code (s.gReg c (cRa w)) (s.gReg c (cRb w)) 0#32 ((s.csr c).bit 2) 0)

/-- An ALU operation on ra and an immediate. -/
def semImm (code : Nat) (imm : Word → Word) (c : Nat) (w : Word) (s : State) : State :=
  s.aluWrite c (cRd w) (alu code (s.gReg c (cRa w)) (imm w) 0#32 ((s.csr c).bit 2) 0)

def immS (w : Word) : Word := wordI (cSimm w)
def immU (w : Word) : Word := word (cImm w)
def imm5 (w : Word) : Word := word (w.bits 4 0)

/-- An operation of two words that clears C and V. -/
def semTwo (f : Word → Word → Word) (c : Nat) (w : Word) (s : State) : State :=
  s.aluWrite c (cRd w) { r := f (s.gReg c (cRa w)) (s.gReg c (cRb w)) }

def semMul : Nat → Word → State → State := semTwo (fun a b => a * b)
def semMulh : Nat → Word → State → State := semTwo (fun a b => wordI (a.toInt * b.toInt / 4294967296))
def semMulhu : Nat → Word → State → State := semTwo (fun a b => word (a.toNat * b.toNat / 4294967296))
def semShrr : Nat → Word → State → State := semTwo (fun a b => wordI (rne a.toInt (b.bits 4 0)))

/-- A division: DIVZ for a divisor of 0. -/
def semDiv (f : Word → Word → AluOut) (c : Nat) (w : Word) (s : State) : State :=
  let b := s.gReg c (cRb w)
  if b = 0#32 then s.trap c 8 0#32 else s.aluWrite c (cRd w) (f (s.gReg c (cRa w)) b)

/-- DIV of 0x8000_0000 by −1 gives 0x8000_0000 with V = 1. -/
def divOut (a b : Word) : AluOut :=
  if a = 0x80000000#32 ∧ b = 0xFFFFFFFF#32 then { r := a, v := true } else { r := wordI (Int.tdiv a.toInt b.toInt) }
def remOut (a b : Word) : AluOut :=
  if a = 0x80000000#32 ∧ b = 0xFFFFFFFF#32 then { r := 0#32 } else { r := wordI (Int.tmod a.toInt b.toInt) }
def divuOut (a b : Word) : AluOut := { r := word (a.toNat / b.toNat) }
def remuOut (a b : Word) : AluOut := { r := word (a.toNat % b.toNat) }

/-- LUI (Table CO-5). -/
def semLui (c : Nat) (w : Word) (s : State) : State := (s.setG c (cRd w) (word (w.bits 21 0 * 1024))).next c

/-! ## Loads and stores (R263, R271, R273, R278) -/

/-- Bytes of SZ. -/
def szBytes (sz : Nat) : Nat := 2 ^ sz

/-- The value of a byte, half or word load from a memory word. -/
def loadValue (w : Word) (a sz : Nat) (unsgn : Bool) : Word :=
  if sz = 0 then
    let v := w.bits (8 * (a % 4) + 7) (8 * (a % 4))
    if unsgn then word v else wordI (sextN v 8)
  else if sz = 1 then
    let v := w.bits (8 * (a % 4) + 15) (8 * (a % 4))
    if unsgn then word v else wordI (sextN v 16)
  else w

/-- Sets a pointer after a P-format access. -/
def State.setPtr (s : State) (c : Nat) (u : Option (Nat × Word)) : State :=
  match u with
  | none => s
  | some (p, v) => let x := s.core c; s.setCore c { x with p := x.p.set p v 0#32 }

/-- Stores of core `c` to cluster memory still in its store buffer, in the 64-bit word of address `n`. -/
def State.pendingAt (s : State) (c n : Nat) : Bool :=
  (s.core c).bus.any (fun q => !q.load && decide (q.addr.toNat / 8 = n / 8))

/-- Whether core `c` has a store to cluster memory in its store buffer. -/
def State.pendingCl (s : State) (c : Nat) : Bool := (s.core c).bus.any (fun q => regionOf q.addr.toNat == .cl)

/-- Performs store `q` of core `c` to cluster memory; `false` when its word refuses a partial write. -/
def State.clStore (s : State) (c : Nat) (q : BusReq) : Bool × State :=
  let n := q.addr.toNat
  if q.size = 3 then (true, s.cWrite64 ((n - 0x100000) / 8) q.data q.data2)
  else s.cWrite c (n / 4 * 4) (q.data <<< (8 * (n % 4))) ((2 ^ szBytes q.size - 1) * 2 ^ (n % 4))

/-- A store of core `c` to address `a` has failed: WERR, and the address of the first failure (R271). -/
def State.storeFailed (s : State) (c : Nat) (a : Word) : State :=
  let s := s.setCore c { s.core c with syncErr := true }
  let s := if s.regB (Reg.cndStat c) 9 then s else s.setReg (Reg.cndWerraddr c) a
  s.orReg (Reg.cndStat c) 0x200

/-- Stores to cluster memory leave the head of the store buffer of core `c` at once, at most `n` of them (R269). -/
def State.bufDrain (s : State) (c : Nat) : Nat → State
  | 0 => s
  | n + 1 =>
    match (s.core c).bus.find? (fun q => !q.load) with
    | none => s
    | some q =>
      if regionOf q.addr.toNat ≠ .cl then s
      else
        let s := s.setCore c { s.core c with bus := (s.core c).bus.erase q }
        match s.clStore c q with
        | (true, s) => s.bufDrain c n
        | (false, s) => (s.storeFailed c q.addr).bufDrain c n

/-- A load of size `sz` from address `a` into rd; `u` is the pointer update that goes with it. A load from a cluster word
for which the store buffer still holds a store waits for it (log 43). -/
def State.loadC (s : State) (c rd sz : Nat) (unsgn : Bool) (a : Word) (u : Option (Nat × Word)) : State :=
  let n := a.toNat
  let r := regionOf n
  let rep := (s.core c).rpt.isSome
  if r = .bad || n % szBytes sz ≠ 0 || (rep && !(r = .x || r = .y)) then s.trap c 2 a
  else if r = .reg then
    let b := s.actBank c
    let s := s.setBank c b { s.bank c b with load := true }
    let x := s.core c
    s.setCore c { x with bus := x.bus ++ [{ bank := b, load := true, rd := rd, addr := a, data := 0#32, size := sz, ptr := u }] }
  else if r = .cl && s.pendingAt c n then s
  else
    let (v, s) := s.cRead c (n / 4 * 4)
    match v with
    | none => s.trap c 4 a
    | some v =>
      if sz = 3 then
        let (v2, s) := s.cRead c (n + 4)
        match v2 with
        | none => s.trap c 4 (a + 4#32)
        | some v2 => (((s.setG c rd v).setG c (rd + 1) v2).setPtr c u).next c
      else ((s.setG c rd (loadValue v n sz unsgn)).setPtr c u).next c

/-- A store of size `sz` from rd to address `a`. A store to register space or to cluster memory goes into the store
buffer, and stalls while it is full; a partial store to an uncorrectable cluster word is refused when it issues
(R269, R273) (log 43). -/
def State.storeC (s : State) (c rd sz : Nat) (a : Word) (u : Option (Nat × Word)) : State :=
  let n := a.toNat
  let r := regionOf n
  let x := s.core c
  let d := s.gReg c rd
  if r = .bad || n % szBytes sz ≠ 0 || (x.rpt.isSome && !(r = .x || r = .y)) then s.trap c 2 a
  else if r = .reg ∨ r = .cl then
    if 8 ≤ (x.bus.filter (fun q => !q.load)).length then s
    else
      let (v, s) := if r = .cl ∧ sz < 2 ∧ s.pendingAt c n = false then s.cRead c (n / 4 * 4) else (some 0#32, s)
      match v with
      | none => s.trap c 4 a
      | some _ =>
        let x := s.core c
        let q : BusReq := { bank := s.actBank c, load := false, rd := rd, addr := a, data := d, size := sz, ptr := none,
                            data2 := s.gReg c (rd + 1) }
        (((s.setCore c { x with bus := x.bus ++ [q] }).bufDrain c 8).setPtr c u).next c
  else if sz = 3 then
    let (ok, s) := s.cWrite c n d 15
    let (ok2, s) := s.cWrite c (n + 4) (s.gReg c (rd + 1)) 15
    if ok && ok2 then (s.setPtr c u).next c else s.trap c 4 a
  else
    let sh := n % 4
    let mask := (2 ^ szBytes sz - 1) * 2 ^ sh
    let (ok, s) := s.cWrite c (n / 4 * 4) (d <<< (8 * sh)) (if sz = 2 then 15 else mask)
    if ok then (s.setPtr c u).next c else s.trap c 4 a

/-- Address of an I-format load or store. -/
def State.effAddr (s : State) (c : Nat) (w : Word) : Word := s.gReg c (cRa w) + immS w

def semLoad (sz : Nat) (unsgn : Bool) (c : Nat) (w : Word) (s : State) : State :=
  s.loadC c (cRd w) sz unsgn (s.effAddr c w) none
def semStore (sz : Nat) (c : Nat) (w : Word) (s : State) : State := s.storeC c (cRd w) sz (s.effAddr c w) none

/-! ## Addressing (R274) -/

/-- Smallest `k` with `2^k ≥ l`. -/
def ceilLog2 (l : Nat) : Nat := if l ≤ 1 then 0 else Nat.log2 (l - 1) + 1

/-- The circular advance of R274. -/
def advance (p m l : Word) : Word :=
  if l = 0#32 then p + m
  else
    let k := 2 ^ ceilLog2 l.toNat
    let base := p.toNat / k * k
    word (base + ((((p.toNat - base : Nat) : Int) + m.toInt) % (l.toNat : Int)).toNat)

/-- Address and pointer update of a P-format access. -/
def Core.pAccess (x : Core) (am p m : Nat) : Word × Option (Nat × Word) :=
  let pv := x.p.get p 0#32
  let mv := x.m.get m 0#32
  if am = 0 then (pv, none)
  else if am = 1 then (pv, some (p, pv + mv))
  else if am = 2 then (pv, some (p, advance pv mv (x.l.get m 0#32)))
  else (pv + mv, none)

/-- The pointer load or store of format P. -/
def semPointer (c : Nat) (w : Word) (s : State) : State :=
  s.withExt c (fun s =>
    let (a, u) := (s.core c).pAccess (w.bits 15 14) (w.bits 21 19) (w.bits 13 11)
    let sz := w.bits 17 16
    if w.bit 18 then s.storeC c (cRd w) sz a u else s.loadC c (cRd w) sz (w.bit 10) a u)

/-! ## DSP (R275 to R277) -/

def Core.acc (x : Core) (i : Nat) : Int := if i = 0 then x.a0 else x.a1
def Core.setAcc (x : Core) (i : Nat) (v : Int) : Core := if i = 0 then { x with a0 := v } else { x with a1 := v }

/-- The sum of the products of halves (Table CO-8). -/
def halfSum (a b : Word) : Int :=
  sextN (a.bits 31 16) 16 * sextN (b.bits 31 16) 16 + sextN (a.bits 15 0) 16 * sextN (b.bits 15 0) 16

/-- Table CO-8: the exact result of a DSP operation; none leaves the accumulator. -/
def dspResult (op : COp) (a : Int) (s1 s2 : Word) : Option Int :=
  match op with
  | .mac => some (a + s1.toInt * s2.toInt)
  | .msu => some (a - s1.toInt * s2.toInt)
  | .mpy => some (s1.toInt * s2.toInt)
  | .mac2 => some (a + halfSum s1 s2)
  | .msu2 => some (a - halfSum s1 s2)
  | .clr => some 0
  | .acca => some (a + s1.toInt)
  | _ => none

/-- A move of an X-format instruction, as its fields give it. -/
structure XMove where
  en    : Bool
  store : Bool
  reg   : Nat
  ptr   : Nat
  deriving DecidableEq, Repr

def xMoves (w : Word) : XMove × XMove :=
  ({ en := w.bit 12, store := w.bit 11, reg := 4 + w.bits 10 9, ptr := w.bits 8 7 },
   { en := w.bit 6, store := w.bit 5, reg := 8 + w.bits 4 3, ptr := 4 + w.bits 2 1 })

/-- Address of a move, with its pointer update. -/
def State.moveAddr (s : State) (c : Nat) (v : XMove) : Word × Option (Nat × Word) :=
  (s.core c).pAccess 2 v.ptr v.ptr

/-- Whether a move may be made: its address lies in its memory and is aligned. -/
def moveOk (r : Region) (a : Word) : Bool := regionOf a.toNat == r && a.toNat % 4 == 0

/-- Reads what a load move loads, or none with the value it would write. -/
def State.moveLoad (s : State) (c : Nat) (v : XMove) (a : Word) : Option (Option Word) × State :=
  if v.en && !v.store then
    let (r, s) := s.cRead c a.toNat
    match r with
    | none => (none, s)
    | some d => (some (some d), s)
  else (some none, s)

/-- An X-format instruction (R275). -/
def semX (op : COp) (c : Nat) (w : Word) (s : State) : State :=
  s.withExt c (fun s =>
    let (mx, my) := xMoves w
    let (ax, ux) := s.moveAddr c mx
    let (ay, uy) := s.moveAddr c my
    if mx.en && !moveOk .x ax then s.trap c 2 ax
    else if my.en && !moveOk .y ay then s.trap c 2 ay
    else
      let s1 := s.gReg c (w.bits 20 17)
      let s2 := s.gReg c (w.bits 16 13)
      let dx := s.gReg c mx.reg
      let dy := s.gReg c my.reg
      let (lx, s) := s.moveLoad c mx ax
      match lx with
      | none => s.trap c 4 ax
      | some lx =>
        let (ly, s) := s.moveLoad c my ay
        match ly with
        | none => s.trap c 4 ay
        | some ly =>
          let i := w.bits 21 21
          let s := match dspResult op ((s.core c).acc i) s1 s2 with
            | none => s
            | some r =>
              let s := if outRange 72 r then s.setCsr c (s.csr c ||| 0x10#32) else s
              s.setCore c ((s.core c).setAcc i (satInt 72 r))
          let s := if mx.en && mx.store then (s.cWrite c ax.toNat dx 15).2 else s
          let s := if my.en && my.store then (s.cWrite c ay.toNat dy 15).2 else s
          let s := if mx.en then s.setPtr c ux else s
          let s := if my.en then s.setPtr c uy else s
          let s := match lx with | some d => s.setG c mx.reg d | none => s
          let s := match ly with | some d => s.setG c my.reg d | none => s
          s.next c)

/-- EXTR (R277). -/
def semExtr (c : Nat) (w : Word) (s : State) : State :=
  s.withExt c (fun s =>
    let (r, sat) := extract ((s.core c).acc (w.bits 17 17)) (cE w) true
    let s := s.setG c (cRd w) r
    (if sat then s.setCsr c (s.csr c ||| 0x20#32) else s).next c)

/-- SCLA (R277). -/
def semScla (c : Nat) (w : Word) (s : State) : State :=
  s.withExt c (fun s =>
    let x := s.core c
    let i := w.bits 17 17
    (s.setCore c (x.setAcc i (rne (x.acc i) (cE w)))).next c)

/-- EXPB (R277). -/
def semExpb (c : Nat) (w : Word) (s : State) : State :=
  s.withExt c (fun s =>
    let x := s.core c
    (s.setCore c { x with head := Nat.min x.head (cls32 (s.gReg c (cRa w))) }).next c)

/-- BXC (R277). -/
def semBxc (c : Nat) (w : Word) (s : State) : State :=
  s.withExt c (fun s =>
    let x := s.core c
    let r := cE w - x.head
    ((s.setCore c { x with exp := Nat.min (x.exp + r) 255, head := 31 }).setG c (cRd w) (word r)).next c)

/-! ## Branches, RPT and traps (R267, R278, R282, R283) -/

/-- A COND code on sr. -/
def condC (k : Nat) (sr : Word) : Bool :=
  let z := sr.bit 0
  let n := sr.bit 1
  let cc := sr.bit 2
  let v := sr.bit 3
  match k with
  | 0 => z
  | 1 => !z
  | 2 => cc
  | 3 => !cc
  | 4 => n
  | 5 => !n
  | 6 => v
  | 7 => !v
  | 8 => cc && !z
  | 9 => !(cc && !z)
  | 10 => n == v
  | 11 => n != v
  | 12 => !z && n == v
  | 13 => !(!z && n == v)
  | _ => true

/-- The pc `n` instructions on. -/
def relPc (pc : Word) (n : Int) : Word := pc + wordI (4 * n)

def semB (c : Nat) (w : Word) (s : State) : State :=
  if condC (cRd w) (s.csr c) then s.setCpc c (relPc (s.cpc c) (sextN (w.bits 21 0) 22)) else s.next c

def semCall (c : Nat) (w : Word) (s : State) : State :=
  let pc := s.cpc c
  (s.setG c 14 (pc + 4#32)).setCpc c (relPc pc (sextN (w.bits 25 0) 26))

def semJalr (c : Nat) (w : Word) (s : State) : State :=
  let t := s.gReg c (cRa w)
  (s.setG c (cRd w) (s.cpc c + 4#32)).setCpc c t

def semJr (c : Nat) (w : Word) (s : State) : State := s.setCpc c (s.gReg c (cRa w))

/-- RPT (R278): the instructions after it each take one repetition. An instruction that cannot be repeated makes the RPT
ILLEGAL; a word that cannot be fetched traps at its own fetch (R263, R273). -/
def semRpt (c : Nat) (w : Word) (s : State) : State :=
  let n := if w.bit 12 then Nat.min ((s.gReg c (cRa w)).bits 12 0) 4096 else w.bits 11 0 + 1
  let ok := match s.peekC c (s.cpc c + 4#32) with
    | some v => (match decodeC v with | some o => repeatable o | none => false)
    | none => true
  if !ok then s.illegalC c w
  else if n = 0 then s.setCpc c (s.cpc c + 8#32)
  else
    let s := s.setCpc c (s.cpc c + 4#32)
    s.setCore c { s.core c with rpt := some n, rptWait := 0 }

def semTrap (c : Nat) (w : Word) (s : State) : State := s.trap c 9 (word (cImm w))

/-- BREAK (R283): a halt after it while DBGEN = 1, else a trap. -/
def semBreak (c : Nat) (_ : Word) (s : State) : State :=
  if s.regB (Reg.cndCtrl c) 1 then
    let s := s.next c
    s.setCore c { s.core c with brk := true }
  else s.trap c 0x0A 0#32

/-- RTT and RTTN (R283). -/
def semRtt (after : Bool) (c : Nat) (w : Word) (s : State) : State :=
  let x := s.core c
  if x.active ≠ some 0 then s.illegalC c w
  else
    let tc := s.reg (Reg.cndTcause c)
    let b := tc.bits 10 8
    let rrem := tc.bits 23 11
    let left := if after then rrem - 1 else rrem
    let tpc := s.reg (Reg.cndTpc c)
    let pc := if after && left = 0 then tpc + 4#32 else tpc
    let x := x.setBank 0 { x.bank 0 with state := 0 }
    let x := x.setBank b { x.bank b with state := 2, pc := pc }
    (s.setCore c { x with active := some b, rpt := if left = 0 then none else some left, rptWait := 0 }).bump
      (Reg.cndSwitch c) 1

/-! ## Special registers and banks (R266, R283) -/

/-- Numbers of the extended registers. -/
def extNum (n : Nat) : Bool := decide (7 ≤ n) && decide (n ≤ 37)

/-- The word of part `k` of an accumulator. -/
def accPart (a : Int) (k : Nat) : Word :=
  if k = 0 then wordI a else if k = 1 then wordI (a / 4294967296) else wordI (sextN (lowBits (a / 2 ^ 64) 8) 8)

/-- An accumulator with part `k` replaced. -/
def setAccPart (a : Int) (k : Nat) (v : Word) : Int :=
  let n := lowBits a 72
  let p0 := n % 2 ^ 32
  let p1 := n / 2 ^ 32 % 2 ^ 32
  let p2 := n / 2 ^ 64
  let m := if k = 0 then v.toNat + p1 * 2 ^ 32 + p2 * 2 ^ 64
    else if k = 1 then p0 + v.toNat * 2 ^ 32 + p2 * 2 ^ 64
    else p0 + p1 * 2 ^ 32 + v.bits 7 0 * 2 ^ 64
  sextN m 72

/-- The value of special register `n` (Table CO-3); none where its use raises ILLEGAL (log 25). -/
def State.special (s : State) (c n : Nat) : Option Word :=
  let x := s.core c
  let b := s.actBank c
  let k := x.bank b
  if n = 0 then some k.sr
  else if n = 1 then some k.slh
  else if n = 2 then some k.pc
  else if n = 3 then some (word (if b = 0 then 0x3FF else k.tid))
  else if n = 4 then some (word c)
  else if n = 5 then some (word s.kcyc)
  else if n = 6 then some x.cycHi
  else if n = 7 then some (word (x.head + x.exp * 256))
  else if n < 16 then some (x.p.get (n - 8) 0#32)
  else if n < 24 then some (x.m.get (n - 16) 0#32)
  else if n < 32 then some (x.l.get (n - 24) 0#32)
  else if n < 35 then some (accPart x.a0 (n - 32))
  else if n < 38 then some (accPart x.a1 (n - 35))
  else if b ≠ 0 then none
  else if n = 48 then some (s.reg (Reg.cndTcause c))
  else if n = 49 then some (s.reg (Reg.cndTpc c))
  else if n = 50 then some (word (s.regF (Reg.cndTcause c) 10 8))
  else if n = 51 then some (s.reg (Reg.cndTval c))
  else if n = 52 then some (word x.xown)
  else none

/-- Latches CNDc_CYC_HI (R266). -/
def State.latchCyc (s : State) (c : Nat) : State :=
  s.setCore c { s.core c with cycHi := word (s.kcyc / 4294967296) }

/-- MFS (R266). -/
def semMfs (c : Nat) (w : Word) (s : State) : State :=
  let n := w.bits 17 12
  let go (s : State) : State :=
    match s.special c n with
    | none => s.illegalC c w
    | some v => ((if n = 5 then s.latchCyc c else s).setG c (cRd w) v).next c
  if extNum n then s.withExt c go else go s

/-- Sets special register `n`; none where it may not be written. -/
def State.setSpecial (s : State) (c n : Nat) (v : Word) : Option State :=
  let x := s.core c
  let b := s.actBank c
  let k := x.bank b
  if n = 0 then some (s.setBank c b { k with sr := v &&& 0x3F#32 })
  else if n = 1 then some (s.setBank c b { k with slh := v })
  else if n = 7 then some (s.setCore c { x with head := v.bits 4 0, exp := v.bits 15 8 })
  else if 8 ≤ n ∧ n < 16 then some (s.setCore c { x with p := x.p.set (n - 8) v 0#32 })
  else if 16 ≤ n ∧ n < 24 then some (s.setCore c { x with m := x.m.set (n - 16) v 0#32 })
  else if 24 ≤ n ∧ n < 32 then some (s.setCore c { x with l := x.l.set (n - 24) v 0#32 })
  else if 32 ≤ n ∧ n < 35 then some (s.setCore c { x with a0 := setAccPart x.a0 (n - 32) v })
  else if 35 ≤ n ∧ n < 38 then some (s.setCore c { x with a1 := setAccPart x.a1 (n - 35) v })
  else none

/-- MTS (R265, R266). -/
def semMts (c : Nat) (w : Word) (s : State) : State :=
  let n := w.bits 17 12
  let go (s : State) : State :=
    match s.setSpecial c n (s.gReg c (cRa w)) with
    | none => s.illegalC c w
    | some s => s.next c
  if extNum n then s.withExt c go else go s

/-- Register `n` of a bank (R283). -/
def Bank.reg (k : Bank) (n : Nat) : Option Word :=
  if n < 16 then some (k.g.get n 0#32)
  else if n = 16 then some k.pc
  else if n = 17 then some k.sr
  else if n = 18 then some k.slh
  else none

def Bank.setReg (k : Bank) (n : Nat) (v : Word) : Option Bank :=
  if n < 16 then some { k with g := k.g.set n v 0#32 }
  else if n = 16 then some { k with pc := v }
  else if n = 17 then some { k with sr := v &&& 0x3F#32 }
  else if n = 18 then some { k with slh := v }
  else none

def semBkrd (c : Nat) (w : Word) (s : State) : State :=
  if (s.core c).active ≠ some 0 then s.illegalC c w
  else
    match (s.bank c (w.bits 11 9)).reg (w.bits 17 12) with
    | none => s.illegalC c w
    | some v => (s.setG c (cRd w) v).next c

def semBkwr (c : Nat) (w : Word) (s : State) : State :=
  if (s.core c).active ≠ some 0 then s.illegalC c w
  else
    let k := w.bits 11 9
    let n := w.bits 17 12
    match (s.bank c k).setReg n (s.gReg c (cRa w)) with
    | none => s.illegalC c w
    | some x =>
      let s := s.setBank c k x
      if k = 0 && n = 16 then s else s.next c

/-! ## Save lists, tokens and ordering (R271, R272, R285) -/

def semSave (low : Bool) (c : Nat) (_ : Word) (s : State) : State :=
  let b := s.actBank c
  if s.pendingCl c then s
  else match s.saveNode c b low (s.cpc c + 4#32) with
  | (.trap k v, s) => s.trap c k v
  | (.done n, s) => (s.setBank c b { s.bank c b with slh := n }).next c

/-- RESTL, RESTLJ (`jump`) and RESTU; they wait for the core's own stores to cluster memory (log 43). -/
def semRest (low jump : Bool) (c : Nat) (_ : Word) (s : State) : State :=
  let b := s.actBank c
  if s.pendingCl c then s
  else match s.restNode c b low jump with
  | (.trap k v, _, s) => s.trap c k v
  | (.done n, ws, s) =>
    let s := s.setBank c b ((s.bank c b).restored low n ws)
    if jump then s.setCpc c (ws.getD 10 0#32) else s.next c

/-- The token FIFO of core `c` sends what the credits of its channel allow (R269, R272). -/
def State.postDrain (s : State) (c : Nat) : State :=
  match (s.core c).posts with
  | [] => s
  | k :: r =>
    if s.maySend (6 + c) then (s.setCore c { s.core c with posts := r }).sendToken (6 + c) k else s

def semPost (c : Nat) (w : Word) (s : State) : State :=
  let x := s.core c
  if 4 ≤ x.posts.length then s
  else
    let a := s.gReg c (cRa w)
    let k : Token := { tid := a.bits 9 0, slot := a.bits 11 10, val := s.gReg c (cRd w) }
    ((s.setCore c { x with posts := x.posts ++ [k] }).postDrain c).next c

/-- SYNC (R269, R271): waits for the store buffer, then raises BUSERR after a failed store. -/
def semSync (c : Nat) (_ : Word) (s : State) : State :=
  let x := s.core c
  if x.bus.any (fun q => !q.load) then s
  else if x.syncErr then (s.setCore c { x with syncErr := false }).trap c 3 (s.reg (Reg.cndWerraddr c))
  else s.next c

def semNop (c : Nat) (_ : Word) (s : State) : State := s.next c

/-! ## The effect of every instruction but DONE -/

/-- The effect of an instruction word on core `c`; DONE, which the Dispatcher takes part in, is `fin`. -/
def semOf (fin : Nat → Word → State → State) : COp → Nat → Word → State → State
  | .nop => semNop
  | .done => fin
  | .post => semPost
  | .sync => semSync
  | .rtt => semRtt false
  | .rttn => semRtt true
  | .mfs => semMfs
  | .mts => semMts
  | .bkrd => semBkrd
  | .bkwr => semBkwr
  | .savel => semSave true
  | .saveu => semSave false
  | .restl => semRest true false
  | .restlj => semRest true true
  | .restu => semRest false false
  | .add => semAlu 0x01
  | .addc => semAlu 0x02
  | .sub => semAlu 0x03
  | .subc => semAlu 0x04
  | .adds => semAlu 0x05
  | .subs => semAlu 0x06
  | .and => semAlu 0x07
  | .or => semAlu 0x08
  | .xor => semAlu 0x09
  | .andn => semAlu 0x0A
  | .shl => semAlu 0x0B
  | .shr => semAlu 0x0C
  | .sar => semAlu 0x0D
  | .rol => semAlu 0x0E
  | .shrr => semShrr
  | .min => semAlu 0x0F
  | .max => semAlu 0x10
  | .minu => semAlu 0x11
  | .maxu => semAlu 0x12
  | .slt => semAlu 0x14
  | .sltu => semAlu 0x15
  | .seq => semAlu 0x16
  | .clz => semAlu 0x19
  | .cls => semAlu 0x1A
  | .popc => semAlu 0x1B
  | .mul => semMul
  | .mulh => semMulh
  | .mulhu => semMulhu
  | .div => semDiv divOut
  | .divu => semDiv divuOut
  | .rem => semDiv remOut
  | .remu => semDiv remuOut
  | .addi => semImm 0x01 immS
  | .andi => semImm 0x07 immU
  | .ori => semImm 0x08 immU
  | .xori => semImm 0x09 immU
  | .slti => semImm 0x14 immS
  | .sltiu => semImm 0x15 immU
  | .shli => semImm 0x0B imm5
  | .shri => semImm 0x0C imm5
  | .sari => semImm 0x0D imm5
  | .lui => semLui
  | .ldb => semLoad 0 false
  | .ldbu => semLoad 0 true
  | .ldh => semLoad 1 false
  | .ldhu => semLoad 1 true
  | .ldw => semLoad 2 false
  | .ldd => semLoad 3 false
  | .stb => semStore 0
  | .sth => semStore 1
  | .stw => semStore 2
  | .std => semStore 3
  | .b => semB
  | .call => semCall
  | .jalr => semJalr
  | .jr => semJr
  | .rpt => semRpt
  | .trap => semTrap
  | .break => semBreak
  | .pointer => semPointer
  | .extr => semExtr
  | .expb => semExpb
  | .bxc => semBxc
  | .scla => semScla
  | .none => semX .none
  | .mac => semX .mac
  | .msu => semX .msu
  | .mpy => semX .mpy
  | .mac2 => semX .mac2
  | .msu2 => semX .msu2
  | .clr => semX .clr
  | .acca => semX .acca

/-- Meaning of ILLEGAL (R267): the fetched word is no instruction. -/
def illegal (c : Nat) (s : State) : State :=
  if !s.canIssue c || s.coreHalted c then s
  else
    match s.peekC c (s.cpc c) with
    | none => s
    | some w => if (decodeC w).isNone then (s.fetched c).illegalC c w else s

/-- The trap of a fetch that fails (R263, R273); the state as it is when the fetch succeeds. -/
def State.fetchTrap (s : State) (c : Nat) : State :=
  let pc := s.cpc c
  if !pcOk pc then s.trap c 2 pc
  else
    match (s.core c).imem.get (pc.toNat / 4) {} with
    | { data := _, ecc := .uncorrectable } => (s.fetched c).trap c 4 pc
    | { data := _, ecc := .open_ _ } => (s.fetched c).trap c 4 pc
    | { data := _, ecc := .poison } => s.trap c 4 pc
    | _ => s

/-- Meaning of FETCH_ADDR (R263, R273). -/
def fetchAddr (c : Nat) (s : State) : State := if s.canIssue c && !s.coreHalted c then s.fetchTrap c else s

/-- Meaning of STEP (R288): a halted core executes one instruction. -/
def stepCore (fin : Nat → Word → State → State) (c : Nat) (s : State) : State :=
  if s.canIssue c && s.coreHalted c then
    match s.peekC c (s.cpc c) with
    | none => s.fetchTrap c
    | some w =>
      match decodeC w with
      | some op => semOf fin op c w (s.fetched c)
      | none => (s.fetched c).illegalC c w
  else s

/-- A write of CNDc_CTRL.HALT (R288); 0 also ends a halt by BREAK. -/
def coreHalt (c : Nat) (on : Bool) (s : State) : State :=
  let s := s.setRegF (Reg.cndCtrl c) 2 2 (if on then 1 else 0)
  if on then s else s.setCore c { s.core c with brk := false }

/-- Meaning of CRST (R284). -/
def crst (c : Nat) (s : State) : State :=
  let x := s.core c
  let y : Core := { imem := x.imem, xmem := x.xmem, ymem := x.ymem, held := x.held, bus := x.bus.filter (fun q => !q.load),
                    posts := x.posts, syncErr := x.syncErr, cycHi := x.cycHi }
  s.setCore c y

end Sys2Proof.Machine
end

