-- ==== Sys2Proof/Machine/Easel.lean ====
section
/-! DEFINITION. Sys2Proof/Machine/Easel.lean: axes, timing-pin inputs and the interpolator (02_easel_axes.md, R37 to R65, R422). -/
namespace Sys2Proof.Machine

/-- SRC of AXn_CFG (Table EA-8). -/
def axSrc (cfg : Word) : Nat := cfg.bits 3 1
def axEn (cfg : Word) : Bool := cfg.bit 0

/-- The stall limit 2^STALL, values below 10 acting as 10 (R48). -/
def stallLimit (cfg : Word) : Nat := 2 ^ Nat.max (cfg.bits 28 24) 10

/-- A count reduced on an axis of modulus `m`, or wrapped to 48 bits on a linear axis (R57). -/
def reduceCount (m : Nat) (c : Int) : Int := if m = 0 then sextN (lowBits c 48) 48 else c % (m : Int)

/-- A position reduced to `[0, M·2^16)`, or to 64 bits on a linear axis (R57, R422). -/
def reducePos (m : Nat) (p : Int) : Pos := BitVec.ofInt 64 (if m = 0 then p else p % ((m * 65536 : Nat) : Int))

/-- Step 5 of Table EA-6: the position of an axis under source `src` (R48, R57, R59, R61). -/
def formPos (src : Nat) (interp : Bool) (m : Nat) (x : Axis) : Pos :=
  if src = 4 then reducePos m (x.acc / 4294967296)
  else if src = 5 then reducePos m (x.racc / 4294967296)
  else
    let g := if interp then x.a / 4294967296 else 0
    reducePos m (x.c * 65536 + (if x.neg then -(g : Int) else (g : Int)))

/-- The position of axis `n` (steps 1 to 5 of Table EA-6). -/
def State.axPos (s : State) (n : Nat) : Pos :=
  let cfg := s.reg (Reg.axCfg n)
  formPos (axSrc cfg) (cfg.bit 9) (s.reg (Reg.axMod n)).toNat (s.axis n)

/-- R54: the axis placed at position `p` (already reduced), with INC, e and d kept. -/
def placeAt (src m : Nat) (p : Pos) (x : Axis) : Axis :=
  if src = 4 then { x with acc := (if m = 0 then p.toInt else (p.toNat : Int)) * 4294967296 }
  else if src = 5 then { x with racc := (if m = 0 then p.toInt else (p.toNat : Int)) * 4294967296 }
  else
    let c := if m = 0 then p.toInt / 65536 else ((p.toNat / 65536 : Nat) : Int)
    let f := p.toNat % 65536
    if x.neg && f != 0 then { x with c := reduceCount m (c + 1), a := (65536 - f) * 4294967296 }
    else { x with c := reduceCount m c, a := f * 4294967296 }

/-- R58: `p` at or above `e` on an axis of modulus `m`. -/
def atOrAbove (m : Nat) (p e : Pos) : Bool :=
  if m = 0 then decide ((p - e).toNat < 2 ^ 63)
  else decide ((p.toInt - e.toInt) % ((m * 65536 : Nat) : Int) < ((m * 32768 : Nat) : Int))

/-- R58: `p` at or below `e`. -/
def atOrBelow (m : Nat) (p e : Pos) : Bool := atOrAbove m e p

/-- Magnitude of the half-range difference between two positions (R55, R58, R75). -/
def halfDiff (m : Nat) (p q : Pos) : Nat :=
  if m = 0 then Nat.min (p - q).toNat (q - p).toNat
  else
    let r : Int := ((m * 65536 : Nat) : Int)
    Nat.min ((p.toInt - q.toInt) % r).toNat ((q.toInt - p.toInt) % r).toNat

/-! ## Schedule compares (R68) -/

/-- Position of an entry (Table ES-1). -/
def Entry.pos (e : Entry) : Pos := BitVec.append e.w1 e.w0
def Entry.axis (e : Entry) : Nat := e.w2.bits 3 0
def Entry.act (e : Entry) : Nat := e.w2.bits 6 4
def Entry.armed (e : Entry) : Bool := e.w2.bit 7
def Entry.dir (e : Entry) : Nat := e.w2.bits 9 8
def Entry.miss (e : Entry) : Bool := e.w2.bit 10
def Entry.rsel (e : Entry) : Nat := e.w2.bits 17 12
def Entry.rcnt (e : Entry) : Nat := e.w2.bits 31 18

/-- One evaluation of R68 at position `p`: the entry with its new crossing state, whether it is hit, and whether the
hit is late, given the jump flag of its axis. -/
def evalEntry (m : Nat) (p : Pos) (jump : Bool) (e : Entry) : Entry × Bool × Bool :=
  let up := atOrAbove m p e.pos
  let dn := atOrBelow m p e.pos
  let wup := e.dir != 1
  let wdn := e.dir == 1 || e.dir == 2
  let e' := { e with fresh := false, qup := up, qdn := dn }
  if e.fresh then
    let hit := e.dir != 2 && ((wup && up) || (wdn && dn))
    (e', hit, hit)
  else
    let hit := (wup && up && !e.qup) || (wdn && dn && !e.qdn)
    (e', hit, hit && jump)

/-- At the end of an EKL cycle of axis `n` the compares have seen its position: every armed entry of the axis that is
not hit takes its new crossing state; an entry that is hit waits for its ENTRY_CROSSING command (log 3). -/
def State.closeEntries (s : State) (n : Nat) : State :=
  if s.regB Reg.easCtrl 0 && s.released then
    let m := (s.reg (Reg.axMod n)).toNat
    let p := s.axPos n
    let j := (s.axis n).jump
    let upd (ie : Nat × Entry) : Nat × Entry :=
      let e := ie.2
      if e.armed && e.axis == n && decide (e.notBefore ≤ s.cyc) then
        let r := evalEntry m p j e
        if r.2.1 then ie else (ie.1, r.1)
      else ie
    { s with eas.entries := s.eas.entries.map upd, eas.staged := [] }
  else s

/-- AXn_VEL of a local axis: d × INC / 2^18, rounded toward zero (R51). -/
def Axis.velocity (x : Axis) : Int :=
  let v : Int := ((x.inc / 2 ^ 18 : Nat) : Int)
  if x.neg then -v else v

/-- Step 1 of Table EA-6 begins a new EKL cycle of axis `n`, unless one is open: the compares of the cycle before are
closed and its position is kept for R75; AXn_VEL takes the velocity of an edge in the cycle before (R51) (log 3). -/
def State.openCycle (s : State) (n : Nat) : State :=
  let x := s.axis n
  if x.opened then s
  else
    let p := s.axPos n
    let s := s.closeEntries n
    let s := if x.velDue then s.setReg (Reg.axVel n) (wordI x.velocity) else s
    s.setAxis n { x with opened := true, prev := p, edge := false, jump := false, wraps := 0, velDue := false }

/-- A change of position that is no counting edge or time step: sets JUMP (R55). -/
def State.jumped (s : State) (n : Nat) : State :=
  (s.setAxis n { s.axis n with jump := true }).orReg (Reg.axStat n) 0x40

/-- Adds wraps of the present cycle to AXn_REV, modulo 2^32 (R57). -/
def State.addRev (s : State) (n : Nat) (k : Int) : State :=
  let x := s.axis n
  (s.setReg (Reg.axRev n) (wordI ((s.reg (Reg.axRev n)).toNat + k))).setAxis n { x with wraps := x.wraps + k }

/-- A load discards the wraps of its cycle: step 4 of Table EA-6 reduces the loaded value, which AXn_REV does not count
(R56, R57). -/
def State.noWraps (s : State) (n : Nat) : State := s.addRev n (-(s.axis n).wraps)

/-- Whether a local axis is MOVING (R50). -/
def localMoving (cfg : Word) (x : Axis) : Bool := axEn cfg && decide (x.e < stallLimit cfg)

/-- R48: a counting edge of sign `s` (true for −1). AXn_VEL follows in the next cycle (R51). INC of an edge with e below 2
is 2^48, one above its 48 bits, and a count that a write of AXn_MOD on the disabled axis has left outside [0, M − 1] is
reduced here, with its wraps in AXn_REV (logs 12, 65). -/
def State.countEdge (st : State) (n : Nat) (neg : Bool) : State :=
  let st := st.openCycle n
  let cfg := st.reg (Reg.axCfg n)
  let m := (st.reg (Reg.axMod n)).toNat
  let x := st.axis n
  let ok := x.known && (neg == x.neg) && decide (x.e < stallLimit cfg)
  let inc := if ok then 2 ^ 48 / Nat.max x.e 1 else 0
  let c1 := x.c + (if neg then -1 else 1)
  let wraps : Int := if m = 0 then 0 else c1 / (m : Int)
  let period := if axSrc cfg = 3 && ok then some x.e else x.period
  let st := st.setReg (Reg.axIntv n) (word x.e)
  let st := st.addRev n wraps
  st.setAxis n { st.axis n with c := reduceCount m c1, neg := neg, a := 0, inc := inc, e := 0, known := true,
                                period := period, edge := true, velDue := true }

/-- Adds one to AXn_ERR.ERRCNT, saturating. -/
def State.axErrUp (s : State) (n : Nat) : State := s.bumpF (Reg.axErr n) 15 0 1

/-- R44: a transition in which A and B both change; one report for the axis in an epoch. INC is 0 before the steps of R48
for the same cycle add it (log 65). -/
def State.illegalQuad (s : State) (n : Nat) : State :=
  let s := (s.orReg (Reg.axStat n) 0x20).axErrUp n
  let s := s.setAxis n { s.axis n with known := false, inc := 0 }
  s.reportOnce (0x0A + 256 * (n + 1), 0x1100, s.did) 0x0A 0x1100 s.did

/-- The value an index load takes (R52, R57). -/
def State.idxValue (s : State) (n : Nat) : Int :=
  reduceCount (s.reg (Reg.axMod n)).toNat (s.reg (Reg.axIdxv n)).toInt

/-- Step 1 of Table EA-6 for an axis without a counting edge or beacon in the cycle (R48, R50, R51, R59, R61) (log 12). At
the stall limit the steps of R48 go on, and the fraction with them, to its top (log 65). -/
def State.axAdvance (s : State) (n : Nat) : State :=
  let cfg := s.reg (Reg.axCfg n)
  let src := axSrc cfg
  let m := (s.reg (Reg.axMod n)).toNat
  let x := s.axis n
  if !(axEn cfg && s.released) then s
  else if src ≤ 3 then
    let lim := stallLimit cfg
    let e := Nat.min (x.e + 1) lim
    let a := Nat.min (x.a + x.inc) (2 ^ 48 - 1)
    let stalled := decide (lim ≤ e)
    let s := s.setAxis n { x with e := e, a := a, period := if stalled then none else x.period }
    if stalled && decide (x.e < lim) then s.setReg (Reg.axVel n) 0#32 else s
  else if src = 4 then
    let tot := x.acc + x.step
    let r : Int := ((m * 2 ^ 48 : Nat) : Int)
    let s := if m = 0 then s else s.addRev n (tot / r)
    s.setAxis n { s.axis n with acc := if m = 0 then sextN (lowBits tot 96) 96 else tot % r }
  else if src = 5 && x.rmoving && !x.lost then
    let tot := x.racc + x.rvel
    let r : Int := ((m * 2 ^ 48 : Nat) : Int)
    let s := if m = 0 then s else s.addRev n (tot / r)
    s.setAxis n { s.axis n with racc := if m = 0 then sextN (lowBits tot 96) 96 else tot % r }
  else s

/-- R53: in step 2 of its cycle (an axis without a counting edge in the cycle has advanced in step 1) an index load sets
the count and A, keeps INC, e and d, and counts as a jump (R55). -/
def State.idxLoad (s : State) (n : Nat) : State :=
  let s := if (s.axis n).opened then s else (s.openCycle n).axAdvance n
  let s := s.noWraps n
  (s.setAxis n { s.axis n with c := s.idxValue n, a := 0 }).jumped n

/-- R52: a recognised index. ZDRIFT compares the whole count, not the 32 bits captured, with the value an index load takes
(log 65). -/
def State.index (s : State) (n : Nat) : State :=
  let cfg := s.reg (Reg.axCfg n)
  let c := (s.axis n).c
  let s := (s.setReg (Reg.axZcap n) (wordI c)).orReg (Reg.axStat n) 0x10
  if cfg.bits 11 10 = 3 then
    let s := if c ≠ s.idxValue n then s.orReg (Reg.axStat n) 0x80 else s
    s.idxLoad n
  else if cfg.bits 11 10 = 2 && (s.axis n).idxArmed then
    let s := s.idxLoad n
    s.setAxis n { s.axis n with idxArmed := false }
  else s

/-! ## Timing pins -/

/-- Filter length L of a FILT code (R40). -/
def filterLen (k : Nat) : Nat := if k = 0 then 0 else 2 ^ (Nat.min k 11 - 1)

/-- Level that an output pin drives: the active level is high unless OPOL = 1 (R74) (log 21). -/
def State.pinDrive (s : State) (n : Nat) : Bool := (s.pin n).active != s.regB (Reg.tpCfg n) 6

/-- The latched profile code of pin `i` (R413). -/
def State.safeCode (s : State) (i : Nat) : Nat := s.regF (Reg.pwrSafe (i / 10)) (3 * (i % 10) + 2) (3 * (i % 10))

/-- What the schedule gives the cell of output pin `n` to drive; none with OEMODE = 1 at the idle level (R74). -/
def State.pinWants (s : State) (n : Nat) : Option Bool :=
  if s.regB (Reg.tpCfg n) 7 && !(s.pin n).active then none else some (s.pinDrive n)

/-- The level that output pin `n` drives; none while its cell is high impedance: under a safe profile that does not drive
it (R78, R413), at the idle level with OEMODE = 1 (R74), or high with OD = 1 (R411). -/
def State.pinOut (s : State) (n : Nat) : Option Bool :=
  if s.regB Reg.easCtrl 1 then
    match s.safeCode n with
    | 3 => some false
    | 4 => some true
    | _ => none
  else
    match s.pinWants n with
    | some b => if b && s.regB (Reg.pwrIocfg n) 6 then none else some b
    | none => none

/-- Level of a timing pin as an input: after filter and INV (Table EA-3). -/
def State.pinIn (s : State) (n : Nat) : Bool := s.eas.level.getLsbD n != s.regB (Reg.tpCfg n) 1

/-- Level of a timing pin as the axes see it: after filter and INV, or the level that an output drives (R38); an output
that drives nothing is read as an input (log 21). -/
def State.pinLevel (s : State) (n : Nat) : Bool :=
  if s.regB (Reg.tpCfg n) 0 then (s.pinOut n).getD (s.pinIn n) else s.pinIn n

/-- Levels of A, B and Z of axis `n`, from AXn_PIN (Table EA-9). -/
def State.axLevels (s : State) (n : Nat) : Bool × Bool × Bool :=
  let p := s.reg (Reg.axPin n)
  (s.pinLevel (p.bits 5 0), s.pinLevel (p.bits 13 8), s.pinLevel (p.bits 21 16))

/-- An edge selected by EDGE: 0 and 3 rising, 1 falling, 2 both (R45, R46); a period axis reads 2 and 3 as 0 (R47). -/
def edgeSel (edge : Nat) (both : Bool) (old new : Bool) : Bool :=
  if edge = 1 then old && !new
  else if edge = 2 && both then old != new
  else !old && new

/-- The count of a quadrature transition with exactly one of A and B changed: some true for −1 (R43, Table EA-5). -/
def quadCount (qmul : Nat) (ca a b : Bool) : Option Bool :=
  let fwd := if ca then a != b else a == b
  if qmul = 1 then (if ca then some (!fwd) else none)
  else if qmul = 2 then (if ca && !b then some (!a) else none)
  else some (!fwd)

/-- The hold-off of a period axis (R47): an edge in this cycle comes e + 1 cycles after the one before (log 12). -/
def inHoldoff (cfg : Word) (x : Axis) : Bool :=
  match x.period with
  | some t => decide (x.e + 1 < cfg.bits 23 16 * t / 256)
  | none => false

/-- Steps 1 and 2 of Table EA-6 for one axis after a change of the timing pins (R43 to R47, R52). -/
def State.axInputs (s : State) (n : Nat) : State :=
  let cfg := s.reg (Reg.axCfg n)
  let src := axSrc cfg
  if !(axEn cfg && decide (src ≤ 3) && s.released) then s
  else
    let x := s.axis n
    let (a, b, z) := s.axLevels n
    let s := s.setAxis n { x with lvA := a, lvB := b, lvZ := z }
    let inv := cfg.bit 8
    let s :=
      if src = 0 then
        let ca := a != x.lvA
        let cb := b != x.lvB
        if ca && cb then s.illegalQuad n
        else if ca || cb then
          match quadCount (cfg.bits 5 4) ca a b with
          | some neg => s.countEdge n (neg != inv)
          | none => s
        else s
      else if src = 1 then
        if edgeSel (cfg.bits 7 6) true x.lvA a then s.countEdge n (b != inv) else s
      else if src = 2 then
        if edgeSel (cfg.bits 7 6) true x.lvA a then s.countEdge n inv else s
      else if edgeSel (cfg.bits 7 6) false x.lvA a then
        if inHoldoff cfg x then (s.orReg (Reg.axStat n) 0x100).axErrUp n else s.countEdge n false
      else s
    let qual := !cfg.bit 12 || (a == cfg.bit 14 && b == cfg.bit 13)
    if src = 0 && !x.lvZ && z && cfg.bits 11 10 != 0 && qual then s.index n else s

/-- The mask of the pins of `mask` whose filter accepts a level held for `run` EKL cycles (R40). -/
def State.acceptedPins (s : State) (mask : BitVec 64) (run : Nat) : List Nat :=
  (List.range 64).filter (fun n => mask.getLsbD n && decide (filterLen (s.regF (Reg.tpCfg n) 5 2) < run))

/-- Level `b` at bit `n`. -/
def setLevel (v : BitVec 64) (n : Nat) (b : Bool) : BitVec 64 :=
  let m : BitVec 64 := BitVec.ofNat 64 (2 ^ n)
  if b then v ||| m else v &&& ~~~ m

/-- Meaning of TIMING_PIN_EDGE (R40 to R52). -/
def timingPinEdge (mask lvl : BitVec 64) (run : Nat) (s : State) : State :=
  let acc := s.acceptedPins mask run
  let level := acc.foldl (fun v n => setLevel v n (lvl.getLsbD n)) s.eas.level
  let s := { s with eas.level := level }
  (List.range 16).foldl (fun s n => s.axInputs n) s

/-- Meaning of AXIS_STALL (R50): e reaches the stall limit, A having advanced for the cycles between; the period is
forgotten (R47) and AXn_VEL falls to 0 (R51). -/
def axisStall (n : Nat) (s : State) : State :=
  let cfg := s.reg (Reg.axCfg n)
  if axEn cfg && decide (axSrc cfg ≤ 3) && s.released then
    let x := s.axis n
    let lim := stallLimit cfg
    let a := Nat.min (x.a + (lim - x.e) * x.inc) (2 ^ 48 - 1)
    (s.setAxis n { x with e := lim, a := a, period := none, velDue := false }).setReg (Reg.axVel n) 0#32
  else s

/-- The operand of LOAD and ADD: AXn_SET. -/
def State.axSet (s : State) (n : Nat) : Pos := BitVec.append (s.reg (Reg.axSetHi n)) (s.reg (Reg.axSetLo n))

/-- AXn_CMD.LOAD (R54, R56, R57): position := SET, reduced; an edge of the cycle is discarded with its wraps, and AXn_REV
counts none of the load; a jump. -/
def axisLoad (n : Nat) (s : State) : State :=
  let src := axSrc (s.reg (Reg.axCfg n))
  let m := (s.reg (Reg.axMod n)).toNat
  let s := s.noWraps n
  (s.setAxis n (placeAt src m (reducePos m (s.axSet n).toInt) (s.axis n))).jumped n

/-- AXn_CMD.ADD (R54, R57): position := position + SET, the wraps added to AXn_REV; a jump. A time axis keeps its sub-fraction. -/
def axisAdd (n : Nat) (s : State) : State :=
  let src := axSrc (s.reg (Reg.axCfg n))
  let m := (s.reg (Reg.axMod n)).toNat
  let x := s.axis n
  let d := (s.axSet n).toInt
  if src = 4 then
    let tot := x.acc + d * 4294967296
    let r : Int := ((m * 2 ^ 48 : Nat) : Int)
    let s := if m = 0 then s else s.addRev n (tot / r)
    (s.setAxis n { s.axis n with acc := if m = 0 then sextN (lowBits tot 96) 96 else tot % r }).jumped n
  else
    let p := s.axPos n
    let r : Int := ((m * 65536 : Nat) : Int)
    let tot := (if m = 0 then p.toInt else (p.toNat : Int)) + d
    let s := if m = 0 then s else s.addRev n (tot / r)
    (s.setAxis n (placeAt src m (reducePos m tot) (s.axis n))).jumped n

/-- AXn_CMD.REV_CLR (R56, Table EA-10): the wraps of the present cycle are added after it, in step 4. -/
def revClr (n : Nat) (s : State) : State := s.setReg (Reg.axRev n) (wordI (s.axis n).wraps)

/-- AXn_CMD.ARM_IDX (R52). -/
def armIdx (n : Nat) (s : State) : State := s.setAxis n { s.axis n with idxArmed := true }

/-- A write of AXn_CMD performs its commands in the order of Table EA-6. -/
def axisCmdWrite (n : Nat) (d : Word) (s : State) : State :=
  let s := if d.bit 0 then axisLoad n s else s
  let s := if d.bit 1 then axisAdd n s else s
  let s := if d.bit 2 then revClr n s else s
  if d.bit 3 then armIdx n s else s

/-- The bits of AXn_CFG that a write ignores while EN = 1: SRC, QMUL, EDGE and DIR_INV (R39). -/
def axLocked : Word := 0x000001FE#32

/-- Meaning of AXIS_CFG_WRITE (R39, R38, R50, R51, R52, R62) (log 58). AXn_VEL of a disabled axis reads 0, that of a time
axis too (log 65). -/
def axisCfgWrite (n : Nat) (d : Word) (s : State) : State :=
  let a := Reg.axCfg n
  let old := s.reg a
  let m := (s.reg (Reg.axMod n)).toNat
  let p := s.axPos n
  let new := (d &&& 0x1FFF7FFF#32)
  let new := if axEn old then (new &&& ~~~ axLocked) ||| (old &&& axLocked) else new
  let s := s.setReg a new
  -- a change of source keeps the position (R39): the new source's accumulator takes it
  let kind (c : Word) : Nat := if axSrc c = 4 then 4 else if axSrc c = 5 then 5 else 0
  let s := if kind old = kind new then s else s.setAxis n (placeAt (axSrc new) m p (s.axis n))
  if !axEn old && axEn new then
    let x := s.axis n
    let (la, lb, lz) := s.axLevels n
    let x := { x with inc := 0, e := stallLimit new, known := false, period := none, idxArmed := true,
                      lvA := la, lvB := lb, lvZ := lz, rvel := 0, rmoving := false,
                      lost := axSrc new == 5 && !s.hasShaga, velDue := false }
    let v : Word := if axSrc new = 4 then word (x.step / 2 ^ 18) else 0#32
    (s.setAxis n x).setReg (Reg.axVel n) v
  else if axEn old && !axEn new then
    let x := s.axis n
    (s.setAxis n { x with lost := false, rmoving := false, velDue := false }).setReg (Reg.axVel n) 0#32
  else if axEn new && axSrc new ≤ 3 && localMoving old (s.axis n) && !localMoving new (s.axis n) then
    (s.setAxis n { s.axis n with velDue := false }).setReg (Reg.axVel n) 0#32
  else s

/-- `n / d` rounded half to even. -/
def roundHalfEven (n : Int) (d : Nat) : Int :=
  let q := n / (d : Int)
  let r := n - q * d
  if 2 * r > d ∨ (2 * r = d ∧ q % 2 ≠ 0) then q + 1 else q

/-- STEP of a time axis for a rate trim (R59). -/
def timeStep (rate : Word) : Nat :=
  let r := clampI (-256000000) 256000000 rate.toInt
  (225179981368524 + roundHalfEven (225179981368524 * r) 256000000000).toNat

/-- Meaning of AXIS_RATE_WRITE (R59) (log 22). -/
def axisRateWrite (n : Nat) (d : Word) (s : State) : State :=
  (s.setReg (Reg.axRate n) d).setAxis n { s.axis n with rateBusy := true }

/-- Meaning of RATE_APPLY (R59): the new STEP replaces the old one and RATE_BUSY clears (log 19, 22). -/
def rateApply (n : Nat) (s : State) : State :=
  let x := s.axis n
  if x.rateBusy then
    let st := timeStep (s.reg (Reg.axRate n))
    let s := s.setAxis n { x with rateBusy := false, step := st }
    let cfg := s.reg (Reg.axCfg n)
    if axEn cfg && axSrc cfg = 4 then s.setReg (Reg.axVel n) (word (st / 2 ^ 18)) else s
  else s

/-- Meaning of AXIS_POS_LO_READ (R63): the low half, with the high half latched. -/
def axisPosLoRead (n : Nat) (s : State) : State :=
  let p := s.axPos n
  (s.setAxis n { s.axis n with posHi := p.extractLsb' 32 32 }).ok (p.extractLsb' 0 32)

/-- Meaning of AXIS_LOST (R62): a remote axis whose beacons fail stops and is reported (log 15). -/
def axisLost (n : Nat) (s : State) : State :=
  let cfg := s.reg (Reg.axCfg n)
  let x := s.axis n
  if axEn cfg && axSrc cfg = 5 && !x.lost && s.released then
    let s := (s.setAxis n { x with lost := true, rmoving := false, rvel := 0 }).setReg (Reg.axVel n) 0#32
    let pin := s.reg (Reg.axPin n)
    s.reportAlways 0x0B 0x1100 (pin.bits 13 0)
  else s

/-- AXn_STAT as read: the derived bits of Table EA-11 over the sticky ones. -/
def State.axStatus (s : State) (n : Nat) : Word :=
  let cfg := s.reg (Reg.axCfg n)
  let x := s.axis n
  let src := axSrc cfg
  let lcl := src ≤ 3
  let moving := axEn cfg && (if lcl then decide (x.e < stallLimit cfg) else if src = 4 then true else
    (src == 5 && x.rmoving))
  let g := x.a / 4294967296
  (s.reg (Reg.axStat n)) ||| Word.flag x.neg 0 ||| Word.flag moving 1
    ||| Word.flag (lcl && cfg.bit 9 && g == 65535) 2 ||| Word.flag (lcl && x.inc != 0) 3
    ||| Word.flag x.lost 9 ||| Word.flag x.rateBusy 10

/-! ## One EKL cycle -/

/-- Whether the inputs of axis `n` present other levels than those its decoder has seen: a pin that the schedule drives
has changed, or a configuration of a pin (R38). -/
def State.inputsMoved (s : State) (n : Nat) : Bool :=
  let x := s.axis n
  s.axLevels n != (x.lvA, x.lvB, x.lvZ)

/-- One axis at the start of a new EKL cycle: an axis already opened by an edge or a beacon keeps it; any other takes the
changes of the levels it reads and advances, unless they hold a counting edge (log 3). -/
def State.axTick (s : State) (n : Nat) : State :=
  let s := if (s.axis n).opened || !s.inputsMoved n then s else s.axInputs n
  if (s.axis n).opened then s.setAxis n { s.axis n with opened := false }
  else
    let s := s.openCycle n
    let s := s.axAdvance n
    s.setAxis n { s.axis n with opened := false }

/-- Meaning of INTERPOLATOR (R48): one EKL cycle; the same-cycle accounts of R72 start afresh (log 3). -/
def interpolator (s : State) : State :=
  let s := (List.range 16).foldl (fun s n => s.axTick n) s
  { s with cyc := s.cyc + 1, eas.fired := [] }

end Sys2Proof.Machine
end

