-- ==== Sys2Proof/Machine/Operands.lean ====
section
/-! DEFINITION. Sys2Proof/Machine/Operands.lean: the fields of a context (Table CW-1 of 07_context_word.md) and the operand and sink forms of a tile
(Tables CT-4 to CT-6 of 04_canvas_tile.md). -/
namespace Sys2Proof.Machine

/-- A context: 512 bits (R143). -/
abbrev Ctx := BitVec 512

/-- Bits `[hi:lo]` of a context. -/
def Ctx.bits (c : Ctx) (hi lo : Nat) : Nat := bitsOf c.toNat hi lo
def Ctx.bit (c : Ctx) (i : Nat) : Bool := c.getLsbD i

def Ctx.cv (c : Ctx) : Bool := Ctx.bit c 0
def Ctx.flushOnEntry (c : Ctx) : Bool := Ctx.bit c 1
def Ctx.agReset (c : Ctx) : Bool := Ctx.bit c 2
def Ctx.accClear (c : Ctx) : Bool := Ctx.bit c 3
def Ctx.aluOp (c : Ctx) : Nat := Ctx.bits c 15 8
def Ctx.aluW (c : Ctx) : Nat := Ctx.bits c 20 16
def Ctx.keepC (c : Ctx) : Bool := Ctx.bit c 21
def Ctx.macMode (c : Ctx) : Nat := Ctx.bits c 25 24
def Ctx.accWrap (c : Ctx) : Bool := Ctx.bit c 26
def Ctx.rnd (c : Ctx) : Bool := Ctx.bit c 27
def Ctx.neg (c : Ctx) : Bool := Ctx.bit c 28
def Ctx.bxen (c : Ctx) : Bool := Ctx.bit c 29
def Ctx.bxuse (c : Ctx) : Bool := Ctx.bit c 30
def Ctx.bxclose (c : Ctx) : Bool := Ctx.bit c 31
def Ctx.macShift (c : Ctx) : Nat := Ctx.bits c 37 32
/-- The extraction shift: values above 32 act as 32 (R131). -/
def Ctx.shiftE (c : Ctx) : Nat := Nat.min (Ctx.macShift c) 32
def Ctx.opsel (c : Ctx) (k : Nat) : Nat := Ctx.bits c (49 + 10 * k) (40 + 10 * k)
def Ctx.osel (c : Ctx) (j : Nat) : Nat := Ctx.bits c (89 + 10 * j) (80 + 10 * j)
def Ctx.xdrv (c : Ctx) (j : Nat) : Nat := Ctx.bits c (163 + 4 * j) (160 + 4 * j)
def Ctx.mport (c : Ctx) (p : Nat) : Nat := Ctx.bits c (207 + 16 * p) (192 + 16 * p)
def Ctx.agcfg (c : Ctx) (k : Nat) : Nat := Ctx.bits c (255 + 32 * k) (224 + 32 * k)
def Ctx.k0 (c : Ctx) : Word := word (Ctx.bits c 383 352)
def Ctx.fireIn (c : Ctx) (i : Nat) : Bool := Ctx.bit c (384 + i)
def Ctx.fireOut (c : Ctx) (j : Nat) : Bool := Ctx.bit c (400 + j)
def Ctx.period (c : Ctx) : Nat := Ctx.bits c 413 408
def Ctx.clrAtEnd (c : Ctx) : Bool := Ctx.bit c 414
def Ctx.endOnLast (c : Ctx) : Bool := Ctx.bit c 415
def Ctx.trsel (c : Ctx) (k : Nat) : Nat := Ctx.bits c (423 + 8 * k) (416 + 8 * k)
def Ctx.absorb (c : Ctx) : Bool := Ctx.bits c 449 448 == 1
def Ctx.resync (c : Ctx) : Bool := Ctx.bit c 450
def Ctx.tokEn (c : Ctx) : Bool := Ctx.bit c 451
def Ctx.tokThread (c : Ctx) : Nat := Ctx.bits c 461 452
def Ctx.tokSlot (c : Ctx) : Nat := Ctx.bits c 463 462
def Ctx.tokCond (c : Ctx) : Nat := Ctx.bits c 466 464
def Ctx.tokOnMark (c : Ctx) : Bool := Ctx.bit c 467
def Ctx.tokSrc (c : Ctx) : Nat := Ctx.bits c 472 468
def Ctx.ovfTokEn (c : Ctx) : Bool := Ctx.bit c 473
def Ctx.lswEn (c : Ctx) : Bool := Ctx.bit c 480
def Ctx.lswSlot (c : Ctx) : Nat := Ctx.bits c 483 481
def Ctx.lswMatch (c : Ctx) : Nat := Ctx.bits c 485 484
def Ctx.lswCode (c : Ctx) : Nat := Ctx.bits c 495 488

/-- The bits of register word `w` of a context that are not reserved (R144). -/
def ctxMask (w : Nat) : Word :=
  match w with
  | 0 => 0xFF3FFF0F#32
  | 1 => 0xFFFFFF3F#32
  | 6 => 0x0FFF0FFF#32
  | 14 => 0x03FFFFFF#32
  | 15 => 0xFFFFFF3F#32
  | _ => 0xFFFFFFFF#32

/-- Memory port fields (04_canvas_tile.md, Tile memory): MODE 3 and ASEL 7 act as off. -/
structure MPort where
  mode  : Nat
  asel  : Nat
  adv   : Bool
  wsel  : Nat
  wcond : Nat
  deriving DecidableEq, Repr

def Ctx.port (c : Ctx) (p : Nat) : MPort :=
  let m := Ctx.mport c p
  let a := bitsOf m 4 2
  let md := bitsOf m 1 0
  { mode := if md = 3 ∨ a = 7 then 0 else md, asel := a, adv := Nat.testBit m 5, wsel := bitsOf m 8 6,
    wcond := bitsOf m 11 9 }

/-- A value in a firing: a word, whether it is poison, and, for a word passed through from an input, its tag. -/
structure Val where
  w : Word
  p : Bool := false
  tag : Option Nat := none
  deriving DecidableEq, Repr

/-- PART of an operand select (Table CT-5). -/
def partOf (k : Nat) (w : Word) : Word :=
  match k with
  | 1 => wordI (sextN (w.bits 15 0) 16)
  | 2 => wordI (sextN (w.bits 31 16) 16)
  | 3 => word (w.bits 15 0)
  | _ => w

/-- XFORM of an operand select (Table CT-5). -/
def xformOf (k : Nat) (w : Word) : Word :=
  match k with
  | 1 => ~~~w
  | 2 => 0#32 - w
  | 3 => if w = 0x80000000#32 then 0x7FFFFFFF#32 else if w.bit 31 then 0#32 - w else w
  | _ => w

/-- The modifiers of operand select `sel` applied to a source (R97). A word passed through with PART = XFORM = 0 keeps
its tag. -/
def operandMod (sel : Nat) (v : Val) : Val :=
  let part := bitsOf sel 6 5
  let xf := bitsOf sel 8 7
  { w := xformOf xf (partOf part v.w), p := v.p, tag := if part = 0 ∧ xf = 0 then v.tag else none }

/-- The LOC source of tile `t` (Table CT-4). -/
def locWord (t : Nat) : Word := word (t % 64 % 8 + (t / 64 % 8) * 256 + panelOf t * 65536)

/-- The FLAGS source (Table CT-4). -/
def flagsWord (z n c v ovf : Bool) : Word :=
  Word.flag z 0 ||| Word.flag n 1 ||| Word.flag c 2 ||| Word.flag v 3 ||| Word.flag ovf 4

/-- The tag of a computed word under a TAG field (R98). -/
def sinkTag (tagSel : Nat) (last consumedLast : Bool) (v : Val) : Nat :=
  if v.p then 3
  else match tagSel with
    | 1 => 0
    | 2 => 1
    | 3 => if last then 1 else 0
    | _ => match v.tag with
      | some k => k
      | none => if consumedLast then 1 else 0

/-- The channel word of a value. A tile creates poison with data bits zero; a passed word keeps its data. -/
def chWord (v : Val) (tag : Nat) : ChWord :=
  { data := if tag = 3 && v.tag != some 3 then 0#32 else v.w, tag := tag }

/-- The code byte test shared by MMATCH (R168) and LSW_MATCH (R149): 0 and 3 every marker, 1 equal, 2 unequal. -/
def codeMatch (k want got : Nat) : Bool := if k = 1 then got == want else if k = 2 then got != want else true

end Sys2Proof.Machine
end

