-- ==== Sys2Proof/Machine/Tile.lean ====
section
/-! DEFINITION. Sys2Proof/Machine/Tile.lean: channels, express lanes and the firing of a tile (04_canvas_tile.md, 05_canvas_routing.md,
06_mac_arithmetic.md). -/
namespace Sys2Proof.Machine

/-! ## Status bits and counters of a tile -/

/-- Sets sticky bits of TILE_STAT. -/
def State.tileStat (s : State) (t m : Nat) : State := s.orReg (Reg.tileStat t) m

/-- Adds to a counter that CNT_FREEZE holds (Table CT-12). -/
def State.tileCount (s : State) (t a n : Nat) : State :=
  if s.regB (Reg.tileCtrl t) 2 then s else s.bump a n

/-- Whether quadrant `q` is present and neither fenced nor powered down, as its neighbours see it: from FENCE_ACK on
(R121) (log 33). -/
def State.quadCut (s : State) (q : Nat) : Bool := !s.hasQuad q || s.regB Reg.nocFack q || !s.domOn q

/-- Whether words pass between tiles `t` and `u` (R121) (log 33). -/
def State.linked (s : State) (t u : Nat) : Bool :=
  s.hasQuad (quadOf u) && (quadOf t == quadOf u || (!s.quadCut (quadOf t) && !s.quadCut (quadOf u)))

/-- BORDER_DISCARD of the Panel of tile `t` while it is held; `none` while it runs (R338). -/
def State.heldOf (s : State) (t : Nat) : Option Bool := s.pal.heldP.get (panelOf t) none

/-! ## Neighbour channels (R120, R121, R127) -/

/-- What an output channel of a tile meets. -/
inductive Partner where
  | tile (u i : Nat)
  | edge (p : Nat)
  | table (p : Nat)
  | none
  deriving DecidableEq, Repr

/-- The partner of output `j` of tile `t` (Tables CT-2 and RT-5). -/
def outPartner (t j : Nat) : Partner :=
  let x := t % 64
  let y := t / 64
  let d := j % 4
  let pl := j / 4
  if d = 0 then
    if y < 63 then .tile (t + 64) (2 + 4 * pl)
    else if pl = 0 ∧ x % 2 = 0 then .table (32 + x / 2) else .none
  else if d = 1 then
    if x < 63 then .tile (t + 1) (3 + 4 * pl) else if pl = 0 then .edge (64 + y) else .none
  else if d = 2 then
    if 0 < y then .tile (t - 64) (4 * pl)
    else if pl = 0 ∧ x % 2 = 0 then .table (x / 2) else .none
  else
    if 0 < x then .tile (t - 1) (1 + 4 * pl) else if pl = 0 then .edge y else .none

/-- Words that hold places of input `i` of tile `u`: those waiting and those whose credit is withheld (R339). -/
def Tile.load (x : Tile) (i : Nat) : Nat := (x.inp.get i []).length + x.withheld.get i 0

/-- Credits of output `j` of tile `t`, 0 to 2 (R104, R121, R127, R338). -/
def State.outCredit (s : State) (t j : Nat) : Nat :=
  match outPartner t j with
  | .tile u i =>
    if !s.linked t u then 0
    else if s.heldOf u = some true && panelOf u != panelOf t then 2
    else 2 - (s.tile u).load i
  | .edge p => 2 - (s.can.edgeOut.get p []).length
  | .table p =>
    if s.hasTable && decide (((s.tbl.ports.get p {}).queue.filter (·.isResp)).length < 64) then
      2 - (s.can.tblOut.get p []).length
    else 0
  | .none => 0

/-- Puts a word at the tail of input `i` of tile `u`. -/
def State.pushIn (s : State) (u i : Nat) (w : ChWord) : State :=
  let x := s.tile u
  s.setTile u { x with inp := x.inp.set i (x.inp.get i [] ++ [w]) [] }

/-- A word that arrives at input `i` of tile `u` from outside its Panel: a held Panel with BORDER_DISCARD discards it
(R338). -/
def State.arrive (s : State) (u i : Nat) (w : ChWord) : State :=
  if s.heldOf u = some true then s.bump Reg.palPnlBdrop 1 else s.pushIn u i w

/-- Adds to what tile `t` shows on the probe lines in this cycle (R387). -/
def State.probeAdd (s : State) (t : Nat) (f : ProbeRec → ProbeRec) : State :=
  { s with can.probe := s.can.probe.set t (f (s.can.probe.get t {})) {} }

/-- Word `w` leaves output `n`, or express driver `n - 8`, of tile `t`. -/
def State.probeWord (s : State) (t n : Nat) (w : ChWord) : State := s.probeAdd t (fun r => { r with words := r.words ++ [(n, w)] })

/-- A normal firing (0), a marker firing (1), a stall (2) or an apply (3) of tile `t`. -/
def State.probeBit (s : State) (t k : Nat) : State := s.probeAdd t (fun r => { r with bits := r.bits ||| 2 ^ k })

/-- Sends a word on output `j` of tile `t`; the caller holds a credit. -/
def State.sendOut (s : State) (t j : Nat) (w : ChWord) : State :=
  let s := s.probeWord t j w
  match outPartner t j with
  | .tile u i => if panelOf u = panelOf t then s.pushIn u i w else s.arrive u i w
  | .edge p => { s with can.edgeOut := s.can.edgeOut.set p (s.can.edgeOut.get p [] ++ [w]) [] }
  | .table p => { s with can.tblOut := s.can.tblOut.set p (s.can.tblOut.get p [] ++ [w]) [] }
  | .none => s

/-- Whether tile `t` faces, in tile `u`, a quadrant that is absent, fenced or powered down (R121). -/
def State.facesCut (s : State) (t u : Nat) : Bool := !s.hasQuad (quadOf u) || (quadOf t != quadOf u && s.quadCut (quadOf u))

/-- The neighbour inputs that face quadrant `q` hold no word from FENCE_ACK on (R121) (log 33). -/
def State.cutInputs (s : State) (q : Nat) : State :=
  (s.can.tiles.map Prod.fst).foldl (fun s t =>
    if quadOf t = q then s
    else
      let x := s.tile t
      let inp := (List.range 8).foldl (fun m i =>
        match outPartner t i with
        | .tile u _ => if quadOf u = q then SMap.set m i [] [] else m
        | _ => m) x.inp
      s.setTile t { x with inp := inp }) s

/-- The head of input `i` of tile `t`. A neighbour input that faces a cut quadrant holds no word (R121). -/
def State.inHead (s : State) (t i : Nat) : Option ChWord :=
  if i < 8 then
    match outPartner t i with
    | .tile u _ => if s.facesCut t u then none else ((s.tile t).inp.get i []).head?
    | _ => ((s.tile t).inp.get i []).head?
  else ((s.tile t).inp.get i []).head?

/-! ## Express lanes (R122 to R126) -/

/-- The context a tile acts on: none while CV = 0 or after an uncorrectable apply (R156). -/
def Tile.live (x : Tile) : Ctx := if x.ctxUe || !Ctx.cv x.act then 0#512 else x.act

/-- Line of the segment of lane `j` through tile `t`: its row or column. -/
def segLine (t j : Nat) : Nat := if j < 4 then t / 64 else t % 64

/-- Panel position of the segment along its line. -/
def segPos (t j : Nat) : Nat := if j < 4 then t % 64 / 8 else t / 64 / 8

/-- Tile `i` of a segment, in ascending x or y. -/
def segTile (j line pos i : Nat) : Nat :=
  if j < 4 then line * 64 + pos * 8 + i else (pos * 8 + i) * 64 + line

/-- Local index of the entry tile of a lane (Table RT-2). -/
def entryIdx (j : Nat) : Nat := if j / 2 % 2 = 0 then 0 else 7

/-- Position of the downstream segment of a lane. -/
def nextPos (j pos : Nat) : Option Nat :=
  if j / 2 % 2 = 0 then (if pos < 7 then some (pos + 1) else none) else (if 0 < pos then some (pos - 1) else none)

/-- Position of the upstream segment of a lane. -/
def prevPos (j pos : Nat) : Option Nat :=
  if j / 2 % 2 = 0 then (if 0 < pos then some (pos - 1) else none) else (if pos < 7 then some (pos + 1) else none)

/-- Key of the joint at the downstream end of a segment. -/
def jointKey (j line pos : Nat) : Nat := (j * 64 + line) * 8 + pos

/-- Driver code of lane `j` in tile `t`: 0 in a held Panel, whose drivers are disabled (R338). -/
def State.drive (s : State) (t j : Nat) : Nat :=
  if (s.heldOf t).isSome then 0 else Ctx.xdrv (s.tile t).live j

/-- The driving tiles of a segment. -/
def State.drivers (s : State) (j line pos : Nat) : List Nat :=
  (List.range 8).filterMap (fun i =>
    let t := segTile j line pos i
    if s.drive t j != 0 then some t else none)

/-- Whether the contention detector holds a segment idle (R126). -/
def State.contended (s : State) (j line pos : Nat) : Bool := decide (2 ≤ (s.drivers j line pos).length)

/-- Whether the tap of lane `j` in tile `t` is enrolled (R123). -/
def State.tapEnrolled (s : State) (t j : Nat) : Bool := Ctx.fireIn (s.tile t).live (8 + j)

/-- The entry tile of the segment downstream of a joint, when there is one in a present quadrant. -/
def State.jointEntry (s : State) (j line pos : Nat) : Option Nat :=
  match nextPos j pos with
  | none => none
  | some np =>
    let e := segTile j line np (entryIdx j)
    if s.hasQuad (quadOf e) then some e else none

/-- The quadrant of the entry tile that the joint with key `k` feeds. -/
def jointQuad (k : Nat) : Option Nat :=
  (nextPos (k / 512) (k % 8)).map (fun np => quadOf (segTile (k / 512) (k / 8 % 64) np (entryIdx (k / 512))))

/-- Whether that joint leads from another quadrant into quadrant `q`. -/
def jointCrosses (q k : Nat) : Bool :=
  jointQuad k == some q && quadOf (segTile (k / 512) (k / 8 % 64) (k % 8) 0) != q

/-- Whether the joint at the end of a segment is enrolled (R124, R338). -/
def State.jointEnrolled (s : State) (j line pos : Nat) : Bool :=
  match s.jointEntry j line pos with
  | none => false
  | some e => s.can.heldJ.contains (jointKey j line pos) || s.drive e j == 1

/-- Whether the quadrant upstream of a joint is cut while the downstream one is another: the joint receives nothing. -/
def State.upstreamCut (s : State) (j line pos e : Nat) : Bool :=
  let u := segTile j line pos 0
  quadOf u != quadOf e && s.quadCut (quadOf u)

/-- Whether a driver on a segment holds credit (R123, R126). -/
def State.segCredit (s : State) (j line pos : Nat) : Bool :=
  !s.contended j line pos
    && (List.range 8).all (fun i =>
        let t := segTile j line pos i
        !s.tapEnrolled t j || decide ((s.tile t).load (8 + j) < 2))
    && (match s.jointEntry j line pos with
        | none => true
        | some e => !s.jointEnrolled j line pos || s.heldOf e == some true
            || decide ((s.can.joints.get (jointKey j line pos) []).length < 2))

/-- Drives a word onto a segment: every enrolled receiver takes it. -/
def State.driveSeg (s : State) (j line pos : Nat) (w : ChWord) : State :=
  let s := (List.range 8).foldl (fun s i =>
    let t := segTile j line pos i
    if s.tapEnrolled t j then s.pushIn t (8 + j) w else s) s
  match s.jointEntry j line pos with
  | none => s
  | some e =>
    if !s.jointEnrolled j line pos || s.upstreamCut j line pos e then s
    else if s.heldOf e = some true then s.bump Reg.palPnlBdrop 1
    else
      let k := jointKey j line pos
      { s with can.joints := s.can.joints.set k (s.can.joints.get k [] ++ [w]) [] }

/-- Driver `j` of tile `t` drives word `w` onto its segment (R123, R387). -/
def State.driveLane (s : State) (t j : Nat) (w : ChWord) : State :=
  (s.probeWord t (8 + j) w).driveSeg j (segLine t j) (segPos t j) w

/-- The contention detector of a segment in a CCLK cycle, of which `n` end here: CONT and TILE_XCONT of the tiles that
drive it, and one report, when the contention begins; a segment with at most one driver is released (R126) (log 23). -/
def State.contend (s : State) (n j line pos : Nat) : State :=
  let ds := s.drivers j line pos
  let k := jointKey j line pos
  if ds.length < 2 then { s with can.contd := s.can.contd.filter (· != k) }
  else
    let s := ds.foldl (fun s t => (s.orReg (Reg.tileXstat t) (2 ^ j)).tileCount t (Reg.tileXcont t) n) s
    if s.can.contd.contains k then s
    else { s with can.contd := s.can.contd ++ [k] }.report 0x06 (0x1000 + panelOf (segTile j line pos 0))

/-- The contention detectors of the eight lanes of tile `t`, within a cycle. -/
def State.contendLanes (s : State) (t : Nat) : State :=
  (List.range 8).foldl (fun s j => s.contend 0 j (segLine t j) (segPos t j)) s

/-- The end of a CCLK cycle at every contention detector (log 23). -/
def State.contendCycle (s : State) : State :=
  let ks := (s.can.tiles.map Prod.fst).flatMap (fun t => (List.range 8).filterMap (fun j =>
    if s.drive t j != 0 then some (jointKey j (segLine t j) (segPos t j)) else none))
  (ks ++ s.can.contd).eraseDups.foldl (fun s k => s.contend 1 (k / 512) (k / 8 % 64) (k % 8)) s

/-- JOINT_PASS (R124): the head of the joint into the segment of entry tile `t` on lane `j` is driven on. -/
def jointPass (t j : Nat) (s : State) : State :=
  let line := segLine t j
  let pos := segPos t j
  match prevPos j pos with
  | none => s
  | some pp =>
    let k := jointKey j line pp
    let u := segTile j line pp 0
    let crossing := quadOf u != quadOf t && s.quadCut (quadOf t)
    if s.released && segTile j line pos (entryIdx j) == t && s.drive t j == 1 && s.hasQuad (quadOf t)
        && s.domOn (quadOf t) && !crossing then
      match s.can.joints.get k [] with
      | [] => s
      | w :: r =>
        if s.segCredit j line pos then
          let s := { s with can.joints := s.can.joints.set k r [] }
          s.driveLane t j w
        else s
    else s

/-! ## Tile memory (R110 to R112) -/

/-- A port read of word `a` of tile `t` (R112). -/
def State.memRead (s : State) (t a : Nat) : Val × State :=
  let x := s.tile t
  let cell := x.mem.get a {}
  match cell.ecc with
  | .correctable =>
    if x.wback.contains a then ({ w := cell.data }, s)
    else
      let s := s.setTile t { x with wback := x.wback ++ [a] }
      let s := s.tileStat t 0x400
      let s := if s.regB (Reg.tileCtrl t) 2 then s else s.bumpF (Reg.tileCecnt t) 15 0 1
      ({ w := cell.data }, s.eccCorrected 0 (t * 1024 + a))
  | .uncorrectable =>
    let s := s.setTile t { x with mem := x.mem.set a { data := 0#32, ecc := .poison } {} }
    let s := (s.setReg (Reg.tileUeaddr t) (word (0x80000000 + a))).tileStat t 0x200
    ({ w := 0#32, p := true }, (s.eccUncorrectable 0).report 0x01 t)
  | .poison => ({ w := 0#32, p := true }, s)
  | _ => ({ w := cell.data }, s)

/-- A full write of word `a` of tile `t`; a write of poison stores the word as poison (R106, R112). -/
def State.memWrite (s : State) (t a : Nat) (v : Val) : State :=
  let x := s.tile t
  let cell : MCell := if v.p then { data := 0#32, ecc := .poison } else { data := v.w }
  s.setTile t { x with mem := x.mem.set a cell {}, wback := x.wback.filter (· != a) }

/-- Writes back the oldest corrected word (R111). -/
def writeBack (t : Nat) (s : State) : State :=
  let x := s.tile t
  match x.wback with
  | [] => s
  | a :: r => s.setTile t { x with mem := x.mem.set a { data := (x.mem.get a {}).data } {}, wback := r }

/-! ## Address generators (R113 to R115) -/

/-- A length field: 0 stands for 1,024. -/
def agLen (n : Nat) : Nat := if n = 0 then 1024 else n

/-- Applies the staged geometry. -/
def AGen.applyStaged (g : AGen) : AGen := if g.pend then { g with base := g.sbase, len := g.slen, pend := false } else g

/-- One advance (R113). -/
def AGen.advance (g : AGen) : AGen :=
  let s : Int := (g.ptr : Int) + g.off
  if s < 0 ∨ ((agLen g.len : Nat) : Int) ≤ s then
    let g := g.applyStaged
    { g with ptr := (s % ((agLen g.len : Nat) : Int)).toNat }
  else { g with ptr := s.toNat }

/-- Stages a configuration word in the layout of AGn_CFG: BASE and LEN are staged, OFF acts at once (R115). -/
def AGen.stage (g : AGen) (d : Nat) : AGen :=
  let b := bitsOf d 9 0
  let l := bitsOf d 19 10
  { g with sbase := b, slen := l, off := sextN (bitsOf d 30 20) 11, pend := b != g.base || l != g.len }

/-- Applies any pending geometry and sets P to 0 (AG_RESET_ON_ENTRY, AGn_STG.APPLY). -/
def AGen.reset (g : AGen) : AGen := { g.applyStaged with ptr := 0 }

/-- AGn_CFG as read: the live value. -/
def AGen.cfg (g : AGen) : Word := word (g.base + g.len * 1024 + lowBits g.off 11 * 1048576)

/-- AGn_STG as read. -/
def AGen.stg (g : AGen) : Word := word (g.sbase + g.slen * 1024 + (if g.pend then 1048576 else 0))

def Tile.gen (x : Tile) (k : Nat) : AGen := x.ag.get k {}
def Tile.setGen (x : Tile) (k : Nat) (g : AGen) : Tile := { x with ag := x.ag.set k g {} }
def Tile.treg (x : Tile) (k : Nat) : TReg := x.t.get k {}

/-! ## Panel block exponent (R139, R140) -/

/-- A contribution of headroom `h` folded in (R139). -/
def Pbx.fold (b : Pbx) (h : Nat) : Pbx := { b with live := Nat.min b.live h, any := true }

/-- A close (R140). -/
def Pbx.close (b : Pbx) : Pbx :=
  let sh := b.target - b.live
  { b with held := b.live, none_ := !b.any, live := 31, shift := sh, exp := Nat.min (b.exp + sh) 255, any := false }

/-- What acts at the end of one cycle: the fold, then the close, then a register write (R140). -/
def Pbx.act (b : Pbx) (e : PbxEv) : Pbx :=
  let b := match e.low with | some h => b.fold h | none => b
  let b := if e.close then b.close else b
  { b with target := e.target.getD b.target, exp := e.exp.getD b.exp }

/-- The detector in cycle `now`: everything due at the end of an earlier cycle has acted (log 35). -/
def Pbx.at_ (b : Pbx) (now : Nat) : Pbx :=
  let due := b.ev.filter (fun p => decide (p.1 < now))
  due.foldl (fun b p => b.act p.2) { b with ev := b.ev.filter (fun p => decide (now ≤ p.1)) }

def State.pbxOf (s : State) (p : Nat) : Pbx := (s.can.pbx.get p {}).at_ s.cyc
def State.setPbx (s : State) (p : Nat) (v : Pbx) : State := { s with can.pbx := s.can.pbx.set p v {} }

/-- Adds to what acts at the end of cycle `k`. -/
def Pbx.plan (b : Pbx) (k : Nat) (f : PbxEv → PbxEv) : Pbx := { b with ev := b.ev.set k (f (b.ev.get k {})) {} }

/-- A contribution of headroom `h` in cycle `f` is folded at the end of cycle `f + 2` (R139). -/
def Pbx.contribute (b : Pbx) (f h : Nat) : Pbx :=
  b.plan (f + 2) (fun e => { e with low := some (match e.low with | some l => Nat.min l h | none => h) })

/-- A close event of cycle `f` acts at the end of cycle `f + 2`; several of one cycle are one (R140). -/
def Pbx.closeEvent (b : Pbx) (f : Nat) : Pbx := b.plan (f + 2) (fun e => { e with close := true })

/-- Meaning of PBX_CLOSE (R140). -/
def pbxClose (t : Nat) (s : State) : State := s.setPbx (panelOf t) ((s.pbxOf (panelOf t)).closeEvent s.cyc)

/-! ## Firing (R93 to R106) -/

/-- The source a select names: code 0 for an input outside FIRE.IN and for code 31 (R96). -/
def effSrc (c : Ctx) (code : Nat) : Nat :=
  if 1 ≤ code ∧ code ≤ 16 then (if Ctx.fireIn c (code - 1) then code else 0) else if code = 31 then 0 else code

/-- Whether tile `t` may perform a step of R93: released, powered, in a running Panel, CV = 1 and not held, or held with
a FIRE_ONE waiting (Table CT-12). -/
def State.tileRuns (s : State) (t : Nat) : Bool :=
  let x := s.tile t
  s.released && s.hasQuad (quadOf t) && s.domOn (quadOf t) && (s.heldOf t).isNone && Ctx.cv x.live
    && (!s.regB (Reg.tileCtrl t) 0 || x.fireOne)

/-- The required inputs of a context. -/
def reqInputs (c : Ctx) : List Nat := (List.range 16).filter (Ctx.fireIn c)

/-- Whether every required output of a normal firing holds a credit (R93, R122) (log 14). -/
def State.creditOk (s : State) (t : Nat) (c : Ctx) : Bool :=
  (List.range 8).all (fun j => !Ctx.fireOut c j || decide (0 < s.outCredit t j))
    && (List.range 8).all (fun j => decide (Ctx.xdrv c j < 2) || s.segCredit j (segLine t j) (segPos t j))
    && (!Ctx.tokEn c || (s.tile t).tok.isNone)

/-- A stall of the given counter; a tile under HOLD counts none (R93, Table CT-12). -/
def State.stall (s : State) (t a : Nat) : State :=
  if s.regB (Reg.tileCtrl t) 0 then s else (s.probeBit t 2).tileCount t a 1

/-- What the steps of one firing read: the state before it, the heads and the memory data. -/
structure FireIn where
  t : Nat
  x : Tile
  c : Ctx
  heads : List (Option ChWord)
  ovf : Bool
  deriving DecidableEq, Repr

def FireIn.head (f : FireIn) (i : Nat) : Val :=
  match (f.heads[i]?).join with
  | some w => { w := w.data, p := w.tag == 3, tag := some w.tag }
  | none => { w := 0#32 }

/-- The sources that read the same as an operand and as a sink, given the accumulator they see (Table CT-4) (log 30). -/
def FireIn.common (f : FireIn) (m0 m1 : Val) (acc : Int) (ap : Bool) (code : Nat) : Val :=
  if code = 0 then { w := 0#32 }
  else if code ≤ 16 then f.head (code - 1)
  else if code ≤ 20 then let r := f.x.treg (code - 17); { w := r.val, p := r.poison }
  else if code = 21 then { w := Ctx.k0 f.c }
  else if code = 22 then m0
  else if code = 23 then m1
  else if code = 24 then { w := if ap then 0#32 else (extract acc (Ctx.shiftE f.c) (Ctx.rnd f.c)).1, p := ap }
  else if code = 25 then { w := word (lowBits acc 32), p := ap }
  else if code = 26 then { w := word (lowBits (acc / 4294967296) 32), p := ap }
  else if code = 27 then { w := word f.x.step }
  else { w := locWord f.t }

/-- A source as an operand (Table CT-4) (log 30, 31, 32). -/
def FireIn.operand (f : FireIn) (m0 m1 : Val) (k : Nat) : Val :=
  let sel := Ctx.opsel f.c k
  let code := effSrc f.c (bitsOf sel 4 0)
  let v := if code = 29 then { w := f.x.prev }
    else if code = 30 then { w := flagsWord f.x.z f.x.n f.x.c f.x.v f.ovf }
    else f.common m0 m1 f.x.acc f.x.accPoison code
  operandMod sel v

/-- The address of a memory port: `none` when the address is poison, with whether R426 substitutes word 0. -/
def FireIn.portAddr (f : FireIn) (p : Nat) (m0 : Val) : Option Nat × Bool :=
  let mp := Ctx.port f.c p
  let z : Val := { w := 0#32 }
  let via (k : Nat) (g : Word → Nat) : Option Nat × Bool :=
    let code := bitsOf (Ctx.opsel f.c k) 4 0
    if code = 23 ∨ (code = 22 ∧ p = 0) then (some 0, true)
    else
      let v := f.operand m0 z k
      (if v.p then none else some (g v.w), false)
  if mp.asel < 4 then
    let g := f.x.gen mp.asel
    (some ((g.base + g.ptr) % 1024), false)
  else if mp.asel = 4 then via 0 (fun w => w.bits 9 0)
  else if mp.asel = 5 then via 1 (fun w => w.bits 9 0)
  else
    let g := f.x.gen 0
    via 1 (fun w => (g.base + (((g.ptr : Int) + w.toInt) % ((agLen g.len : Nat) : Int)).toNat) % 1024)

/-- The read of port `p`, if it reads. -/
def State.portRead (s : State) (f : FireIn) (p : Nat) (m0 : Val) : Val × State :=
  if (Ctx.port f.c p).mode = 1 then
    match (f.portAddr p m0).1 with
    | some a => s.memRead f.t a
    | none => ({ w := 0#32, p := true }, s.tileStat f.t 0x800)
  else ({ w := 0#32 }, s)

/-- Step 3 for a MAC mode (R134, R135): the tile after it, and whether the guard overflowed. -/
def macStep (c : Ctx) (x : Tile) (p : Int) (poisoned : Bool) : Tile × Bool :=
  let x := { x with mstep := Nat.min (x.mstep + 1) 4294967295 }
  if x.accPoison then (x, false)
  else if poisoned then ({ x with accPoison := true }, false)
  else if x.sat then (x, false)
  else
    let s := x.acc + p
    if outRange 64 s then
      if Ctx.accWrap c then ({ x with acc := sextN (lowBits s 64) 64 }, true)
      else ({ x with acc := satInt 64 s, sat := true, satNeg := decide (s < 0) }, true)
    else ({ x with acc := s }, false)

/-- Clears SAT, SATNEG, the poison of ACC and TILE_MSTEP, and ACC as well (R136). -/
def Tile.clearAcc (x : Tile) : Tile :=
  { x with acc := 0, accPoison := false, sat := false, satNeg := false, mstep := 0 }

/-- Bits of TILE_STAT and TILE_MAC and other events a firing raises, collected before they are stored. -/
structure FireEv where
  stat : Nat := 0
  mac  : Nat := 0
  deriving DecidableEq, Repr

/-- A normal firing of tile `t` (R95); the caller has tested the firing rule (log 32). -/
def State.fire (s0 : State) (t : Nat) : State :=
  let x := s0.tile t
  let c := x.act
  let f : FireIn := { t := t, x := x, c := c, heads := (List.range 16).map (fun i =>
    if Ctx.fireIn c i then s0.inHead t i else none), ovf := s0.regB (Reg.tileStat t) 8 }
  let last := x.step == Ctx.period c ||
    (Ctx.endOnLast c && (List.range 16).any (fun i => (f.head i).tag == some 1))
  let kept (i : Nat) : Bool := (List.range 4).any (fun k =>
    Nat.testBit (Ctx.opsel c k) 9 && bitsOf (Ctx.opsel c k) 4 0 == i + 1)
  let consumed := (reqInputs c).filter (fun i => last || !kept i)
  let cLast := consumed.any (fun i => (f.head i).tag == some 1)
  -- steps 1 and 2
  let zv : Val := { w := 0#32 }
  let (m0, s) := s0.portRead f 0 zv
  let (m1, s) := s.portRead f 1 m0
  let o0 := f.operand m0 m1 0
  let o1 := f.operand m0 m1 1
  let o2 := f.operand m0 m1 2
  let o3 := f.operand m0 m1 3
  let op := Ctx.aluOp c
  let rd := aluReads op
  let psn := (rd.1 && o0.p) || (rd.2.1 && o1.p) || (rd.2.2 && o2.p)
  let out := alu op o0.w o1.w o2.w x.cs (Ctx.aluW c)
  let r : Val := { w := if psn then 0#32 else out.r, p := psn }
  let z := if psn then x.z else out.r == 0#32
  let n := if psn then x.n else out.r.bit 31
  let cf := if psn then x.c else out.c
  let v := if psn then x.v else out.v
  -- step 3
  let mode := Ctx.macMode c
  let pbx := s.pbxOf (panelOf t)
  let prod := macProduct mode (Ctx.neg c) (Ctx.bxuse c) pbx.shift o2.w o3.w
  let psat := mode != 0 && Ctx.bxuse c && !o2.p && prod.2
  let xm := s.tile t
  let (xm, ovfEv) := if mode = 0 then (xm, false) else macStep c xm prod.1 (o2.p || o3.p)
  let newOvf := ovfEv && !f.ovf
  let ovf := f.ovf || ovfEv
  let xm := if newOvf then { xm with ovfStep := xm.mstep } else xm
  -- steps 4 and 5
  let holds (code : Nat) : Bool := condHolds code psn z n cf last
  let snk (code : Nat) : Val :=
    let code := effSrc c code
    if code = 29 then r
    else if code = 30 then { w := flagsWord z n cf v ovf }
    else f.common m0 m1 xm.acc xm.accPoison code
  let outW (j : Nat) : Option ChWord :=
    let sel := Ctx.osel c j
    let v := snk (bitsOf sel 4 0)
    if effSrc c (bitsOf sel 4 0) != 0 && holds (bitsOf sel 9 7) then
      some (chWord v (sinkTag (bitsOf sel 6 5) last cLast v))
    else none
  let drvW (j : Nat) : Option ChWord :=
    let code := Ctx.xdrv c j
    if code < 2 then none
    else if code = 2 then some (chWord r (sinkTag 0 last cLast r))
    else if code = 3 then some (chWord o0 (sinkTag 0 last cLast o0))
    else if code = 4 then some (chWord o1 (sinkTag 0 last cLast o1))
    else if code = 5 then some (chWord o2 (sinkTag 0 last cLast o2))
    else if code = 6 then some (chWord o3 (sinkTag 0 last cLast o3))
    else if code = 7 then let v := snk 24; some (chWord v (sinkTag 0 last cLast v))
    else outW (code - 8)
  let p0 := Ctx.port c 0
  let p1 := Ctx.port c 1
  let wval (p : MPort) : Val :=
    match p.wsel with
    | 0 => r
    | 1 => { o0 with tag := none }
    | 2 => { o1 with tag := none }
    | 3 => { o2 with tag := none }
    | 4 => { o3 with tag := none }
    | 5 => snk 24
    | 6 => snk 25
    | _ => snk 26
  let writes (p : MPort) : Bool := p.mode == 2 && holds p.wcond
  -- extractions used, reserved codes
  let xBefore := (List.range 4).any (fun k => bitsOf (Ctx.opsel c k) 4 0 == 24)
  let bx := last && Ctx.bxen c
  let xAfter := (List.range 8).any (fun j => bitsOf (Ctx.osel c j) 4 0 == 24 && holds (bitsOf (Ctx.osel c j) 9 7))
    || (List.range 8).any (fun j => Ctx.xdrv c j == 7)
    || (List.range 4).any (fun k => bitsOf (Ctx.trsel c k) 4 0 == 24 && holds (bitsOf (Ctx.trsel c k) 7 5))
    || (Ctx.tokEn c && holds (Ctx.tokCond c) && Ctx.tokSrc c == 24)
    || (writes p0 && p0.wsel == 5) || (writes p1 && p1.wsel == 5) || (bx && mode != 0)
  let xsat := (xBefore && !x.accPoison && (extract x.acc (Ctx.shiftE c) (Ctx.rnd c)).2)
    || (xAfter && !xm.accPoison && (extract xm.acc (Ctx.shiftE c) (Ctx.rnd c)).2)
  let code31 := (List.range 4).any (fun k => bitsOf (Ctx.opsel c k) 4 0 == 31 || bitsOf (Ctx.trsel c k) 4 0 == 31)
    || (List.range 8).any (fun j => bitsOf (Ctx.osel c j) 4 0 == 31) || Ctx.tokSrc c == 31
  let r426 := (p0.mode != 0 && (f.portAddr 0 zv).2) || (p1.mode != 0 && (f.portAddr 1 m0).2)
  let rsvd := code31 || decide (0x23 ≤ op) || r426 || (decide (32 < Ctx.macShift c) &&
    ((xBefore && !x.accPoison) || (xAfter && !xm.accPoison)))
  -- the token (R106, R109)
  let tokV := snk (Ctx.tokSrc c)
  let wantTok := Ctx.tokEn c && holds (Ctx.tokCond c)
  let xm := if wantTok && !tokV.p then
    { xm with tok := some { tid := Ctx.tokThread c, slot := Ctx.tokSlot c, val := tokV.w } } else xm
  let xm := if newOvf && Ctx.ovfTokEn c && xm.ovfTok.isNone then
    { xm with ovfTok := some { tid := Ctx.tokThread c, slot := Ctx.tokSlot c, val := word (0x80000000 + t) },
              ovfFirst := xm.tok.isNone } else xm
  -- the contribution and the close (R139, R140)
  let hv : Val := if mode = 0 then r else snk 24
  let xm := if last && Ctx.clrAtEnd c then xm.clearAcc else xm
  -- step 6
  let upd (x : Tile) (k : Nat) : Tile :=
    let sel := Ctx.trsel c k
    if effSrc c (bitsOf sel 4 0) != 0 && holds (bitsOf sel 7 5) then
      let v := snk (bitsOf sel 4 0)
      { x with t := x.t.set k { val := if v.p && v.tag != some 3 then 0#32 else v.w, poison := v.p } {} }
    else x
  let xm := (List.range 4).foldl upd xm
  -- step 7
  let names (p : MPort) (k : Nat) : Bool := p.mode != 0 && p.adv && (p.asel == k || (p.asel == 6 && k == 0))
  let xm := (List.range 4).foldl (fun x k =>
    if names p0 k || names p1 k then x.setGen k (x.gen k).advance else x) xm
  -- step 8
  let xm := { xm with
    inp := consumed.foldl (fun m i => SMap.set m i ((SMap.get m i []).drop 1) []) xm.inp
    step := if last then 0 else x.step + 1
    z := z, n := n, c := cf, v := v
    cs := if psn || Ctx.keepC c then x.cs else out.c
    prev := if psn then x.prev else out.r
    fireOne := false }
  let s := s.setTile t xm
  -- memory writes of the ports, in the order of their slots
  let s := if writes p0 then (match (f.portAddr 0 zv).1 with
    | some a => s.memWrite t a (wval p0)
    | none => s.tileStat t 0x800) else s
  let s := if writes p1 then (match (f.portAddr 1 m0).1 with
    | some a => s.memWrite t a (wval p1)
    | none => s.tileStat t 0x800) else s
  -- block exponent
  let s := if bx && !hv.p then
    s.setPbx (panelOf t) ((s.pbxOf (panelOf t)).contribute s.cyc (cls32 hv.w)) else s
  let s := if last && Ctx.bxclose c then pbxClose t s else s
  -- outputs and drivers
  let s := (List.range 8).foldl (fun s j =>
    match outW j with
    | none => s
    | some w =>
      if Ctx.fireOut c j || decide (0 < s.outCredit t j) then s.sendOut t j w
      else (s.tileStat t 0x4000).tileCount t (Reg.tileOdrop t) 1) s
  let s := (List.range 8).foldl (fun s j =>
    match drvW j with
    | none => s
    | some w => s.driveLane t j w) s
  -- events
  let s := if newOvf then s.tileStat t 0x100 else s
  let s := if psn then (s.tileStat t 0x800).tileCount t (Reg.tilePcnt t) 1 else s
  let s := if wantTok && tokV.p then (s.tileStat t 0x800).report 0x02 t else s
  let s := if rsvd then s.tileStat t 0x8000 else s
  let s := s.orReg (Reg.tileMac t) ((if xsat then 4 else 0) + (if psat then 8 else 0))
  (s.probeBit t 0).tileCount t (Reg.tileFires t) 1

/-- Meaning of FIRING (R93): one normal firing, or the stall that prevents it. A marker at the head of a required input
is left to MARKER_FIRING. -/
def firing (t : Nat) (s : State) : State :=
  if !s.tileRuns t then s
  else
    let c := (s.tile t).act
    let hs := (reqInputs c).map (s.inHead t)
    if hs.any Option.isNone then s.stall t (Reg.tileStallIn t)
    else if hs.any (fun h => (h.map ChWord.tag) == some 2) then s
    else if !s.creditOk t c then s.stall t (Reg.tileStallOut t)
    else s.fire t

/-- Whether the tile would fire in this cycle (R93): inputs present, no marker at a head, credits held. -/
def State.wouldFire (s : State) (t : Nat) : Bool :=
  let c := (s.tile t).act
  let hs := (reqInputs c).map (s.inHead t)
  s.tileRuns t && hs.all Option.isSome && !hs.any (fun h => (h.map ChWord.tag) == some 2) && s.creditOk t c

/-- Whether no slot of this cycle is left for a window access (R27, R111): the ports of a firing take theirs, and a
corrected word goes before (log 63). -/
def State.slotsTaken (s : State) (t : Nat) : Bool :=
  let c := (s.tile t).act
  let used := if s.wouldFire t then (if (Ctx.port c 0).mode = 0 then 0 else 1) + (if (Ctx.port c 1).mode = 0 then 0 else 1) else 0
  decide (2 ≤ used + Nat.min 1 (s.tile t).wback.length) && decide (0 < used)

/-- Meaning of FORCED_WRITE_BACK (R111): the oldest corrected word is written back; in a cycle in which the tile would
fire it stalls. -/
def forcedWriteBack (t : Nat) (s : State) : State :=
  if (s.tile t).wback.isEmpty then s
  else if s.wouldFire t then (writeBack t s).stall t (Reg.tileStallMem t)
  else writeBack t s

/-! ## Registers of a tile that act (Tables CT-12, CT-14) -/

/-- A write of AGn_CFG (R115). -/
def agCfgWrite (t k : Nat) (d : Word) (s : State) : State :=
  let x := s.tile t
  s.setTile t (x.setGen k ((x.gen k).stage d.toNat))

/-- AGn_STG.APPLY (R115). -/
def agApply (t k : Nat) (s : State) : State :=
  let x := s.tile t
  s.setTile t (x.setGen k (x.gen k).reset)

/-- A write of AGn_PTR is reduced modulo the live length (Table CT-14). -/
def agPtrWrite (t k : Nat) (d : Word) (s : State) : State :=
  let x := s.tile t
  let g := x.gen k
  s.setTile t (x.setGen k { g with ptr := d.bits 9 0 % agLen g.len })

/-- A write of TILE_CTRL: HOLD, FIRE_ONE and CNT_FREEZE (Table CT-12). FIRE_ONE acts while HOLD = 1. -/
def tileCtrlWrite (t : Nat) (d : Word) (s : State) : State :=
  let s := s.setReg (Reg.tileCtrl t) (d &&& 5#32)
  s.setTile t { s.tile t with fireOne := d.bit 0 && (d.bit 1 || (s.tile t).fireOne) }

/-- A write of TILE_ACCHI (R136): ACC[63:32] is set; the hold, the poison and TILE_MSTEP clear. -/
def acchiWrite (t : Nat) (d : Word) (s : State) : State :=
  let x := s.tile t
  s.setTile t { x with acc := d.toInt * 4294967296 + (lowBits x.acc 32 : Nat), accPoison := false, sat := false,
                       satNeg := false, mstep := 0 }

/-- A write of TILE_ACCLO (R136). -/
def accloWrite (t : Nat) (d : Word) (s : State) : State :=
  let x := s.tile t
  s.setTile t { x with acc := x.acc - (lowBits x.acc 32 : Nat) + (d.toNat : Int) }

/-- A write of TILE_Tk clears its poison (Table CT-14). -/
def tileTWrite (t k : Nat) (d : Word) (s : State) : State :=
  let x := s.tile t
  s.setTile t { x with t := x.t.set k { val := d } {} }

/-- A write of TILE_PBX: TARGET and EXP act at the end of the cycle, after a close that acts then; CLOSE is a close
event of the cycle (R116, R140). -/
def pbxWrite (t : Nat) (d : Word) (s : State) : State :=
  let s := if d.bit 28 then pbxClose t s else s
  s.setPbx (panelOf t) ((s.pbxOf (panelOf t)).plan s.cyc (fun e =>
    { e with target := some (d.bits 14 10), exp := some (d.bits 27 20) }))

/-! ## Registers of a tile as read -/

/-- TILE_STAT as read (Table CT-11). -/
def State.tileStatRead (s : State) (t : Nat) : Word :=
  let x := s.tile t
  s.reg (Reg.tileStat t)
    ||| Word.flag (!s.released || (s.heldOf t).isSome || s.regB (Reg.tileCtrl t) 0) 0
    ||| Word.flag (s.released && (s.heldOf t).isNone && !Ctx.cv x.live) 1 ||| Word.flag x.accPoison 2

/-- TILE_FLAGS as read (Table CT-13): C is Cs. -/
def State.tileFlagsRead (s : State) (t : Nat) : Word :=
  let x := s.tile t
  Word.flag x.z 0 ||| Word.flag x.n 1 ||| Word.flag x.cs 2 ||| Word.flag x.v 3 ||| word (x.step * 16)
    ||| Word.flag (x.treg 0).poison 10 ||| Word.flag (x.treg 1).poison 11 ||| Word.flag (x.treg 2).poison 12
    ||| Word.flag (x.treg 3).poison 13

/-- TILE_BUF as read. -/
def State.tileBufRead (s : State) (t : Nat) : Word :=
  word ((List.range 16).foldl (fun n i => n + ((s.tile t).inp.get i []).length * 4 ^ i) 0)

/-- Credits of output `j` as TILE_CRED shows them: the counter keeps its reset value 2 where the channel has no partner
and where it faces a quadrant that is cut, though the output then holds no credit (R118, R121) (log 14). -/
def State.shownCredit (s : State) (t j : Nat) : Nat :=
  match outPartner t j with
  | .none => 2
  | .table _ => if s.hasTable then s.outCredit t j else 2
  | .tile u _ => if s.linked t u then s.outCredit t j else 2
  | .edge _ => s.outCredit t j

/-- TILE_CRED as read. -/
def State.tileCredRead (s : State) (t : Nat) : Word :=
  let x := s.tile t
  word ((List.range 8).foldl (fun n j => n + s.shownCredit t j * 4 ^ j) 0)
    ||| Word.flag x.tok.isSome 16 ||| Word.flag x.ovfTok.isSome 17

/-- TILE_XSTAT as read (Table RT-4). -/
def State.tileXstatRead (s : State) (t : Nat) : Word :=
  let idle := (List.range 8).foldl (fun n j =>
    if s.drive t j != 0 && s.contended j (segLine t j) (segPos t j) then n + 2 ^ (8 + j) else n) 0
  let enr := (List.range 8).foldl (fun n j => if s.tapEnrolled t j then n + 2 ^ (16 + j) else n) 0
  let jenr := (List.range 8).any (fun j =>
    segTile j (segLine t j) (segPos t j) (entryIdx j) == t && s.drive t j == 1 &&
      (match prevPos j (segPos t j) with
       | some p => s.jointEnrolled j (segLine t j) p
       | none => false))
  s.reg (Reg.tileXstat t) ||| word idle ||| word enr ||| Word.flag jenr 24

/-- TILE_MAC as read. -/
def State.tileMacRead (s : State) (t : Nat) : Word :=
  let x := s.tile t
  s.reg (Reg.tileMac t) ||| Word.flag x.sat 0 ||| Word.flag x.satNeg 1

/-- TILE_PBX as read. -/
def State.tilePbxRead (s : State) (t : Nat) : Word :=
  let b := s.pbxOf (panelOf t)
  word (b.held + b.live * 32 + b.target * 1024 + b.shift * 32768 + b.exp * 1048576) ||| Word.flag b.none_ 29

/-- TILE_PARM as read (Table PS-7). -/
def State.tileParmRead (s : State) (t : Nat) : Word :=
  let x := s.tile t
  let a := match x.arm with
    | some a => 1 + a.slot * 2 + a.min * 16 + (if a.many then 256 else 0) + a.mmatch * 512 + a.mcode * 2048
    | none => 0
  word (a + x.lastEntry * 524288)

/-- The copies of Table CT-15 at the latch instant of a Sketch (R117). -/
def State.tileCopies (s : State) (t : Nat) : List (Nat × Word) :=
  let x := s.tile t
  let p (k : Nat) : Nat := (x.gen k).ptr
  [(Reg.tileSkStat t, s.tileStatRead t), (Reg.tileSkFlags t, s.tileFlagsRead t), (Reg.tileSkBuf t, s.tileBufRead t),
   (Reg.tileSkCred t, s.tileCredRead t), (Reg.tileSkSlot t, word x.slot),
   (Reg.tileSkAcclo t, word (lowBits x.acc 32)), (Reg.tileSkAcchi t, word (lowBits (x.acc / 4294967296) 32)),
   (Reg.tileSkT t 0, (x.treg 0).val), (Reg.tileSkT t 1, (x.treg 1).val), (Reg.tileSkT t 2, (x.treg 2).val),
   (Reg.tileSkT t 3, (x.treg 3).val), (Reg.tileSkAgp01 t, word (p 0 + p 1 * 65536)),
   (Reg.tileSkAgp23 t, word (p 2 + p 3 * 65536)), (Reg.tileSkFires t, s.reg (Reg.tileFires t))]

/-! ## The token path of a quadrant (R109) -/

/-- The tiles of quadrant `q` that hold a token, in the order the path visits them after tile `l`. -/
def State.tokenTiles (s : State) (q l : Nat) : List Nat :=
  let ts := (s.can.tiles.map Prod.fst).filter (fun t =>
    quadOf t == q && ((s.tile t).tok.isSome || (s.tile t).ovfTok.isSome))
  ts.filter (fun t => decide (l < t)) ++ ts.filter (fun t => decide (t ≤ l))

/-- Meaning of TOKEN_PATH_ACCEPT (R109): the quadrant's path takes the next token when its channel holds credit. -/
def tokenPathAccept (q : Nat) (s : State) : State :=
  if !(s.released && s.hasQuad q && s.domOn q && s.maySend q) then s
  else
    match s.tokenTiles q (s.can.tokLast.get q 4096) with
    | [] => s
    | t :: _ =>
      let x := s.tile t
      let s := { s with can.tokLast := s.can.tokLast.set q t 4096 }
      match x.tok, x.ovfTok with
      | some k, some o =>
        if x.ovfFirst then (s.setTile t { x with ovfTok := none, ovfFirst := false }).sendToken q o
        else (s.setTile t { x with tok := none, ovfFirst := true }).sendToken q k
      | some k, none => (s.setTile t { x with tok := none }).sendToken q k
      | none, some o => (s.setTile t { x with ovfTok := none, ovfFirst := false }).sendToken q o
      | none, none => s

end Sys2Proof.Machine
end

