-- ==== Sys2Proof/Machine/Context.lean ====
section
/-! DEFINITION. Sys2Proof/Machine/Context.lean: the context store, its write latch and the apply of a slot (07_context_word.md,
R143 to R159, R428; R115, R145, R170 of the chapters it names). -/
namespace Sys2Proof.Machine

/-- R4: an access to an absent unit reads zero, ignores the write and sets DEV_STATUS.ABSENT_ACCESS. -/
def State.absent (s : State) : State := (s.orReg Reg.devStatus 1).ok

/-- The response to an access before release: an error, or FENCED where Primer mode has the domain off (R324,
R373) (log 16, 57). -/
def State.early (s : State) (fenced : Bool) : State :=
  if s.regB Reg.devStatus 3 && fenced then s.respond 2 0#32 else s.err

/-- A register write that reaches tile `t`: an error before release (R324, R373), the absent, fenced and held cases
(R4, R406, R337), and else `k`. -/
def State.gateTile (s : State) (t : Nat) (k : State → State) : State :=
  if !s.released then s.early (s.hasQuad (quadOf t))
  else if !s.hasQuad (quadOf t) then s.absent
  else if s.domFenced (quadOf t) then s.respond 2 0#32
  else if (s.heldOf t).isSome then s.err
  else k s.ok

/-- A protected word of slot `sl` of a tile: key `8·slot + v` (R152). -/
def Tile.ctxCell (x : Tile) (sl v : Nat) : CCell := x.ctx.get (8 * sl + v) {}
def State.setCtx (s : State) (t sl v : Nat) (c : CCell) : State :=
  let x := s.tile t
  s.setTile t { x with ctx := x.ctx.set (8 * sl + v) c {}, stale := x.stale || x.slot == sl }

/-- Records an uncorrectable word in TILE_CXUE (Table CW-9) (log 34). -/
def State.cxue (s : State) (t sl v : Nat) (apply write : Bool) : State :=
  (s.setReg (Reg.tileCxue t) (word (0x80000000 + sl + v * 8 + (if apply then 64 else 0) + (if write then 128 else 0)))).eccUncorrectable 1

/-- Adds one to TILE_CXCE and passes the correction to the tracker (R155, R352). -/
def State.cxce (s : State) (t sl v : Nat) : State :=
  let s := if s.regB (Reg.tileCtrl t) 2 then s else s.bumpF (Reg.tileCxce t) 15 0 1
  s.eccCorrected 1 (t * 64 + sl * 8 + v)

/-- Reading a protected word: its value and whether it was corrected, or none when it is uncorrectable. An injected
pattern of three or more check bits has one of the three outcomes of R428, which the mask and the data fix
(Config.ctxOpen, log 8): the word corrected in a data bit (0 to 63) or in a check bit that was not in error (64 to 71),
uncorrectable, or accepted as it stands. -/
def State.ctxFetch (s : State) (t sl v : Nat) : Option (BitVec 64 × Bool) × State :=
  let c := (s.tile t).ctxCell sl v
  match c.ecc with
  | .ok => (some (c.data, false), s)
  | .correctable => (some (c.data, true), s)
  | .open_ m =>
    let k := Config.ctxOpen m c.data % 74
    if k < 64 then (some (c.data ^^^ BitVec.ofNat 64 (2 ^ k), true), s)
    else if k < 72 then (if Nat.testBit m (k - 64) then (none, s) else (some (c.data, true), s))
    else if k = 72 then (none, s)
    else (some (c.data, false), s)
  | _ => (none, s)

/-- Writes a corrected word back before any later access (R155, R156). -/
def State.ctxWriteBack (s : State) (t sl v : Nat) (d : BitVec 64) : State :=
  let x := s.tile t
  s.setTile t { x with ctx := x.ctx.set (8 * sl + v) { data := d } {} }

/-- The half of a protected word that register word `w` is. -/
def ctxHalf (d : BitVec 64) (odd : Bool) : Word := if odd then d.extractLsb' 32 32 else d.extractLsb' 0 32
def ctxMerge (d : BitVec 64) (odd : Bool) (h : Word) : BitVec 64 :=
  if odd then BitVec.append h (d.extractLsb' 0 32) else BitVec.append (d.extractLsb' 32 32) h

/-- R154: a partial write of one half; false when it is refused. -/
def State.ctxPartial (s : State) (t sl v : Nat) (odd : Bool) (h : Word) : Bool × State :=
  let h := h &&& ctxMask (2 * v + (if odd then 1 else 0))
  match s.ctxFetch t sl v with
  | (none, s) => (false, s.cxue t sl v false true)
  | (some (d, corr), s) =>
    let s := if corr then (s.cxce t sl v).report 0x03 t else s
    (true, s.setCtx t sl v { data := ctxMerge d odd h })

/-- The outcome of the check-bit injection of TILE_CXINJ at a full write (Table CW-10, R428). -/
def injEcc (mask : Nat) : Ecc :=
  match popc32 (word mask) with
  | 0 => .ok
  | 1 => .correctable
  | 2 => .uncorrectable
  | _ => .open_ mask

/-- A full write of protected word `v` (R153). -/
def State.ctxFull (s : State) (t sl v : Nat) (d : BitVec 64) : State :=
  if s.regB (Reg.tileCxinj t) 8 then
    (s.setCtx t sl v { data := d, ecc := injEcc (s.regF (Reg.tileCxinj t) 7 0) }).setRegF (Reg.tileCxinj t) 8 8 0
  else s.setCtx t sl v { data := d }

/-- Whether slot locking refuses a register write to slot `sl` of tile `t` (R174). -/
def State.slotLocked (s : State) (t sl : Nat) : Bool :=
  (s.tile t).slot == sl && !s.regB (Reg.palSlock (panelOf t)) 8

/-- A write refused by slot locking (R174). -/
def State.slotRefused (s : State) : State := ((s.bump Reg.palWrefuse 1).orReg Reg.palStat 0x10).err

/-- A write of even register word `2v` of slot `sl` (R153). -/
def ctxEvenWrite (t sl v : Nat) (d : Word) (s : State) : State :=
  s.gateTile t (fun s =>
    if s.slotLocked t sl then s.slotRefused
    else
      let old := (s.tile t).ctxLatch
      let (ok, s) := match old with
        | some (sl', v', h) => s.ctxPartial t sl' v' false h
        | none => (true, s)
      let s := s.setTile t { s.tile t with ctxLatch := some (sl, v, d) }
      if ok then s else s.err)

/-- A write of odd register word `2v + 1` of slot `sl` (R153). -/
def ctxOddWrite (t sl v : Nat) (d : Word) (s : State) : State :=
  s.gateTile t (fun s =>
    if s.slotLocked t sl then s.slotRefused
    else
      let part (s : State) : State :=
        match s.ctxPartial t sl v true d with
        | (true, s) => s
        | (false, s) => s.err
      match (s.tile t).ctxLatch with
      | some (sl', v', h) =>
        if sl' = sl ∧ v' = v then
          let s := s.setTile t { s.tile t with ctxLatch := none }
          s.ctxFull t sl v (BitVec.append (d &&& ctxMask (2 * v + 1)) (h &&& ctxMask (2 * v)))
        else part s
      | none => part s)

/-- A read of register word `w` of slot `sl` (R155). -/
def State.ctxReadGo (s : State) (t sl w : Nat) : State :=
  let v := w / 2
  match s.ctxFetch t sl v with
  | (none, s) => (s.cxue t sl v false false).err
  | (some (d, corr), s) =>
    let s := if corr then (s.ctxWriteBack t sl v d).cxce t sl v else s
    s.ok (ctxHalf d (w % 2 == 1))

/-- Meaning of CTX_READ (R155); reads of a held Panel are answered (R337). -/
def ctxRead (t sl w : Nat) (s : State) : State :=
  if !s.released then s.early (s.hasQuad (quadOf t))
  else if !s.hasQuad (quadOf t) then s.absent
  else if s.domFenced (quadOf t) then s.respond 2 0#32
  else s.ctxReadGo t sl w

/-- The eight words of slot `sl` as read for an apply (R156): the context, and the lowest uncorrectable word if any. -/
def State.ctxLoad (s : State) (t sl : Nat) : Ctx × Option Nat × State :=
  (List.range 8).foldl (fun acc v =>
    let (c, bad, s) := acc
    match s.ctxFetch t sl v with
    | (none, s) => (c, (match bad with | none => some v | b => b), s)
    | (some (d, corr), s) =>
      let s := if corr then (s.ctxWriteBack t sl v d).cxce t sl v else s
      (c ||| BitVec.ofNat 512 (d.toNat * 2 ^ (64 * v)), bad, s)) (0#512, none, s)

/-- The staging and the entry flags of an entering context (R115, R136, R145, R147). -/
def Tile.entryFlags (x : Tile) (c : Ctx) : Tile :=
  let x := (List.range 4).foldl (fun x k =>
    if Nat.testBit (Ctx.agcfg c k) 31 then x.setGen k ((x.gen k).stage (Ctx.agcfg c k)) else x) x
  let x := if Ctx.agReset c then (List.range 4).foldl (fun x k => x.setGen k (x.gen k).reset) x else x
  let x := if Ctx.accClear c then x.clearAcc else x
  if Ctx.flushOnEntry c then { x with inp := [] } else x

/-- Number of words in the sixteen input buffers. -/
def Tile.buffered (x : Tile) : Nat := x.inp.foldl (fun n p => n + p.2.length) 0

/-- The apply of slot `sl` (R156, R170); `cause` is TILE_PARM.LAST. -/
def State.applySlot (s : State) (t sl cause : Nat) : State :=
  let (c, bad, s) := (s.probeBit t 3).ctxLoad t sl
  let x := s.tile t
  match bad with
  | some v =>
    let s := s.setTile t { x with slot := sl, ctxUe := true, step := 0, stale := false, lastEntry := cause }
    ((s.cxue t sl v true false).report 0x04 t).contendLanes t
  | none =>
    let nf := if Ctx.cv c && Ctx.flushOnEntry c then x.buffered else 0
    let x := { x with slot := sl, act := c, ctxUe := false, step := 0, stale := false, lastEntry := cause }
    let s := s.setTile t (if Ctx.cv c then x.entryFlags c else x)
    let s := if nf = 0 then s else (s.tileStat t 0x10000).tileCount t (Reg.tileFlush t) nf
    s.contendLanes t

/-- The reset state of a tile: what R118, R141 and R158 set; its memory and its stored contexts stay. -/
def State.tileReset (s : State) (t : Nat) : State :=
  let x := s.tile t
  let lo := 0x1000000 + t * 0x1000
  { s.setTile t { mem := x.mem, ctx := x.ctx } with
    regs := s.regs.filter (fun p => !(decide (lo + 0x200 ≤ p.1) && decide (p.1 < lo + 0x1000))) }

end Sys2Proof.Machine
end

