-- ==== Sys2Proof/Machine/Palette.lean ====
section
/-! DEFINITION. Sys2Proof/Machine/Palette.lean: delivery, the tree, candidates, arms and completion tokens
(08_palette_switching.md, R162 to R176), and the marker firing of a tile (R107, R108, R149, R168, R169). -/
namespace Sys2Proof.Machine

/-! ## The command word (Table PS-1) -/

def cmdF (c : BitVec 64) (hi lo : Nat) : Nat := bitsOf c.toNat hi lo
def cmdSlot (c : BitVec 64) : Nat := cmdF c 2 0
def cmdScope (c : BitVec 64) : Nat := cmdF c 5 3
def cmdSel (c : BitVec 64) : Nat := cmdF c 17 6
def cmdCond (c : BitVec 64) : Nat := cmdF c 19 18
def cmdEidx (c : BitVec 64) : Nat := cmdF c 31 20
def cmdDoneEn (c : BitVec 64) : Bool := c.getLsbD 60
def cmdV (c : BitVec 64) : Bool := c.getLsbD 63

/-- COND as the tree sees it: a released EVENT command reads as 0 (R166). -/
def TreeCmd.cond (x : TreeCmd) : Nat := if x.rel then 0 else cmdCond x.cmd

/-- Whether a command's scope covers tile `t` (R163). -/
def TreeCmd.covers (x : TreeCmd) (t : Nat) : Bool :=
  let sel := cmdSel x.cmd
  match cmdScope x.cmd with
  | 0 => t == sel % 4096
  | 1 => panelOf t == sel % 64
  | 2 => x.grp.getLsbD (panelOf t)
  | 3 => quadOf t == sel % 4
  | 4 => true
  | _ => false

/-- The tiles a command acts on: those of its scope in quadrants that are present, powered and not fenced (R163). -/
def State.scopeTiles (s : State) (x : TreeCmd) : List Nat :=
  let all : List Nat := match cmdScope x.cmd with
    | 0 => [cmdSel x.cmd % 4096]
    | 1 => (List.range 64).map (tileAt (cmdSel x.cmd % 64))
    | _ => (List.range 4096).filter x.covers
  all.filter (fun t => s.quadOpen (quadOf t))

/-! ## Delivery -/

/-- Commands still needed: not done, or of the present cycle, or with an undone rival. -/
def pruneTree (cyc : Nat) (l : List TreeCmd) : List TreeCmd :=
  l.filter (fun x => !x.done || x.k == cyc || l.any (fun y => y.k == x.k && !y.done))

/-- Delivers a command in the present EKL cycle; V = 0 does nothing (R163) (log 34). -/
def State.deliver (s : State) (src : Nat) (cmd : BitVec 64) (rel : Bool) : State :=
  if !cmdV cmd then s
  else
    let g := s.pal.groups.get (cmdSel cmd % 16) 0#64
    { s with pal.tree := pruneTree s.cyc s.pal.tree ++
        [{ k := s.cyc, src := src, cmd := cmd, grp := g, rel := rel, done := false }] }

/-- Marks the command of cycle `k` and source `src` as acted on. -/
def State.treeDone (s : State) (k src : Nat) : State :=
  { s with pal.tree := s.pal.tree.map (fun x => if x.k == k && x.src == src then { x with done := true } else x) }

/-- The oldest command with a condition that has not been acted on. -/
def State.nextCmd (s : State) (p : TreeCmd → Bool) : Option TreeCmd := s.pal.tree.find? (fun x => !x.done && p x)

/-- Rules 2 and 3 of R173: narrower scope first, then the source. -/
def TreeCmd.before (a b : TreeCmd) : Bool :=
  decide (cmdScope a.cmd < cmdScope b.cmd) || (cmdScope a.cmd == cmdScope b.cmd && decide (a.src < b.src))

/-- The winner at tile `t` among the commands of `l`. -/
def winnerAt (l : List TreeCmd) (t : Nat) : Option TreeCmd :=
  l.foldl (fun best y =>
    if y.covers t then
      match best with
      | none => some y
      | some b => if y.before b then some y else some b
    else best) none

/-- The commands of cycle `k` that enter slots. -/
def State.entryCmds (s : State) (k : Nat) : List TreeCmd := s.pal.tree.filter (fun x => x.k == k && x.cond == 0)

/-- The commands of cycle `k` that act on arms. -/
def State.armCmds (s : State) (k : Nat) : List TreeCmd :=
  s.pal.tree.filter (fun x => x.k == k && (x.cond == 2 || x.cond == 3))

/-! ## Counts and tokens -/

/-- Counts `n` losses (R173). -/
def State.palConflict (s : State) (n : Nat) : State :=
  if n = 0 then s else ((s.bump Reg.palConflict n).orReg Reg.palStat 1).report 0x0D 0x1200

/-- Counts a refused command (R174). -/
def State.palBlocked (s : State) : State :=
  ((s.bump Reg.palBlocked 1).orReg Reg.palStat 2).report 0x0E 0x1200

/-- Places a token in the Palette token queue of 16, which sends in order on channel 5 while it holds credit
(R175) (log 34). -/
def State.palToken (s : State) (tk : Token) : State :=
  if s.pal.tokens.isEmpty && s.maySend 5 then s.sendToken 5 tk
  else if s.pal.tokens.length < 16 then { s with pal.tokens := s.pal.tokens ++ [tk] }
  else (s.bump Reg.palDrop 1).breach 41 0

/-- Sends the oldest waiting Palette token when channel 5 holds a credit (log 34). -/
def State.palDrain (s : State) : State :=
  match s.pal.tokens with
  | [] => s
  | k :: r => if s.maySend 5 then ({ s with pal.tokens := r }).sendToken 5 k else s

/-- The completion token of a command (R175). -/
def State.doneToken (s : State) (cmd : BitVec 64) : State :=
  if cmdDoneEn cmd then
    s.palToken { tid := cmdF cmd 57 48, slot := cmdF cmd 59 58, val := cmd.extractLsb' 0 32 }
  else s

/-- Whether a tile still holds the arm numbered `n`. -/
def State.armHeld (s : State) (n : Nat) : Bool :=
  s.can.tiles.any (fun p => match p.2.arm with | some a => a.track == n | none => false)

/-- Sends the completion token of every MARKER command no tile holds any more (R175). -/
def State.trackCheck (s : State) : State :=
  s.pal.tracked.foldl (fun s p =>
    if s.armHeld p.1 then s
    else ({ s with pal.tracked := s.pal.tracked.filter (fun q => q.1 != p.1) }).doneToken p.2) s

/-- Slot entry of a winning candidate: BUSY refuses it (R174); false when refused. -/
def State.enterSlot (s : State) (t sl cause : Nat) : Bool × State :=
  if s.regB (Reg.palSlock (panelOf t)) sl then (false, s) else (true, s.applySlot t sl cause)

/-! ## The commands -/

/-- What one command met in the tiles of its scope. -/
structure Met where
  s : State
  held : Bool := false
  lost : Bool := false
  blocked : Bool := false
  /-- Numbers of the arms replaced. -/
  replaced : List Nat := []

/-- One tile of a slot-entry command `x` (R165, R173, R174). -/
def entryTile (rivals : List TreeCmd) (x : TreeCmd) (m : Met) (t : Nat) : Met :=
  if (m.s.heldOf t).isSome then { m with held := true }
  else
    match winnerAt rivals t with
    | none => m
    | some w =>
      if w.src = x.src then
        match m.s.enterSlot t (cmdSlot x.cmd) 1 with
        | (true, s) => { m with s := s }
        | (false, s) => { m with s := s, blocked := true }
      else if cmdScope w.cmd = cmdScope x.cmd ∧ cmdSlot w.cmd ≠ cmdSlot x.cmd then { m with lost := true }
      else m

/-- The counts a command leaves after its tiles. -/
def Met.settle (m : Met) : State :=
  let s := if m.held then m.s.orReg Reg.palStat 0x20 else m.s
  let s := s.palConflict ((if m.lost then 1 else 0) + m.replaced.eraseDups.length)
  if m.blocked then s.palBlocked else s

/-- R163: a valid command with SCOPE 5 to 7. -/
def State.dropRsvd (s : State) (x : TreeCmd) : State :=
  ((s.bump Reg.palDrop 1).orReg Reg.palStat 4).treeDone x.k x.src

/-- Meaning of IMMEDIATE (R166): the oldest delivered slot-entry command acts in every tile of its scope. -/
def immediateCmd (s : State) : State :=
  match s.nextCmd (fun x => x.cond == 0) with
  | none => s
  | some x =>
    if 5 ≤ cmdScope x.cmd then s.dropRsvd x
    else
      let s := s.bump Reg.palIssued 1
      let m := (s.scopeTiles x).foldl (entryTile (s.entryCmds x.k) x) { s := s }
      (m.settle.doneToken x.cmd).treeDone x.k x.src

/-- Meaning of EVENT (R166, R167): the oldest delivered EVENT command enters the pending table. -/
def eventCmd (s : State) : State :=
  match s.nextCmd (fun x => x.cond == 1) with
  | none => s
  | some x =>
    if 5 ≤ cmdScope x.cmd then s.dropRsvd x
    else
      let s := s.treeDone x.k x.src
      match (List.range 16).find? (fun i => (s.pal.pendT.get i none).isNone) with
      | some i => { s with pal.pendT := s.pal.pendT.set i (some { cmd := x.cmd, k := x.k }) none }
      | none => (s.bump Reg.palDrop 1).orReg Reg.palStat 8

/-- The arm of a MARKER command. -/
def cmdArm (c : BitVec 64) (track : Nat) : Arm :=
  { slot := cmdSlot c, min := cmdF c 35 32, many := c.getLsbD 36, mmatch := cmdF c 38 37, mcode := cmdF c 47 40,
    track := track }

/-- Whether two MARKER commands place the same arm (R173). -/
def sameArm (a b : BitVec 64) : Bool :=
  cmdSlot a == cmdSlot b && cmdF a 38 32 == cmdF b 38 32 && cmdF a 47 40 == cmdF b 47 40

/-- One tile of a MARKER or CANCEL command (R166, R173) (log 34). -/
def armTile (rivals : List TreeCmd) (x : TreeCmd) (n : Nat) (m : Met) (t : Nat) : Met :=
  if (m.s.heldOf t).isSome then { m with held := true }
  else
    match winnerAt rivals t with
    | none => m
    | some w =>
      if w.src = x.src then
        let tl := m.s.tile t
        if x.cond = 2 then
          let rep := match tl.arm with
            | some a => [a.track]
            | none => []
          { m with s := m.s.setTile t { tl with arm := some (cmdArm x.cmd n) }, replaced := rep ++ m.replaced }
        else { m with s := m.s.setTile t { tl with arm := none } }
      else if cmdScope w.cmd = cmdScope x.cmd ∧ (x.cond ≠ w.cond ∨ (x.cond = 2 ∧ !sameArm w.cmd x.cmd)) then
        { m with lost := true }
      else m

/-- Meaning of MARKER (R166): the oldest delivered MARKER command arms every tile of its scope (log 34). -/
def markerCmd (s : State) : State :=
  match s.nextCmd (fun x => x.cond == 2) with
  | none => s
  | some x =>
    if 5 ≤ cmdScope x.cmd then s.dropRsvd x
    else
      let s := s.bump Reg.palIssued 1
      let n := s.pal.trackNo + 1
      let s := { s with pal.trackNo := n }
      let m := (s.scopeTiles x).foldl (armTile (s.armCmds x.k) x n) { s := s }
      let s := m.settle
      let s := { s with pal.tracked := s.pal.tracked ++ [(n, x.cmd)] }
      s.trackCheck.treeDone x.k x.src

/-- Meaning of CANCEL (R166): the oldest delivered CANCEL command clears the arms of its scope. -/
def cancelCmd (s : State) : State :=
  match s.nextCmd (fun x => x.cond == 3) with
  | none => s
  | some x =>
    if 5 ≤ cmdScope x.cmd then s.dropRsvd x
    else
      let s := s.bump Reg.palIssued 1
      let m := (s.scopeTiles x).foldl (armTile (s.armCmds x.k) x 0) { s := s }
      ((m.settle).doneToken x.cmd).trackCheck.treeDone x.k x.src

/-- A write of PAL_CMD_HI by `w` (R164): the pair enters the register-command queue of 8, or waits with its response
held. -/
def State.palCmdHi (s : State) (w : Asker) (d : Word) : State :=
  let c : BitVec 64 := BitVec.append d s.pal.cmdLatch
  let s := s.setReg Reg.palCmdHi d
  if s.pal.queue.length < 8 then
    ({ s with pal.queue := s.pal.queue ++ [c], pal.lastPlaced := s.pal.cmdLatch }).ok
  else { s.respond 5 0#32 with pal.waiting := s.pal.waiting ++ [(c, w)] }

/-- Meaning of PAL_CMD_HI_WRITE (R164). -/
def palCmdHiWrite (d : Word) (s : State) : State := s.palCmdHi (.direct (.ni 42)) d

/-- Meaning of REGISTER_COMMAND_DELIVERY (R164): at most one register command per EKL cycle, the oldest (log 17). -/
def registerCommandDelivery (s : State) : State :=
  if s.pal.lastDel == some s.cyc then s
  else
    match s.pal.queue with
    | [] => s
    | c :: r =>
      let s := { s with pal.lastDel := some s.cyc }
      let s := match s.pal.waiting with
        | [] => { s with pal.queue := r }
        | (c, w) :: ws =>
          { s with pal.queue := r ++ [c], pal.waiting := ws, pal.lastPlaced := c.extractLsb' 0 32 }.answer w 0 0#32
      if s.released then s.deliver 8192 c false
      else if cmdV c then s.bump Reg.palDrop 1 else s

/-- Meaning of PAL_PEND_CLR (R167). -/
def palPendClr (mask : Nat) (s : State) : State :=
  (List.range 16).foldl (fun s i =>
    if Nat.testBit mask i then { s with pal.pendT := s.pal.pendT.set i none none } else s) s

/-- Meaning of PAL_GROUP_HI_WRITE (R176, R427): both halves of the group apply from the next EKL cycle on, so a command
delivered in this one, whose first tree cycle that is, takes the new group (R163) (log 56). -/
def palGroupHiWrite (g : Nat) (d : Word) (s : State) : State :=
  let m : BitVec 64 := BitVec.append d s.pal.groupLatch
  { s with pal.groups := s.pal.groups.set g m 0#64,
           pal.tree := s.pal.tree.map (fun x => if x.k == s.cyc && cmdSel x.cmd % 16 == g then { x with grp := m } else x) }

/-- R167: a firing of schedule entry `i` releases every pending command that names it and entered in an earlier cycle. -/
def State.releasePending (s : State) (i : Nat) : State :=
  (List.range 16).foldl (fun s j =>
    match s.pal.pendT.get j none with
    | some p =>
      if cmdEidx p.cmd = i ∧ p.k < s.cyc then
        ({ s with pal.pendT := s.pal.pendT.set j none none }).deliver (4096 + j) p.cmd true
      else s
    | none => s) s

/-! ## Marker firing -/

/-- Whether the armed command is triggered by a marker firing that consumes the markers of the required inputs, the
forwarded one with code byte `code` (R168). -/
def Arm.triggered (a : Arm) (c : Ctx) (code : Nat) : Bool :=
  (a.many || Ctx.fireIn c a.min) && codeMatch a.mmatch a.mcode code

/-- Counts an arm that loses or is refused, once per command and cycle (R173, R174). -/
def State.armLoss (s : State) (n : Nat) : State :=
  let e := (s.cyc + 1, n)
  if s.pal.armLost.contains e then s
  else ({ s with pal.armLost := e :: s.pal.armLost.filter (fun p => p.1 == s.cyc + 1) }).palConflict 1
def State.armRefusal (s : State) (n : Nat) : State :=
  let e := (s.cyc + 1, n)
  if s.pal.armBlocked.contains e then s
  else ({ s with pal.armBlocked := e :: s.pal.armBlocked.filter (fun p => p.1 == s.cyc + 1) }).palBlocked

/-- The switches a marker firing triggers in tile `t`: they apply in the next cycle, after any tree command that
reaches the tile in it (R168, R169, R173, R174). -/
def State.markerSwitch (s : State) (t : Nat) (c : Ctx) (code : Nat) : State :=
  let x := s.tile t
  let arm := match x.arm with
    | some a => if a.triggered c code then some a else none
    | none => none
  let lsw := Ctx.lswEn c && codeMatch (Ctx.lswMatch c) (Ctx.lswCode c) code
  let tree := s.pal.tree.any (fun y => !y.done && y.cond == 0 && y.k + 3 == s.cyc + 1 && decide (cmdScope y.cmd < 5) && y.covers t)
  let s := if arm.isSome then s.setTile t { x with arm := none } else s
  let s := match arm with
    | some a =>
      if tree then s.armLoss a.track
      else
        match s.enterSlot t a.slot 2 with
        | (true, s) => s
        | (false, s) => s.armRefusal a.track
    | none => s
  let s := if lsw then
      if tree || arm.isSome then s.palConflict 1
      else
        match s.enterSlot t (Ctx.lswSlot c) 3 with
        | (true, s) => s
        | (false, s) => s.palBlocked
    else s
  if arm.isSome then s.trackCheck else s

/-- Whether a marker firing sends the marker on output `j`: its source select is nonzero, code 31 acting as 0 (R108,
Table CW-7) (log 32). -/
def Ctx.marks (c : Ctx) (j : Nat) : Bool := let k := bitsOf (Ctx.osel c j) 4 0; k != 0 && k != 31

/-- The marker firing itself (R108). -/
def State.markerFire (s : State) (t : Nat) (c : Ctx) : State :=
  let req := reqInputs c
  let heads := req.filterMap (s.inHead t)
  let mk : ChWord := heads.head?.getD { data := 0#32, tag := 2 }
  let fwd := !Ctx.absorb c
  let s := if heads.any (fun w => w.data != mk.data) then s.tileStat t 0x1000 else s
  let x := s.tile t
  let x := { x with
    inp := req.foldl (fun m i => SMap.set m i ((SMap.get m i []).drop 1) []) x.inp
    step := 0
    fireOne := false
    tok := if Ctx.tokOnMark c then some { tid := Ctx.tokThread c, slot := Ctx.tokSlot c, val := mk.data } else x.tok }
  let s := s.setTile t x
  let s := (List.range 8).foldl (fun s j =>
    if fwd && Ctx.marks c j then
      if Ctx.fireOut c j || decide (0 < s.outCredit t j) then s.sendOut t j mk
      else (s.tileStat t 0x4000).tileCount t (Reg.tileOdrop t) 1
    else s) s
  let s := (List.range 8).foldl (fun s j =>
    if fwd && decide (2 ≤ Ctx.xdrv c j) then s.driveLane t j mk else s) s
  let s := (s.probeBit t 1).tileCount t (Reg.tileMfires t) 1
  s.markerSwitch t c (mk.data.bits 7 0)

/-- Whether the credits of a marker firing are there (R107, R108, R122). -/
def State.markerCredit (s : State) (t : Nat) (c : Ctx) : Bool :=
  (Ctx.absorb c ||
    ((List.range 8).all (fun j => !Ctx.fireOut c j || !Ctx.marks c j || decide (0 < s.outCredit t j))
      && (List.range 8).all (fun j => decide (Ctx.xdrv c j < 2) || s.segCredit j (segLine t j) (segPos t j))))
  && (!Ctx.tokOnMark c || (s.tile t).tok.isNone)

/-- RESYNC_DISCARD (R107). -/
def State.resyncDiscard (s : State) (t : Nat) (c : Ctx) : State :=
  let drop := (reqInputs c).filter (fun i => match s.inHead t i with | some w => w.tag != 2 | none => false)
  let x := s.tile t
  let s := s.setTile t { x with inp := drop.foldl (fun m i => SMap.set m i ((SMap.get m i []).drop 1) []) x.inp }
  (s.tileStat t 0x2000).tileCount t (Reg.tileMkdrop t) drop.length

/-- Meaning of MARKER_FIRING (R107, R108): the marker rule of R93. A RESYNC discard is no firing: a FIRE_ONE waits on
(log 35). -/
def markerFiring (t : Nat) (s : State) : State :=
  if !s.tileRuns t then s
  else
    let c := (s.tile t).act
    let hs := (reqInputs c).map (s.inHead t)
    let isMk (h : Option ChWord) : Bool := h.map ChWord.tag == some 2
    if hs.any Option.isNone || !hs.any isMk then s
    else if hs.all isMk then
      if s.markerCredit t c then s.markerFire t c
      else s.stall t (Reg.tileStallOut t)
    else if Ctx.resync c then s.resyncDiscard t c
    else s.stall t (Reg.tileStallIn t)

end Sys2Proof.Machine
end

