-- ==== Sys2Proof/Machine/Bytes.lean ====
section
/-! DEFINITION. Sys2Proof/Machine/Bytes.lean: byte strings: fields of either byte order, words and CRCs. -/
namespace Sys2Proof.Machine

/-- Byte `i` of a string, as a number; 0 beyond its end. -/
def byteAt (l : List Byte) (i : Nat) : Nat := (l.getD i 0#8).toNat

/-- `n` bytes from `i`, big-endian. -/
def beAt (l : List Byte) (i n : Nat) : Nat := (List.range n).foldl (fun a k => a * 256 + byteAt l (i + k)) 0

/-- `n` bytes from `i`, little-endian (R15). -/
def leAt (l : List Byte) (i n : Nat) : Nat := (List.range n).foldl (fun a k => a + byteAt l (i + k) * 256 ^ k) 0

/-- The number `v` as `n` bytes, big-endian. -/
def beBytes (v n : Nat) : List Byte := (List.range n).map (fun k => BitVec.ofNat 8 (v / 256 ^ (n - 1 - k)))

/-- The number `v` as `n` bytes, little-endian. -/
def leBytes (v n : Nat) : List Byte := (List.range n).map (fun k => BitVec.ofNat 8 (v / 256 ^ k))

/-- The string with bytes `b` in place from `i` on, as far as it reaches. -/
def putAt (l : List Byte) (i : Nat) (b : List Byte) : List Byte :=
  l.take i ++ (b.take (l.length - i)) ++ l.drop (i + b.length)

/-- The little-endian 32-bit words of a string, the last filled with zeros. -/
def wordsOf (l : List Byte) : List Word :=
  (List.range ((l.length + 3) / 4)).map (fun i => word (leAt l (4 * i) 4))

/-- One step of a reflected CRC over one byte. -/
def crcByte (poly : Nat) (c : Nat) (b : Byte) : Nat :=
  (List.range 8).foldl (fun c _ => if c % 2 = 1 then (c / 2) ^^^ poly else c / 2) (c ^^^ b.toNat)

/-- CRC-32 of IEEE 802.3: reflected, initial value and final XOR of ones. -/
def crc32 (l : List Byte) : Nat := (l.foldl (crcByte 0xEDB88320) 0xFFFFFFFF) ^^^ 0xFFFFFFFF

/-- One step of a forward CRC-8 over one byte. -/
def crc8Byte (poly : Nat) (c : Nat) (b : Byte) : Nat :=
  (List.range 8).foldl (fun c _ => if 128 ≤ c then ((c * 2) % 256) ^^^ poly else c * 2) (c ^^^ b.toNat)

/-- Ones-complement sum of big-endian 16-bit words, folded (Internet checksum before complement). -/
def sum16 (l : List Byte) : Nat :=
  let s := (List.range ((l.length + 1) / 2)).foldl (fun a i => a + beAt l (2 * i) 2) 0
  let f (n : Nat) : Nat := n % 65536 + n / 65536
  f (f (f s))

end Sys2Proof.Machine
end

