-- ==== Sys2Proof/Machine/Streams.lean ====
section
/-! DEFINITION. Sys2Proof/Machine/Streams.lean: lane groups, frames in, the classifier and streams into the Canvas
(09_stream_ports.md, R178 to R194, R202, R429). -/
namespace Sys2Proof.Machine

def State.mac (s : State) (ch : Nat) : MacChan := s.str.chans.get ch {}
def State.setMac (s : State) (ch : Nat) (v : MacChan) : State := { s with str.chans := s.str.chans.set ch v {} }

/-! ## Lane groups and channels (R178, R179, R181) -/

/-- MODE of lane group `g`; 7 acts as 0. -/
def State.gmode (s : State) (g : Nat) : Nat := let m := s.regF (Reg.spgGcfg g) 2 0; if m = 7 then 0 else m

/-- Lanes of each Ethernet channel in a mode (Table SP-1); 0 where the mode forms none. -/
def lanesOf (mode : Nat) : Nat := match mode with | 1 => 1 | 2 => 2 | 3 => 4 | _ => 0

/-- Whether the mode of its group forms channel `ch`. -/
def State.chFormed (s : State) (ch : Nat) : Bool :=
  let n := lanesOf (s.gmode (ch / 8))
  s.hasLg (ch / 8) && n != 0 && ch % 8 % n == 0

/-- A combination of SPEED, PMD and mode listed in Table SP-2 or, in a Shaga mode, the Shaga rate. -/
def laneCfgOk (mode : Nat) (cfg : Word) : Bool :=
  let sp := cfg.bits 2 1
  let pmd := if cfg.bits 4 3 = 3 then 0 else cfg.bits 4 3
  if mode = 1 then (sp == 0) || (sp == 1 && pmd == 0) || (sp == 2 && pmd == 0)
  else if mode = 2 ∨ mode = 3 then sp == 0 && pmd != 1
  else if 4 ≤ mode ∧ mode ≤ 6 then sp == 3
  else false

/-- Primer mode with PRIMER_LANE_EN: lane group 0 carries lane 0 for in-band management (R324, Table SP-3). -/
def State.primerLane (s : State) (g : Nat) : Bool := s.regB Reg.devStatus 3 && s.otp.plane && g == 0

/-- Whether the lane group runs: released, present, powered and not fenced (Table SP-3). -/
def State.groupRuns (s : State) (g : Nat) : Bool :=
  (s.released || s.primerLane g) && s.hasLg g && s.domOn (4 + g) && !s.domFenced (4 + g)

/-- LINK of every lane of a channel (CHk_STAT.LINK). -/
def State.chLink (s : State) (ch : Nat) : Bool :=
  s.chFormed ch && (List.range (lanesOf (s.gmode (ch / 8)))).all (fun i => s.regB (Reg.lnStat (ch / 8) (ch % 8 + i)) 6)

/-- Whether a channel receives and sends: formed, enabled, linked. -/
def State.chRuns (s : State) (ch : Nat) : Bool :=
  s.groupRuns (ch / 8) && s.chFormed ch && s.regB (Reg.chCfg (ch / 8) (ch % 8)) 0 && s.chLink ch

def chA (f : Nat → Nat → Nat) (ch : Nat) : Nat := f (ch / 8) (ch % 8)

/-- The event token of a change of CHk_STAT.LINK (Table DI-3). -/
def State.linkEvent (s : State) (ch : Nat) (up : Bool) : State :=
  s.eventToken 6 ch (word (ch + (if up then 256 else 0)))

/-- Whether a lane runs Clause 73 AN, or link training with `b` = 6: C2M has neither (Table SP-2). -/
def laneNegotiates (cfg : Word) (b : Nat) : Bool := cfg.bit b && cfg.bits 4 3 != 2

/-- The abilities a lane of a channel advertises (R181): of an ETH8 lane those of ABIL that its PMD lists in Table SP-2, else
the channel's own rate. -/
def laneAbil (mode : Nat) (cfg : Word) : Nat :=
  if mode = 1 then cfg.bits 16 14 &&& (if cfg.bits 4 3 = 1 then 1 else 7) else 1

/-- Meaning of LINK_UP (R181): abilities resolve and every lane of the channel shows LINK. `abil` are the abilities the
partner advertises, in the order of LNk_CFG.ABIL. -/
def linkUp (ch : Nat) (abil : BitVec 3) (s : State) : State :=
  let g := ch / 8
  let mode := s.gmode g
  let n := lanesOf mode
  let lanes := (List.range n).map (fun i => ch % 8 + i)
  let ok := s.groupRuns g && s.chFormed ch && lanes.all (fun k =>
    let c := s.reg (Reg.lnCfg g k)
    c.bit 0 && laneCfgOk mode c)
  let cfg := s.reg (Reg.lnCfg g (ch % 8))
  let common := laneAbil mode cfg &&& abil.toNat
  let res : Option Nat :=
    if lanes.all (fun k => !laneNegotiates (s.reg (Reg.lnCfg g k)) 5) then some (cfg.bits 2 1)
    else if Nat.testBit common 0 then some 0 else if Nat.testBit common 1 then some 1
    else if Nat.testBit common 2 then some 2 else none
  match res with
  | none => s
  | some r =>
    if !ok || s.chLink ch then s
    else
      let s := lanes.foldl (fun s k =>
        let c := s.reg (Reg.lnCfg g k)
        let keep := s.reg (Reg.lnStat g k) &&& 0x480#32
        s.setReg (Reg.lnStat g k) (keep ||| word (0x47 + (if laneNegotiates c 5 then 8 else 0) + (if laneNegotiates c 6 then 16 else 0) + r * 256))) s
      s.linkEvent ch true

/-- Takes down the links of a set of lanes (R181). -/
def State.lanesDown (s : State) (g : Nat) (ks : List Nat) : State :=
  ks.foldl (fun s k =>
    if s.regB (Reg.lnStat g k) 6 then s.setReg (Reg.lnStat g k) (s.reg (Reg.lnStat g k) &&& 0x480#32 ||| 0x400#32) else s) s

/-! ## Ingress buffers and PFC (R184, R185) -/

/-- Bytes of ingress buffer of a channel: 256 KiB shared by the channels its mode forms (log 36). -/
def State.bufSize (s : State) (ch : Nat) : Nat :=
  match lanesOf (s.gmode (ch / 8)) with
  | 0 => 0
  | n => 262144 / (8 / n)

/-- Bytes occupied. -/
def MacChan.occupied (m : MacChan) : Nat :=
  m.wait.foldl (fun n f => n + f.held) 0 + m.deliv.foldl (fun n d => n + d.held) 0

/-- The frame on the wire: padding to 60 bytes, a cut at 9,216 bytes, and the FCS, complemented for a frame that ends
under R198. -/
def wireBytes (b : List Byte) (bad : Bool) : List Byte :=
  let b := (b ++ List.replicate (60 - b.length) 0#8).take 9212
  let c := crc32 b
  b ++ leBytes (if bad then c ^^^ 0xFFFFFFFF else c) 4

/-- Records a frame put on the wire and its bytes (R202). -/
def State.wire (s : State) (ch : Nat) (b : List Byte) : State :=
  let m := s.mac ch
  s.setMac ch { m with sent := b, txBytes := Nat.min (m.txBytes + b.length) (2 ^ 64 - 1) }

/-- An IEEE 802.1Qbb PFC frame of channel `ch` before padding and FCS: `quanta` for every priority of `vec` (R185)
(log 36). -/
def pfcBytes (ch vec quanta : Nat) : List Byte :=
  beBytes 0x0180C2000001 6 ++ beBytes (Config.pfcSource ch).toNat 6 ++ beBytes 0x8808 2 ++ beBytes 0x0101 2 ++ beBytes vec 2
    ++ (List.range 8).flatMap (fun i => beBytes (if Nat.testBit vec i then quanta else 0) 2)

/-- Sends a PFC frame for the priorities of TXEN: QUANTA for an XOFF, 0 for an XON (R185). -/
def State.sendPfc (s : State) (ch : Nat) (off : Bool) : State :=
  let w := s.reg (chA Reg.chPfc ch)
  let s := (s.bump (chA Reg.chTxPfc ch) 1).bump (chA Reg.chTxFrames ch) 1
  s.wire ch (wireBytes (pfcBytes ch (w.bits 15 8) (if off then w.bits 31 16 else 0)) false)

/-- Sends XOFF or XON when the occupancy crosses its threshold (R185). A channel that does not run, or whose TXEN is 0, has
no pause to end (log 36). -/
def State.pfcCheck (s : State) (ch : Nat) : State :=
  let m := s.mac ch
  let b := s.reg (chA Reg.chBuf ch)
  let tx := (s.reg (chA Reg.chPfc ch)).bits 15 8
  if tx = 0 || !s.chRuns ch then (if m.xoff then s.setMac ch { m with xoff := false } else s)
  else if !m.xoff && decide (b.bits 15 0 * 64 < m.occupied) then (s.setMac ch { m with xoff := true }).sendPfc ch true
  else if m.xoff && decide (m.occupied ≤ b.bits 31 16 * 64) then (s.setMac ch { m with xoff := false }).sendPfc ch false
  else s

/-- Meaning of PFC_REPEAT (R185). -/
def pfcRepeat (ch : Nat) (s : State) : State :=
  let m := s.mac ch
  let tx := (s.reg (chA Reg.chPfc ch)).bits 15 8
  if s.chRuns ch && m.xoff && tx != 0 && decide ((s.reg (chA Reg.chBuf ch)).bits 31 16 * 64 < m.occupied) then s.sendPfc ch true
  else s

/-- The rate of a channel in Gb/s (Tables SP-1, SP-2). -/
def State.chRate (s : State) (ch : Nat) : Nat :=
  match lanesOf (s.gmode (ch / 8)) with
  | 1 => (match (s.reg (Reg.lnStat (ch / 8) (ch % 8))).bits 9 8 with | 1 => 50 | 2 => 25 | _ => 100)
  | 2 => 200
  | _ => 400

/-! ## Frames in (R180, R183, R184, R186, R193, R194) -/

/-- Sets a sticky bit of CHk_STAT. -/
def State.chEvent (s : State) (ch m : Nat) : State := s.orReg (chA Reg.chStat ch) m

/-- Counts a frame the MAC receives (R202) (log 36). -/
def State.countRx (s : State) (ch len : Nat) : State :=
  let s := s.bump (chA Reg.chRxFrames ch) 1
  let m := s.mac ch
  s.setMac ch { m with rxBytes := Nat.min (m.rxBytes + len) (2 ^ 64 - 1) }

/-- Whether the FCS of a frame is right: the last four bytes are its CRC-32, least significant byte first. -/
def fcsOk (bytes : List Byte) : Bool :=
  let n := bytes.length - 4
  crc32 (bytes.take n) == leAt bytes n 4

/-- A MAC control frame with the given opcode (R180). -/
def isControl (bytes : List Byte) (op : Nat) : Bool := beAt bytes 12 2 == 0x8808 && beAt bytes 14 2 == op

/-- R180: a PAUSE frame is counted and discarded. -/
def State.gotPause (s : State) (ch : Nat) : State := s.bump (chA Reg.chRxPause ch) 1

/-- R180, R200: a PFC frame holds back the egress priorities it names and RXEN allows; quanta 0 ends a hold. -/
def State.gotPfc (s : State) (ch : Nat) (bytes : List Byte) : State :=
  let s := s.bump (chA Reg.chRxPfc ch) 1
  let en := (s.reg (chA Reg.chPfc ch)).bits 7 0
  let vec := beAt bytes 16 2
  let m := s.mac ch
  let hold := (List.range 8).foldl (fun h i =>
    let h0 := if Nat.testBit h i then h - 2 ^ i else h
    if Nat.testBit en i && Nat.testBit vec i then
      (if beAt bytes (18 + 2 * i) 2 = 0 then h0 else h0 + 2 ^ i)
    else h) m.hold
  s.setMac ch { m with hold := hold }

/-- Meaning of PAUSE: a received PAUSE frame (R180). -/
def pauseFrame (ch : Nat) (bytes : List Byte) (s : State) : State :=
  if s.chRuns ch && decide (64 ≤ bytes.length) && fcsOk bytes && isControl bytes 1 then (s.countRx ch bytes.length).gotPause ch
  else s

/-- Meaning of PFC: a received PFC frame (R180, R200). -/
def pfcFrame (ch : Nat) (bytes : List Byte) (s : State) : State :=
  if s.chRuns ch && decide (64 ≤ bytes.length) && fcsOk bytes && isControl bytes 0x101 then
    (s.countRx ch bytes.length).gotPfc ch bytes
  else s

/-- Meaning of PFC_HOLD_END (R200). -/
def pfcHoldEnd (ch prio : Nat) (s : State) : State :=
  let m := s.mac ch
  if Nat.testBit m.hold prio then s.setMac ch { m with hold := m.hold - 2 ^ prio } else s

/-- What the parser recognises in a frame (09_stream_ports.md, Classification). -/
structure Parsed where
  ovid  : Option Nat := none
  ivid  : Option Nat := none
  etype : Nat := 0
  v6    : Bool := false
  l3    : Option Nat := none
  proto : Nat := 0
  udp   : Option Nat := none
  deriving DecidableEq, Repr

/-- Parses a frame, given without its FCS. -/
def parseFrame (b : List Byte) : Parsed :=
  let t0 := beAt b 12 2
  let outer := t0 == 0x88A8 || t0 == 0x8100
  let inner := outer && beAt b 16 2 == 0x8100
  let o := if inner then 20 else if outer then 16 else 12
  let et := beAt b o 2
  let p : Parsed := { ovid := if outer then some (beAt b 14 2 % 4096) else none,
                      ivid := if inner then some (beAt b 18 2 % 4096) else none, etype := et }
  let l3 := o + 2
  if et = 0x0800 then
    let ihl := byteAt b l3 % 16
    let l4 := l3 + 4 * ihl
    if ihl < 5 ∨ b.length < l4 then p
    else
      let udp := if byteAt b (l3 + 9) = 17 ∧ beAt b (l3 + 6) 2 % 8192 = 0 ∧ l4 + 8 ≤ b.length then some l4 else none
      { p with l3 := some l3, proto := byteAt b (l3 + 9), udp := udp }
  else if et = 0x86DD then
    if b.length < l3 + 40 then p
    else
      let udp := if byteAt b (l3 + 6) = 17 ∧ l3 + 48 ≤ b.length then some (l3 + 40) else none
      { p with v6 := true, l3 := some l3, proto := byteAt b (l3 + 6), udp := udp }
  else p

/-- R186: whether a frame is taken for in-band management: EtherType after no tag or one 802.1Q tag. -/
def State.mgtTakes (s : State) (ch : Nat) (b : List Byte) : Bool :=
  let cfg := s.reg Reg.mgtIbCfg
  let et := beAt b 12 2
  let t := cfg.bits 31 16
  cfg.bit 0 && s.regB (chA Reg.chCfg ch) 18 && (et == t || ((et == 0x8100 || et == 0x88A8) && beAt b 16 2 == t))

/-- The stamp of a frame: a position plus a signed correction, reduced (R193). -/
def State.stampOn (s : State) (axis : Nat) (p : Pos) (corr : Word) : Pos :=
  reducePos (s.reg (Reg.axMod axis)).toNat (p.toInt + corr.toInt)

/-- R194: PTP event messages push an entry into the receive timestamp FIFO. -/
def State.ptpReceive (s : State) (ch : Nat) (b : List Byte) (stamps : List Pos) : State :=
  let cfg := s.reg (chA Reg.chCfg ch)
  let p := parseFrame b
  let off : Option Nat :=
    if p.etype = 0x88F7 then
      some (if p.ivid.isSome then 22 else if p.ovid.isSome then 18 else 14)
    else match p.udp with
      | some u => if cfg.bit 17 && beAt b (u + 2) 2 == 319 then some (u + 8) else none
      | none => none
  match off with
  | none => s
  | some o =>
    if !cfg.bit 16 || decide (3 < byteAt b o % 16) || decide (b.length < o + 32) then s
    else
      let ax := cfg.bits 15 12
      let e : Ts := { seq := beAt b (o + 30) 2, mtype := byteAt b o % 16, dom := byteAt b (o + 4),
                      stamp := s.stampOn ax (stamps.getD ax 0#64) (s.reg (chA Reg.chRxcorr ch)) }
      let m := s.mac ch
      if 16 ≤ m.rxts.length then s.chEvent ch 0x40
      else
        let s' := s.setMac ch { m with rxts := m.rxts ++ [e] }
        if m.rxts.isEmpty then s'.eventToken 4 ch (word ch) else s'

/-- Meaning of RECEIVED_FRAME (R183): checks, admission and the arrival stamps. The bytes run from destination address
through FCS (log 36). -/
def receivedFrame (ch : Nat) (bytes : List Byte) (s : State) : State :=
  if !s.chRuns ch then s
  else
    let len := bytes.length
    let s := s.countRx ch len
    let body := bytes.take (len - 4)
    let good := fcsOk bytes
    let ctl := decide (64 ≤ len) && (isControl bytes 1 || isControl bytes 0x101)
    if ctl then
      if !good then (s.bump (chA Reg.chRxFcs ch) 1).chEvent ch 2
      else if isControl bytes 1 then s.gotPause ch else s.gotPfc ch bytes
    else
      let m := s.mac ch
      if s.bufSize ch < m.occupied + 9216 then (s.bump (chA Reg.chRxOvf ch) 1).chEvent ch 4
      else if len < 64 then (s.bump (chA Reg.chRxRunt ch) 1).chEvent ch 2
      else
        let above := decide (9216 < len)
        let stamps := (List.range 16).map s.axPos
        let s := if above then (s.bump (chA Reg.chRxOvsz ch) 1).chEvent ch 2
          else if good then s else (s.bump (chA Reg.chRxFcs ch) 1).chEvent ch 2
        if s.mgtTakes ch bytes then
          s.bump (chA Reg.chRxMgt ch) 1
        else if !s.released then s
        else
          let f : RxFrame := { bytes := if above then bytes.take 9216 else body, held := Nat.min len 9216,
                               bad := above || !good, stamps := stamps, sfd := s.cyc, rate := s.chRate ch, total := len }
          let s := s.ptpReceive ch f.bytes stamps
          let m := s.mac ch
          (s.setMac ch { m with wait := m.wait ++ [f] }).pfcCheck ch

/-! ## The classifier (R187, R188) -/

/-- Word `w` of rule `r` (Table SP-4). -/
def State.rule (s : State) (r w : Nat) : Word := s.reg (Reg.spxRule r w)

/-- The window test of a rule. -/
def State.ruleWindow (s : State) (r : Nat) (p : Parsed) (b : List Byte) : Bool :=
  let w9 := s.rule r 9
  let base : Option Nat := match w9.bits 12 11 with
    | 1 => p.l3
    | 2 => p.udp.map (· + 8)
    | _ => some 0
  match base with
  | none => false
  | some o =>
    let o := o + w9.bits 10 0
    decide (o + 16 ≤ b.length ∧ o + 16 ≤ 512) && (List.range 4).all (fun i =>
      let v := word (leAt b (o + 4 * i) 4)
      let m := s.rule r (14 + i)
      (v &&& m) == (s.rule r (10 + i) &&& m))

/-- The address test of a rule. -/
def State.ruleAddr (s : State) (r : Nat) (p : Parsed) (b : List Byte) : Bool :=
  let w0 := s.rule r 0
  match p.l3 with
  | none => false
  | some l =>
    if w0.bit 7 != p.v6 then false
    else
      let n := if p.v6 then 128 else 32
      let off := if p.v6 then (if w0.bit 6 then 8 else 24) else (if w0.bit 6 then 12 else 16)
      let a := beAt b (l + off) (n / 8)
      let want := if p.v6 then (List.range 4).foldl (fun v i => v + (s.rule r (4 + i)).toNat * 2 ^ (32 * i)) 0
        else (s.rule r 4).toNat
      let pre := Nat.min (w0.bits 14 8) n
      a / 2 ^ (n - pre) == want / 2 ^ (n - pre)

/-- Whether valid rule `r` matches a frame of channel `ch`. -/
def State.ruleMatches (s : State) (ch r : Nat) (p : Parsed) (b : List Byte) : Bool :=
  let w0 := s.rule r 0
  w0.bit 0 && !s.wordFails 9 (spbRule r) && (s.rule r 1).bit ch
    && (!w0.bit 1 || p.ovid == some ((s.rule r 2).bits 11 0))
    && (!w0.bit 2 || p.ivid == some ((s.rule r 2).bits 27 16))
    && (!w0.bit 3 || p.etype == (s.rule r 3).bits 15 0)
    && (!w0.bit 4 || (p.l3.isSome && p.proto == (s.rule r 3).bits 23 16))
    && (!w0.bit 5 || s.ruleAddr r p b)
    && (!w0.bit 15 || (match p.udp with | some u => beAt b u 2 == (s.rule r 8).bits 15 0 | none => false))
    && (!w0.bit 16 || (match p.udp with | some u => beAt b (u + 2) 2 == (s.rule r 8).bits 31 16 | none => false))
    && (!w0.bit 17 || s.ruleWindow r p b)

/-- Quadrant of an edge port (Table RT-5). -/
def quadOfEdge (p : Nat) : Nat := if p < 64 then 2 * (p / 32) else 2 * ((p - 64) / 32) + 1

/-- Ports of a stripe. -/
def stripe (pbase n : Nat) : List Nat := (List.range n).map (fun i => pbase + i)

/-- Whether an ingress stream has an ingress path: EN = 1 and every port present (R191). An uncorrectable entry acts as
invalid (Table IN-1). -/
def State.ingressPath (s : State) (sid : Nat) : Bool :=
  let s0 := s.reg (Reg.spxIng0 sid)
  s0.bit 0 && !s.wordFails 9 (spbIngress sid) && (stripe (s0.bits 26 20) (s0.bits 30 27 + 1)).all (fun p => decide (p < 128) && s.hasQuad (quadOfEdge p))

/-- Whether any port of a stripe lies in a fenced or powered-down quadrant (R191). -/
def State.stripeBlocked (s : State) (pbase n : Nat) : Bool :=
  (stripe pbase n).any (fun p => !s.quadOpen (quadOfEdge p))

/-- Counts `n` discarded frames of stream `sid` toward its next loss marker. -/
def State.streamLost (s : State) (sid n : Nat) : State := { s with str.lost := s.str.lost.set sid (s.str.lost.get sid 0 + n) 0 }

/-- The header stamp of a frame (R193): the 8 bytes at HOFF, when they lie in the frame and its first 512 bytes. -/
def headerStamp (b : List Byte) (hoff : Nat) (be : Bool) : Option Pos :=
  if hoff + 8 ≤ b.length ∧ hoff + 8 ≤ 512 then
    some (BitVec.ofNat 64 (if be then beAt b hoff 8 else leAt b hoff 8))
  else none

/-- First payload byte of a frame under STRIP and SKIP (R190). -/
def payloadFrom (s0 : Word) (p : Parsed) : Option Nat :=
  let o : Option Nat := match s0.bits 10 9 with
    | 1 => p.l3
    | 2 => p.udp.map (· + 8)
    | _ => some 0
  o.map (· + s0.bits 19 12)

/-- The EKL cycle in which byte `n` of a frame has been received: R / 10 bytes come in a cycle at R Gb/s (log 36). -/
def RxFrame.reach (f : RxFrame) (n : Nat) : Nat := if f.rate = 0 then f.sfd else f.sfd + (10 * n + f.rate - 1) / f.rate

/-- The rows of a frame classified in cycle `now` (R190). `stamp`, `fellBack`, `seq` and `lost` are those of R193, R429 and
the loss marker. -/
def frameRows (now sid : Nat) (s0 s1 : Word) (f : RxFrame) (p : Parsed) (stamp : Pos) (fellBack : Bool) (seq lost : Nat) :
    List Row :=
  let n := s0.bits 30 27 + 1
  let same (w : Word) (tag : Nat) : Row := { ws := List.replicate n { data := w, tag := tag }, free := 0, at_ := now }
  let mk (kind code : Nat) : Row := same (word (code + sid * 65536 + kind * 67108864)) 2
  let start := match payloadFrom s0 p with | some o => o | none => f.bytes.length
  let pay := f.bytes.drop start
  let ws := wordsOf pay
  let k := Nat.max 1 ((ws.length + n - 1) / n)
  let poisoned (b : Nat) : Bool := f.pois.any (fun r => decide (r.1 < b + 4) && decide (b < r.2))
  let payRow (i : Nat) : Row :=
    let last := i + 1 == k
    let row := (List.range n).map (fun j =>
      let w := ws.getD (i * n + j) 0#32
      if poisoned (start + 4 * (i * n + j)) then ({ data := 0#32, tag := 3 } : ChWord)
      else if last then (if f.bad then ({ data := 0#32, tag := 3 } : ChWord) else { data := w, tag := 1 })
      else { data := w, tag := 0 })
    let upto (m : Nat) : Nat := if m = 0 then 0 else Nat.min f.held (start + m * n * 4)
    { ws := row, free := (if last then f.held else upto (i + 1)) - upto i,
      at_ := Nat.max now (f.reach (if last then f.total else start + (i + 1) * n * 4)) }
  (if s1.bit 11 && lost != 0 then [mk 2 (Nat.min lost 65535)] else [])
    ++ (if s0.bit 6 then [mk 0 (seq % 65536)] else [])
    ++ (if s0.bit 7 then [same (stamp.extractLsb' 0 32) 0, same (stamp.extractLsb' 32 32) 0] else [])
    ++ (if s0.bit 8 then [same (word (pay.length + (if fellBack then 16384 else 0) + (seq % 65536) * 65536)) 0] else [])
    ++ (List.range k).map payRow

/-- Assigns a classified frame to stream `sid` (R184, R190, R193, R429): its delivery, or none when it is discarded. The
second result is whether its header stamp fell back. -/
def State.toStream (s : State) (sid : Nat) (f : RxFrame) (corr : Word) : Option Delivery × Bool × State :=
  let s0 := s.reg (Reg.spxIng0 sid)
  let s1 := s.reg (Reg.spxIng1 sid)
  let n := s0.bits 30 27 + 1
  let seq := s.str.seqNo.get sid 0
  let s := { s with str.seqNo := s.str.seqNo.set sid ((seq + 1) % 4294967296) 0 }
  if !s.ingressPath sid || s.stripeBlocked (s0.bits 26 20) n then (none, false, s.streamLost sid 1)
  else
    let ax := s0.bits 4 1
    let arr := s.stampOn ax (f.stamps.getD ax 0#64) corr
    let hs := if s0.bit 5 then headerStamp f.bytes (s1.bits 10 0) (s0.bit 11) else none
    let fb := s0.bit 5 && hs.isNone
    let lost := s.str.lost.get sid 0
    let rows := frameRows s.cyc sid s0 s1 f (parseFrame f.bytes) (hs.getD arr) fb seq lost
    let d : Delivery := { sid := sid, pbase := s0.bits 26 20, ports := n, order := s.str.order, started := false,
                          held := f.held, rows := rows, lost := lost, ends := f.reach f.total, rate := f.rate,
                          total := f.total }
    (some d, fb, { s with str.order := s.str.order + 1, str.lost := s.str.lost.set sid 0 0 })

/-- Meaning of CLASSIFICATION (R187): the rules are tested on the oldest frame of the channel that waits. A channel that the
mode of its group does not form has none (R179). -/
def classification (ch : Nat) (s : State) : State :=
  let m := s.mac ch
  match m.wait with
  | [] => s
  | f :: r =>
    let s := s.setMac ch { m with wait := r }
    let p := parseFrame f.bytes
    let cfg := s.reg (chA Reg.chCfg ch)
    let toSid (sid : Nat) (s : State) : State :=
      match s.toStream sid f (s.reg (chA Reg.chRxcorr ch)) with
      | (some d, fb, s) =>
        let m := s.mac ch
        let s := s.setMac ch { m with deliv := m.deliv ++ [d] }
        if fb then s.chEvent ch 8 else s
      | (none, _, s) => (s.bump (chA Reg.chRxOvf ch) 1).chEvent ch 4
    let s := match (List.range 256).find? (fun r => s.ruleMatches ch r p f.bytes) with
      | some r =>
        if (s.rule r 0).bit 18 then s.bump (chA Reg.chRxRdrop ch) 1
        else toSid ((s.rule r 18).bits 9 0) s
      | none =>
        let s := s.bump (chA Reg.chRxNomatch ch) 1
        if cfg.bit 11 then s else toSid (cfg.bits 10 1) s
    s.pfcCheck ch

/-! ## Rows and markers into the Canvas (R127, R190, R191) -/

/-- The tile and input that edge port `p` feeds (Table RT-5). -/
def edgeTile (p : Nat) : Nat × Nat := if p < 64 then (p * 64, 3) else ((p - 64) * 64 + 63, 1)

/-- Whether the edge exchange holds credit toward the tile of port `p`. -/
def State.portCredit (s : State) (p : Nat) : Bool :=
  let (t, i) := edgeTile p
  s.quadOpen (quadOf t) && (s.heldOf t == some true || decide ((s.tile t).load i < 2))

/-- Sends a word into the Canvas on port `p`. -/
def State.portSend (s : State) (p : Nat) (w : ChWord) : State :=
  let (t, i) := edgeTile p
  s.arrive t i w

/-- Sends a row on a stripe. -/
def State.sendRow (s : State) (pbase : Nat) (ws : List ChWord) : State :=
  (ws.zip (List.range ws.length)).foldl (fun s p => s.portSend (pbase + p.2) p.1) s

/-- Whether two stripes share a port. -/
def stripesMeet (a n b k : Nat) : Bool := decide (a < b + k) && decide (b < a + n)

/-- Deliveries of a source: 0 to 31 the channels, 32 the tunnels. -/
def State.delivOf (s : State) (src : Nat) : List Delivery := if src = 32 then s.str.tunnel else (s.mac src).deliv
def State.setDeliv (s : State) (src : Nat) (l : List Delivery) : State :=
  if src = 32 then { s with str.tunnel := l } else s.setMac src { s.mac src with deliv := l }

/-- Whether row `r` of delivery `d` is a loss marker. -/
def Row.isLoss (r : Row) : Bool :=
  match r.ws with
  | w :: _ => w.tag == 2 && w.data.bits 28 26 == 2
  | [] => false

/-- Delivery `d` once its row `r` has been sent and the rows `rs` remain. -/
def Delivery.after (d : Delivery) (r : Row) (rs : List Row) : Delivery :=
  { d with started := true, rows := rs, held := d.held - r.free, lost := if !d.started && r.isLoss then 0 else d.lost }

/-- Whether marker `m` stands before row `r` of delivery `d`: the data of the row reached the edge exchange after the fire
cycle of its action (R25, R191) (log 37). -/
def WaitMark.before (m : WaitMark) (d : Delivery) (r : Row) : Bool :=
  stripesMeet m.pbase m.ports d.pbase d.ports && decide (m.k < r.at_)

/-- Whether a frame that classified earlier still holds a port of the delivery (R190). -/
def State.mustWait (s : State) (d : Delivery) : Bool :=
  (List.range 33).any (fun src => (s.delivOf src).any (fun e =>
    decide (e.order < d.order) && stripesMeet e.pbase e.ports d.pbase d.ports))

/-- Meaning of STREAM_ROW (R190): one row of the oldest frame of a source, when every port holds credit. A waiting
marker that stands before the row goes first (R191) (log 36, 37). -/
def streamRow (src : Nat) (s : State) : State :=
  match s.delivOf src with
  | [] => s
  | d :: rest =>
    match d.rows with
    | [] => s.setDeliv src rest
    | r :: rs =>
      if (!d.started && s.mustWait d) || s.str.marks.any (fun m => m.before d r)
          || !(stripe d.pbase d.ports).all s.portCredit then s
      else
        let s := s.sendRow d.pbase r.ws
        let s := match rs with
          | [] => (s.setDeliv src rest).bump (Reg.spxIscnt d.sid) 1
          | _ => s.setDeliv src (d.after r rs :: rest)
        if src < 32 then s.pfcCheck src else s

/-- Whether a row that goes before marker `m` has not been sent (R25, R191). -/
def State.rowsAhead (s : State) (m : WaitMark) : Bool :=
  (List.range 33).any (fun src => (s.delivOf src).any (fun d =>
    stripesMeet m.pbase m.ports d.pbase d.ports && d.rows.any (fun r => !m.before d r)))

/-- Meaning of MARKER_INSERT (R191): the oldest waiting marker of the stream enters every port of its stripe, after the
rows and the markers that go before it (log 37). -/
def markerInsert (sid : Nat) (s : State) : State :=
  match s.str.marks.find? (fun m => m.sid == sid) with
  | none => s
  | some m =>
    let ahead := s.str.marks.takeWhile (fun x => x != m)
    if ahead.any (fun x => stripesMeet x.pbase x.ports m.pbase m.ports) || s.rowsAhead m || !(stripe m.pbase m.ports).all s.portCredit then s
    else
      let s := { s with str.marks := s.str.marks.erase m }
      s.sendRow m.pbase (List.replicate m.ports { data := m.word, tag := 2 })

/-- MARKER action of the Easel (R80, R191): the marker is queued, or counted as not performed. `false` when the stream
has no ingress path (log 37). -/
def State.easelMarker (s : State) (sid mcode : Nat) : Bool × State :=
  if !s.ingressPath sid then (false, s)
  else
    let s0 := s.reg (Reg.spxIng0 sid)
    let b := s0.bits 26 20
    let n := s0.bits 30 27 + 1
    let full := (stripe b n).any (fun p =>
      decide (4 ≤ (s.str.marks.filter (fun m => stripesMeet m.pbase m.ports p 1)).length))
    if full then
      (true, ((s.bump Reg.spxMarkdrop 1).orReg Reg.spxStat 1).breach 40 1)
    else
      (true, { s with str.marks := s.str.marks ++
        [{ sid := sid, pbase := b, ports := n, word := word (mcode + sid * 65536 + 67108864), k := s.cyc }] })

/-! ## A channel that goes down (R178, R181, R183) -/

/-- The frames that wait, of which those still in reception are cut off (R183). -/
def State.cutWaiting (s : State) (ch : Nat) : State :=
  let m := s.mac ch
  let s := s.setMac ch { m with wait := [] }
  m.wait.foldl (fun s f =>
    let keep (f : RxFrame) (s : State) : State := s.setMac ch { s.mac ch with wait := (s.mac ch).wait ++ [f] }
    if f.reach f.total ≤ s.cyc then keep f s
    else
      let got := (s.cyc - f.sfd) * f.rate / 10
      let s := s.setMac ch { s.mac ch with rxBytes := (s.mac ch).rxBytes - (f.total - got) }
      if got < 64 then (s.bump (chA Reg.chRxRunt ch) 1).chEvent ch 2
      else
        let s := if f.bad then s else (s.bump (chA Reg.chRxFcs ch) 1).chEvent ch 2
        keep { f with bytes := f.bytes.take got, held := Nat.min f.held got, bad := true, total := got } s) s

/-- The frames in delivery, of which those still in reception end with the first row not wholly received, as poison
(R183). -/
def State.cutDeliveries (s : State) (ch : Nat) : State :=
  let m := s.mac ch
  let s := s.setMac ch { m with deliv := [] }
  m.deliv.foldl (fun s d =>
    let keep (d : Delivery) (s : State) : State := s.setMac ch { s.mac ch with deliv := (s.mac ch).deliv ++ [d] }
    if d.ends ≤ s.cyc then keep d s
    else
      let left := (d.ends - s.cyc) * d.rate / 10
      let came := d.rows.filter (fun r => decide (r.at_ ≤ s.cyc))
      let gone := d.rows.filter (fun r => decide (s.cyc < r.at_))
      let last : Row := { ws := List.replicate d.ports { data := 0#32, tag := 3 },
                          free := gone.foldl (fun n r => n + r.free) 0, at_ := s.cyc }
      let bad := (match d.rows.getLast? with | some r => r.ws.all (fun w => w.tag == 3) | none => true)
      let s := s.setMac ch { s.mac ch with rxBytes := (s.mac ch).rxBytes - Nat.min d.total left }
      let s := if bad then s else (s.bump (chA Reg.chRxFcs ch) 1).chEvent ch 2
      keep { d with rows := came ++ [last], ends := s.cyc, total := d.total - left } s) s

/-- Meaning of LINKDOWN (R181): a lane that loses alignment takes its whole channel down; frames in reception are cut off
(R183) (log 36). -/
def linkdown (lane : Nat) (s : State) : State :=
  let g := lane / 8
  let n := lanesOf (s.gmode g)
  if n = 0 then s
  else
    let ch := 8 * g + lane % 8 / n * n
    let was := s.chLink ch
    let s := s.lanesDown g ((List.range n).map (fun i => ch % 8 + i))
    if was then (((s.cutWaiting ch).cutDeliveries ch).pfcCheck ch).linkEvent ch false else s

/-- The links of the channels of group `g` go down. -/
def State.channelsDown (s : State) (g : Nat) : State := (List.range 8).foldl (fun s k => linkdown (8 * g + k) s) s

/-- The frames in the ingress buffer of a channel are discarded; those in delivery count as discarded frames of their
streams. -/
def State.dropIngress (s : State) (ch : Nat) : State :=
  let m := s.mac ch
  let s := s.setMac ch { m with wait := [], deliv := [] }
  m.deliv.foldl (fun s d => s.streamLost d.sid (d.lost + 1)) s

/-- The write of SPG_GCFG.MODE under R178; `false` when it is refused. A change of MODE takes the links of the channels down
and empties the ingress buffers, whose paths it takes away (R179) (log 36). -/
def State.modeWrite (s : State) (g : Nat) (d : Word) : Bool × State :=
  let m := d.bits 2 0
  let en := (List.range 8).any (fun k => s.regB (Reg.chCfg g k) 0)
  if (en && !s.domFenced (4 + g)) || (decide (4 ≤ m ∧ m ≤ 6) && !s.hasShaga) then (false, s)
  else
    let s := if (if m = 7 then 0 else m) = s.gmode g then s
      else (List.range 8).foldl (fun s k => s.dropIngress (8 * g + k)) (s.channelsDown g)
    (true, s.setReg (Reg.spgGcfg g) (word m))

/-- Meaning of SPG_MODE_WRITE (R178). -/
def spgModeWrite (g : Nat) (d : Word) (s : State) : State :=
  if !s.released then s.err
  else if !s.hasLg g then s.absent
  else match s.modeWrite g d with
    | (true, s) => s.ok
    | (false, s) => s.err

/-- R191: at a fence, the rest of every frame that has a port in a blocked quadrant is discarded, and its markers with
it. -/
def State.purgeStreams (s : State) : State :=
  let s := { s with str.marks := s.str.marks.filter (fun m => !s.stripeBlocked m.pbase m.ports) }
  (List.range 33).foldl (fun s src =>
    let ds := s.delivOf src
    let gone := ds.filter (fun d => s.stripeBlocked d.pbase d.ports)
    if gone.isEmpty then s
    else
      let s := s.setDeliv src (ds.filter (fun d => !s.stripeBlocked d.pbase d.ports))
      let s := gone.foldl (fun s d => s.streamLost d.sid (d.lost + 1)) s
      if src < 32 then s.pfcCheck src else s) s

/-! ## Stream entries (R189) -/

/-- Whether an enabled entry keeps its ports on one edge. -/
def oneEdge (pbase n : Nat) : Bool := decide (pbase + n ≤ 64) || (decide (64 ≤ pbase) && decide (pbase + n ≤ 128))

/-- Ports of an ingress entry word S0, or of an egress entry word E0. -/
def entryPorts (egress : Bool) (w : Word) : Nat × Nat :=
  if egress then (w.bits 7 1, w.bits 11 8 + 1) else (w.bits 26 20, w.bits 30 27 + 1)

/-- Whether word 0 `w` of stream `sid` keeps the rules of R189 among the enabled streams of its kind. -/
def State.stripeOk (s : State) (egress : Bool) (sid : Nat) (w : Word) : Bool :=
  let (b, n) := entryPorts egress w
  oneEdge b n && (List.range (if egress then 64 else 1024)).all (fun k =>
    if k = sid then true
    else
      let v := s.reg (if egress then Reg.spxEgr0 k else Reg.spxIng0 k)
      let (c, m) := entryPorts egress v
      !v.bit 0 || !stripesMeet b n c m || (b == c && n == m))

/-- Meaning of STREAM_ENTRY_WRITE (R189). -/
def streamEntryWrite (egress : Bool) (sid w : Nat) (d : Word) (s : State) : State :=
  if !s.released then s.err
  else if egress && decide (64 ≤ sid) then s.ok
  else
    let a := if egress then (if w = 0 then Reg.spxEgr0 sid else Reg.spxEgr1 sid)
      else (if w = 0 then Reg.spxIng0 sid else Reg.spxIng1 sid)
    let bad := w == 0 && d.bit 0 && !s.stripeOk egress sid d
    if bad then ((s.bump Reg.spxCfgref 1).orReg Reg.spxStat 8).err
    else (s.plainWrite a d).ok

/-! ## Timestamp FIFOs and byte counters (R202) -/

/-- Meaning of TS_INFO_READ (R202): the oldest entry is removed and its stamp latched. -/
def tsInfoRead (ch : Nat) (tx : Bool) (s : State) : State :=
  let m := s.mac ch
  match if tx then m.txts else m.rxts with
  | [] => s.ok
  | e :: r =>
    let m := if tx then { m with txts := r, txtsL := e.stamp } else { m with rxts := r, rxtsL := e.stamp }
    (s.setMac ch m).ok (word (e.seq + e.mtype * 65536 + e.dom * 1048576 + 2147483648))

/-- A read of RX_BYTES_LO or TX_BYTES_LO: the high half is latched and the counter clears (R17, R202). -/
def bytesLoRead (ch : Nat) (tx : Bool) (s : State) : State :=
  let m := s.mac ch
  let n := if tx then m.txBytes else m.rxBytes
  let m := if tx then { m with txBytes := 0, txHi := word (n / 4294967296) }
    else { m with rxBytes := 0, rxHi := word (n / 4294967296) }
  (s.setMac ch m).ok (word n)

/-- CHk_STAT as read. -/
def State.chStatRead (s : State) (ch : Nat) : Word :=
  s.reg (chA Reg.chStat ch) ||| Word.flag (s.chLink ch) 0 ||| Word.flag ((s.mac ch).hold != 0) 7

/-- LNk_STAT as read: CFGERR is derived (Table SP-12). -/
def State.lnStatRead (s : State) (g k : Nat) : Word :=
  s.reg (Reg.lnStat g k) ||| Word.flag (s.regB (Reg.lnCfg g k) 0 && !laneCfgOk (s.gmode g) (s.reg (Reg.lnCfg g k))) 11

/-- SPG_GSTAT as read. -/
def State.gstatRead (s : State) (g : Nat) : Word :=
  word ((List.range 8).foldl (fun n k => if s.regB (Reg.lnStat g k) 6 then n + 2 ^ k else n) 0)

end Sys2Proof.Machine
end

