-- ==== Sys2Proof/Machine/Egress.lean ====
section
/-! DEFINITION. Sys2Proof/Machine/Egress.lean: frames out of the Canvas (09_stream_ports.md, R195 to R200). -/
namespace Sys2Proof.Machine

def State.egrOf (s : State) (e : Nat) : List EFrame := s.str.egr.get e []
def State.setEgr (s : State) (e : Nat) (l : List EFrame) : State := { s with str.egr := s.str.egr.set e l [] }

/-- The tunnel of egress stream `e`, if a valid one takes it (R252). -/
def State.tunnelOf (s : State) (e : Nat) : Option Nat :=
  if s.hasShaga then
    (List.range 16).find? (fun u => let w := s.reg (Reg.shgTun u); w.bit 0 && w.bits 6 1 == e)
  else none

/-- Template of a frame of stream `e`: TOVR of a descriptor with TSEL = 1, else TMPL. -/
def State.tmplOf (s : State) (e : Nat) (f : EFrame) : Nat :=
  let d := (s.reg (Reg.spxEgr0 e)).bits 22 17
  match f.desc with
  | some w => if w.bit 22 then w.bits 21 16 else d
  | none => d

/-- Header length of template `t`: values above 112 act as 112. -/
def State.hlen (s : State) (t : Nat) : Nat := Nat.min ((s.reg (Reg.spxTmpl0 t)).bits 6 0) 112

/-- Payload bytes of a frame: LEN of its descriptor, or four per word. -/
def EFrame.len (f : EFrame) : Nat :=
  match f.desc with
  | some w => w.bits 13 0
  | none => 4 * f.words.length

/-- The bytes of the words of a frame, little-endian. -/
def EFrame.payload (f : EFrame) : List Byte :=
  let b := f.words.flatMap (fun w => leBytes w.data.toNat 4)
  let n := f.len
  b.take n ++ List.replicate (n - b.length) 0#8

/-- L3 form of a template; 3 acts as 0. -/
def tmplL3 (t0 : Word) : Nat := if t0.bits 9 8 = 3 then 0 else t0.bits 9 8

/-- Writes IPv4, IPv6 and UDP length and checksum fields into a frame without padding (R197). -/
def fillLengths (t0 : Word) (onestep : Bool) (b : List Byte) : List Byte :=
  let l3 := tmplL3 t0
  let o := t0.bits 17 11
  let tot := b.length
  let hdr := if l3 = 1 then (byteAt b o % 16) * 4 else 40
  let b := if l3 = 1 then putAt b (o + 2) (beBytes (tot - o) 2)
    else if l3 = 2 then putAt b (o + 4) (beBytes (tot - o - 40) 2) else b
  let b := if l3 = 1 then
      let b0 := putAt b (o + 10) [0#8, 0#8]
      putAt b0 (o + 10) (beBytes (65535 - sum16 ((b0.drop o).take hdr)) 2)
    else b
  if l3 != 0 && t0.bit 10 then
    let u := o + hdr
    let ulen := tot - u
    let b := putAt (putAt b (u + 4) (beBytes ulen 2)) (u + 6) [0#8, 0#8]
    if l3 = 1 && (!t0.bit 18 || onestep) then b
    else
      let addrs := if l3 = 1 then (b.drop (o + 12)).take 8 else (b.drop (o + 8)).take 32
      let c := 65535 - sum16 (addrs ++ beBytes 17 2 ++ beBytes ulen 2 ++ b.drop u)
      putAt b (u + 6) (beBytes (if c = 0 then 65535 else c) 2)
  else b

/-- The frame the framer builds for `f` under template `t`, without padding and FCS: header, payload and the filled
fields (R195, R197). `st` are the positions of EAXIS and TSAXIS and AXn_REV of TSAXIS at the SFD, `seq` the sequence
counter. -/
def State.buildFrame (s : State) (t : Nat) (f : EFrame) (st : Pos × Pos × Nat) (seq : Nat) : List Byte :=
  let t0 := s.reg (Reg.spxTmpl0 t)
  let t1 := s.reg (Reg.spxTmpl1 t)
  let h := ((List.range 28).flatMap (fun i => leBytes (s.reg (Reg.spxTmplW t (4 + i))).toNat 4)).take (s.hlen t)
  let b := h ++ f.payload
  let b := if t1.bit 7 then putAt b (t1.bits 6 0) (if t1.bit 8 then beBytes seq 4 else beBytes seq 2) else b
  let b := if t1.bit 16 then
      putAt b (t1.bits 15 9) (if t1.bit 17 then beBytes st.1.toNat 8 else leBytes st.1.toNat 8) else b
  let one := t0.bit 19 && tmplL3 t0 != 2
  let b := if one then
      let p := t1.bits 25 18
      let b := putAt b (p + 34) (beBytes st.2.2 6)
      let b := putAt b (p + 40) (beBytes (st.2.1.toNat / 65536) 4)
      putAt b (p + 8) (beBytes (beAt b (p + 8) 8 + st.2.1.toNat % 65536) 8)
    else b
  fillLengths t0 one b

/-- Whether a frame would exceed 9,216 bytes with its FCS. -/
def State.tooLong (s : State) (t : Nat) (f : EFrame) : Bool := decide (9212 < s.hlen t + f.len)

/-- A frame that ends with a complemented FCS for poison or length (R198). -/
def State.countPoison (s : State) (ch : Nat) : State := (s.bump (chA Reg.chTxPoison ch) 1).chEvent ch 0x20

/-- The egress timestamp of a two-step event frame enters the transmit FIFO (R195). -/
def State.pushTxTs (s : State) (ch : Nat) (b : List Byte) (p : Nat) (stamp : Pos) : State :=
  let m := s.mac ch
  let e : Ts := { seq := beAt b (p + 30) 2, mtype := byteAt b p % 16, dom := byteAt b (p + 4), stamp := stamp }
  if 16 ≤ m.txts.length then s.chEvent ch 0x40
  else
    let s' := s.setMac ch { m with txts := m.txts ++ [e] }
    if m.txts.isEmpty then s'.eventToken 5 ch (word ch) else s'

/-- The timestamp of a frame `b` of template `t` that is a two-step event frame (R195): a template that sets PTP1 with an
IPv6 header acts as PTP2. -/
def State.stampTwoStep (s : State) (ch t : Nat) (b : List Byte) (st : Pos × Pos × Nat) : State :=
  let t0 := s.reg (Reg.spxTmpl0 t)
  if t0.bit 20 || (t0.bit 19 && tmplL3 t0 == 2) then s.pushTxTs ch b ((s.reg (Reg.spxTmpl1 t)).bits 25 18) st.2.1 else s

/-- Sends a complete frame `f` of stream `e`, whose SFD left the MAC with positions `st`. -/
def State.sendFrame (s : State) (ch e : Nat) (f : EFrame) (st : Pos × Pos × Nat) : State :=
  let t := s.tmplOf e f
  let seq := s.str.tseq.get t 0
  let b := s.buildFrame t f st seq
  let s := { s with str.tseq := s.str.tseq.set t ((seq + 1) % 4294967296) 0 }
  let short := match f.desc with
    | some _ => decide (4 * f.words.length < f.len)
    | none => false
  let s := if short then s.bump (chA Reg.chTxLenerr ch) 1 else s
  let bad := f.poison || f.cut || s.tooLong t f || s.wordFails 9 (spbTemplate t)
  let s := if bad then s.countPoison ch else s
  (s.stampTwoStep ch t b st).wire ch (wireBytes b bad)

/-- Removes the oldest frame of stream `e`. -/
def State.popEgr (s : State) (e : Nat) : State := s.setEgr e ((s.egrOf e).drop 1)

/-- A frame of a tunnelled stream leaves through the Shaga engine when complete; the engine keeps it until it is packed
into SDAT packets (R252). -/
def EFrame.started (f : EFrame) : Bool := f.sfd.isSome

/-- A complete frame that has started on the wire is finished. -/
def State.finishStarted (s : State) (e : Nat) : State :=
  match s.egrOf e with
  | f :: _ =>
    match f.complete, f.sfd with
    | true, some st =>
      let ch := (s.reg (Reg.spxEgr0 e)).bits 16 12
      let s := (s.popEgr e).sendFrame ch e f st
      s.setMac ch { s.mac ch with onWire := none }
    | _, _ => s
  | [] => s

/-! ## Reassembly (R196) -/

/-- What a row leaves: the frame in reassembly, whether its data-last word, or a cut that no data-last word follows, has
come in this row, the words discarded after it, and whether words up to a data-last word are still discarded. -/
structure RowEnd where
  cur  : EFrame
  done : Bool := false
  pad  : Nat := 0
  skip : Bool := false

/-- One word of a row into the frame in reassembly; `hl` is the header length (R196 to R198). A frame without a descriptor
is cut at 9,216 bytes, and its words up to the data-last word are discarded; a poisoned frame ends there. Of a described
frame, whose length is LEN, only the words that 9,216 bytes can hold are kept (log 36). -/
def eatWord (hl : Nat) (r : RowEnd) (w : ChWord) : RowEnd :=
  if r.done then { r with pad := r.pad + 1 }
  else if r.skip then (if w.tag = 1 then { r with skip := false, done := true } else r)
  else
    let f := r.cur
    let f := if f.wantDesc then
        (if w.tag = 3 then { f with wantDesc := false, poison := true } else { f with wantDesc := false, desc := some w.data })
      else { f with words := if 9212 < hl + 4 * f.words.length then f.words else f.words ++ [w],
                    poison := f.poison || w.tag == 3 }
    let full := decide (9212 < hl + 4 * f.words.length)
    if w.tag = 1 then { r with cur := { f with complete := true }, done := true }
    else if full && f.poison then { r with cur := { f with complete := true, cut := true }, done := true }
    else if full && f.desc.isNone then { r with cur := { f with complete := true, cut := true }, skip := true }
    else { r with cur := f }

/-- Discards the markers at the heads of the ports of a stripe (R196). -/
def State.egrMarkers (s : State) (ports : List Nat) : State :=
  ports.foldl (fun s p =>
    let q := s.can.edgeOut.get p []
    let r := q.dropWhile (fun w => w.tag == 2)
    let n := q.length - r.length
    if n = 0 then s
    else (({ s with can.edgeOut := s.can.edgeOut.set p r [] }).bump Reg.spxEgrmark n).orReg Reg.spxStat 2) s

/-- Bytes buffered for a channel. -/
def State.egrBytes (s : State) (ch : Nat) : Nat :=
  (List.range 64).foldl (fun n e =>
    if (s.reg (Reg.spxEgr0 e)).bits 16 12 = ch then (s.egrOf e).foldl (fun n f => n + 4 * f.words.length) n else n) 0

/-- Stream `e` discards words up to a data-last word. -/
def State.skipOn (s : State) (e : Nat) : State := { s with str.skip := e :: s.str.skip.filter (· != e) }

/-- The frame `f` of stream `e` in reassembly cannot go on and leaves the frames `rest` (R199): a started one ends at once with a complemented
FCS and its two-step timestamp (R195); it is counted in TX_UNDER, and its remaining words are discarded (log 36). -/
def State.endFrame (s : State) (ch e : Nat) (f : EFrame) (rest : List EFrame) : State :=
  let s := ((s.setEgr e rest).skipOn e).bump (chA Reg.chTxUnder ch) 1
  match f.sfd with
  | none => s
  | some st =>
    let t := s.tmplOf e f
    let seq := s.str.tseq.get t 0
    let b := s.buildFrame t { f with desc := none } st seq
    let s := { s with str.tseq := s.str.tseq.set t ((seq + 1) % 4294967296) 0 }
    let s := ((s.stampTwoStep ch t b st).wire ch (wireBytes b true)).chEvent ch 0x10
    s.setMac ch { s.mac ch with onWire := none }

/-- A frame in reassembly whose ports' quadrant is fenced is discarded or, if started, ended (R199). -/
def State.purgeEgress (s : State) : State :=
  (List.range 64).foldl (fun s e =>
    let e0 := s.reg (Reg.spxEgr0 e)
    if s.stripeBlocked (e0.bits 7 1) (e0.bits 11 8 + 1) then
      match (s.egrOf e).getLast? with
      | some f => if f.complete then s else s.endFrame (e0.bits 16 12) e f (s.egrOf e).dropLast
      | none => s
    else s) s

/-- Meaning of EGRESS_ROW (R196). An uncorrectable stream entry acts as invalid (Table IN-1). -/
def egressRow (e : Nat) (s : State) : State :=
  let e0 := s.reg (Reg.spxEgr0 e)
  let b := e0.bits 7 1
  let n := e0.bits 11 8 + 1
  let ports := stripe b n
  let ch := e0.bits 16 12
  if !(s.released && e0.bit 0 && !s.wordFails 9 (spbEgress e) && oneEdge b n) || s.stripeBlocked b n then s
  else
    let s := s.egrMarkers ports
    if ports.any (fun p => (s.can.edgeOut.get p []).isEmpty) || decide (32768 < s.egrBytes ch + 4 * n) then s
    else
      let ws := ports.filterMap (fun p => (s.can.edgeOut.get p []).head?)
      let s := ports.foldl (fun s p => { s with can.edgeOut := s.can.edgeOut.set p ((s.can.edgeOut.get p []).drop 1) [] }) s
      let q := s.egrOf e
      let fresh : EFrame := { wantDesc := e0.bit 23 }
      let (pre, cur) := match q.getLast? with
        | some f => if f.complete then (q, fresh) else (q.dropLast, f)
        | none => (q, fresh)
      let skip := s.str.skip.contains e
      let r := ws.foldl (eatWord (s.hlen (s.tmplOf e cur))) { cur := cur, skip := skip }
      let s := if skip && r.cur == cur then s else s.setEgr e (pre ++ [r.cur])
      let s := { s with str.skip := if r.skip then (if skip then s.str.skip else e :: s.str.skip) else s.str.skip.filter (· != e) }
      let s := if r.pad = 0 then s else (s.bump Reg.spxEgrpad r.pad).orReg Reg.spxStat 4
      s.finishStarted e

/-! ## Transmission (R199, R200) -/

/-- Whether the next frame of stream `e` may start. -/
def State.mayStart (s : State) (ch e : Nat) : Bool :=
  let e0 := s.reg (Reg.spxEgr0 e)
  let st := (s.reg (Reg.spxEgr1 e)).bits 13 0
  e0.bit 0 && !s.wordFails 9 (spbEgress e) && e0.bits 16 12 == ch && (s.tunnelOf e).isNone && !Nat.testBit (s.mac ch).hold (e0.bits 26 24)
    && (match s.egrOf e with
        | [] => false
        | f :: _ =>
          let t0 := s.reg (Reg.spxTmpl0 (s.tmplOf e f))
          f.complete || (st != 0 && !f.wantDesc && decide (st ≤ 4 * f.words.length) && !t0.bit 18
            && !(tmplL3 t0 == 2 && t0.bit 10)))

/-- Positions of EAXIS and TSAXIS at the SFD, the latter with CHk_TXCORR, and AXn_REV of TSAXIS (R195, R197). -/
def State.sfdStamp (s : State) (ch t : Nat) : Pos × Pos × Nat :=
  let t0 := s.reg (Reg.spxTmpl0 t)
  let ts := t0.bits 28 25
  (s.axPos (t0.bits 24 21), s.stampOn ts (s.axPos ts) (s.reg (chA Reg.chTxcorr ch)), (s.reg (Reg.axRev ts)).toNat)

/-- Meaning of FRAME_TX_START (R199): the next frame of the channel, round-robin by stream index. -/
def frameTxStart (ch : Nat) (s : State) : State :=
  if !s.chRuns ch || (s.mac ch).onWire.isSome then s
  else
    let l := (s.mac ch).lastE
    let order := (List.range 64).filter (fun e => decide (l < e)) ++ (List.range 64).filter (fun e => decide (e ≤ l))
    match order.find? (s.mayStart ch) with
    | none => s
    | some e =>
      match s.egrOf e with
      | [] => s
      | f :: r =>
        let st := s.sfdStamp ch (s.tmplOf e f)
        let s := s.bump (chA Reg.chTxFrames ch) 1
        let s := s.setMac ch { s.mac ch with lastE := e, onWire := some e }
        let s := s.setEgr e ({ f with sfd := some st } :: r)
        s.finishStarted e

/-- Meaning of TX_UNDER (R199): a started frame whose buffer runs empty. -/
def txUnder (ch : Nat) (s : State) : State :=
  match (s.mac ch).onWire with
  | none => s
  | some e =>
    match s.egrOf e with
    | f :: r => if !f.complete && f.started then s.endFrame ch e f r else s
    | [] => s

end Sys2Proof.Machine
end

