-- ==== Sys2Proof/Machine/Memory.lean ====
section
/-! DEFINITION. Sys2Proof/Machine/Memory.lean: the stacks, their repair and power, the position tables, their ports and
their aperture (10_memory_tables.md). -/
namespace Sys2Proof.Machine

/-! ## Sectors (R203 to R206) -/

/-- Stack that holds global address `a` (Table MT-1). -/
def stackOf (a : Nat) : Nat := a / 0x400000000

/-- Pseudo-channel of global address `a` (R203). -/
def pchanOf (a : Nat) : Nat := a / 256 % 32

/-- The canonical form of the stacks' memory: keys strictly rise, and no word and no sector listed is as an unlisted one
reads (log 11). -/
def Mem.wf (m : Mem) : Bool := m.words.wf (fun _ => 0#32) && m.sects.wf (fun _ => Ecc.ok)

def State.sect (s : State) (k : Nat) : Ecc := s.mem.sects.get k .ok
def State.setSect (s : State) (k : Nat) (e : Ecc) : State := { s with mem.sects := s.mem.sects.set k e .ok }
def State.memWord (s : State) (i : Nat) : Word := s.mem.words.get i 0#32
def State.setMemWord (s : State) (i : Nat) (v : Word) : State := { s with mem.words := s.mem.words.set i v 0#32 }

/-- The eight words of sector `k`. -/
def State.sectWords (s : State) (k : Nat) : List Word := (List.range 8).map (fun i => s.memWord (8 * k + i))

/-- Stores the words `ws` from word index `i` on. -/
def State.putWords (s : State) (i : Nat) (ws : List Word) : State :=
  (ws.zip (List.range ws.length)).foldl (fun s p => s.setMemWord (i + p.2) p.1) s

/-- Determines a sector of a stack that lost its contents: uncorrectable, or correct with words nothing states
(Table MT-2, log 8). -/
def State.settleSect (s : State) (k : Nat) : State :=
  if s.mem.raw.contains (stackOf (32 * k)) && !(s.mem.known.get k false) then
    let s := { s with mem.known := s.mem.known.set k true false }
    let (c, s) := s.freeChoice 2
    if c = 0 then s.setSect k .uncorrectable
    else (List.range 8).foldl (fun s i => let (w, s) := s.freeWord; s.setMemWord (8 * k + i) w) s
  else s

/-- A read of sector `k` (R205): whether its words are delivered as data. -/
def State.readSect (s : State) (k : Nat) : Bool × State :=
  let s := s.settleSect k
  let st := stackOf (32 * k)
  match s.sect k with
  | .ok => (true, s)
  | .correctable => (true, ((s.setSect k .ok).bump (Reg.memCecnt st) 1).eccCorrected 2 k)
  | .poison => (false, s)
  | _ =>
    let s := (s.setSect k .poison).bump (Reg.memUecnt st) 1
    let s := s.setReg (Reg.memUeaddrLo st) (word (32 * k))
    let s := s.setReg (Reg.memUeaddrHi st) (word (0x80000000 + 32 * k / 4294967296))
    (false, (s.eccUncorrectable 2).report 0x07 (0x1600 + st))

/-- A write of the whole sector `k` (R206), which MEMs_INJ may spoil (Table MT-3). -/
def State.writeSect (s : State) (k : Nat) (ws : List Word) : State :=
  let st := stackOf (32 * k)
  let s := if s.mem.raw.contains st then { s with mem.known := s.mem.known.set k true false } else s
  let s := s.putWords (8 * k) ws
  let inj := s.reg (Reg.memInj st)
  if inj.bit 0 then
    (s.setSect k (if inj.bit 1 then .uncorrectable else .correctable)).clrReg (Reg.memInj st) 1
  else s.setSect k .ok

/-- A partial write to sector `k` (R206): `f` merges the words; `false` when it is refused. -/
def State.mergeSect (s : State) (k : Nat) (f : State → State) : Bool × State :=
  let s := s.settleSect k
  match s.sect k with
  | .ok => (true, f s)
  | .correctable =>
    (true, (f (s.setSect k .ok)).bump (Reg.memCecnt (stackOf (32 * k))) 1 |>.eccCorrected 2 k)
  | _ => (false, s)

/-- What an access to global address `a` of the stacks meets before it is performed. -/
inductive StackGate where
  | go
  | absent
  | fenced
  | wait
  | busy
  deriving DecidableEq, Repr

def State.stackGate (s : State) (a : Nat) : StackGate :=
  let st := stackOf a
  if !s.hasStack st then .absent
  else if s.domFenced (8 + st) then .fenced
  else if s.mem.phase.get st 0 != 4 then .wait
  else match s.mem.ppr.get st none with
    | some (p, _) => if pchanOf p = pchanOf a then .busy else .go
    | none => .go

/-- Answers an access that the stack does not perform (R4, R27, R30, R207). One that would wait for the stack has reached the
end of R27 (log 62). -/
def State.gateAnswer (s : State) : StackGate → State
  | .absent => s.absent
  | .fenced => s.respond 2 0#32
  | .wait => s.respond 4 0#32
  | .busy => s.err
  | .go => s

/-- A window read of the word at global address `a` (R205). -/
def stackRead (a : Nat) (s : State) : State :=
  match s.stackGate a with
  | .go =>
    let (ok, s) := s.readSect (a / 32)
    if ok then s.ok (s.memWord (a / 4)) else s.err
  | g => s.gateAnswer g

/-- A window write of the word at global address `a` (R206). -/
def stackWrite (a : Nat) (d : Word) (s : State) : State :=
  match s.stackGate a with
  | .go =>
    let (ok, s) := s.mergeSect (a / 32) (fun s => s.setMemWord (a / 4) d)
    if ok then s.ok else s.err
  | g => s.gateAnswer g

/-! ## Start, repair, power and temperature (R204, R207 to R209) -/

def State.setPhase (s : State) (st n : Nat) : State := { s with mem.phase := s.mem.phase.set st n 0 }

/-- The contents of stack `st` are gone. -/
def State.wipeStack (s : State) (st : Nat) : State :=
  { s with
    mem.words := s.mem.words.filter (fun p => stackOf (4 * p.1) != st)
    mem.sects := s.mem.sects.filter (fun p => stackOf (32 * p.1) != st)
    mem.known := s.mem.known.filter (fun p => stackOf (32 * p.1) != st)
    mem.raw := s.mem.raw.filter (· != st) }

/-- Meaning of STACK_TRAINING_DONE (R204, R208). -/
def stackTrainingDone (st : Nat) (ok : Bool) (s : State) : State :=
  let ph := s.mem.phase.get st 0
  if !s.hasStack st || decide (3 ≤ ph) || s.regF (Reg.pwrDomctl (8 + st)) 3 2 = 0 then s
  else if ok then
    let s := (s.orReg (Reg.memStat st) 1).setRegF (Reg.memStat st) 3 2 0
    if ph = 2 then (s.wipeStack st).setPhase st 4 |> fun s => { s with mem.raw := st :: s.mem.raw }
    else s.setPhase st 3
  else ((s.orReg (Reg.memStat st) 2).setRegF (Reg.memStat st) 3 2 2).setPhase st 4

/-- Meaning of ZDONE (R204): every sector holds zeros and valid check symbols. -/
def zdone (st : Nat) (s : State) : State :=
  if s.mem.phase.get st 0 = 3 then ((s.wipeStack st).orReg (Reg.memStat st) 0x10).setPhase st 4 else s

/-- Meaning of SECTOR_CLEAR, the write of MEM_SCLR_HI (R206). A stack that waits for its zero initialisation gets its zeros
from that (R204). -/
def sectorClear (d : Word) (s : State) : State :=
  let s := s.ok.plainWrite Reg.memSclrHi d
  let a := (d.bits 2 0 * 4294967296 + (s.reg Reg.memSclrLo).toNat) / 32 * 32
  match s.stackGate a with
  | .go => s.writeSect (a / 32) (List.replicate 8 0#32)
  | .wait => s
  | g => s.gateAnswer g

/-- Whether sectors `j` and `k` lie in one row (R207). -/
def sameRow (j k : Nat) : Bool :=
  stackOf (32 * j) == stackOf (32 * k) && pchanOf (32 * j) == pchanOf (32 * k)
    && Config.stackRow j == Config.stackRow k

/-- Meaning of PPR_GO, a write of MEMs_PPR_CMD with GO = 1 (R207) (log 39). -/
def pprGo (st : Nat) (hard : Bool) (s : State) : State :=
  if !s.hasStack st then s.absent
  else
    let s := s.ok.setReg (Reg.memPprCmd st) (Word.flag hard 1)
    if (s.mem.ppr.get st none).isSome then s
    else
      let a := s.regF (Reg.memPprHi st) 2 0 * 4294967296 + (s.reg (Reg.memPprLo st)).toNat
      let s := s.clrReg (Reg.memPprStat st) 0xE
      if stackOf a = st then
        { (s.orReg (Reg.memPprStat st) 1) with mem.ppr := s.mem.ppr.set st (some (a, hard)) none }
      else s.orReg (Reg.memPprStat st) 4

/-- The row that holds address `a` is read and written back: correctable sectors corrected, uncorrectable ones
poisoned (R207). -/
def State.repairRow (s : State) (a : Nat) : State :=
  ((s.mem.sects.map (·.1)).filter (fun k => sameRow k (a / 32))).foldl (fun s k => (s.readSect k).2) s

/-- Meaning of PPR_DONE (R207, R297); `spare` says whether a spare row remained. -/
def pprDone (st : Nat) (spare : Bool) (s : State) : State :=
  match s.mem.ppr.get st none with
  | none => s
  | some (a, _) =>
    let s := { s with mem.ppr := s.mem.ppr.set st none none }
    let s := if spare then s.repairRow a else s
    let s := s.setReg (Reg.memPprStat st) (s.reg (Reg.memPprStat st) &&& 0xFFFFFFFE#32 ||| (if spare then 2#32 else 0xE#32))
    s.eventToken 3 st (word (st + (if spare then 2 else 0xE)))

/-- Meaning of STACK_POWER_REQUEST, a write of MEMs_PWR (R208): a lower state needs the handshake of R30 to be complete, a
higher one the fence (log 39). A repair in progress ends with the power. -/
def stackPowerRequest (st : Nat) (d : Word) (s : State) : State :=
  if !s.hasStack st then s.absent
  else
    let req := if d.bits 1 0 = 3 then 0 else d.bits 1 0
    let cur := s.regF (Reg.memStat st) 3 2
    let ph := s.mem.phase.get st 0
    let target := if cur = 2 && decide (ph < 3) then 0 else cur
    if req = target then s.ok.plainWrite (Reg.memPwr st) d
    else if (if target < req then !s.regB Reg.nocFack (8 + st) else !s.domFenced (8 + st)) then s.err
    else
      let s := s.ok.plainWrite (Reg.memPwr st) d
      let set (s : State) (n : Nat) : State := s.setRegF (Reg.memStat st) 3 2 n
      if req = 2 then
        let s := { (s.wipeStack st) with mem.ppr := s.mem.ppr.set st none none }
        (((set s 2).clrReg (Reg.memStat st) 0x13).clrReg (Reg.memPprStat st) 1).setPhase st 4
      else if req = 1 then set s 1
      else if s.regB (Reg.memStat st) 0 then set s 0
      else s.setPhase st (if d.bit 2 then 1 else 2)

/-- Meaning of STACK_THERMAL (R209). -/
def stackThermal (st : Nat) (temp : BitVec 8) (s : State) : State :=
  if !s.hasStack st then s
  else
    let t := temp.toInt
    let s := s.setReg (Reg.memTemp st) (temp.setWidth 32)
    let two (s : State) (m : Nat) (lim : Int) : State :=
      if lim < t then s.orReg (Reg.memStat st) m else if t ≤ lim - 3 then s.clrReg (Reg.memStat st) m else s
    two (two s 0x20 85) 0x40 95

/-! ## Descriptors (R210, R211) -/

def State.tD (s : State) (t w : Nat) : Word := s.reg (Reg.tblD t w)
def State.tV (s : State) (t : Nat) : Bool := (s.tD t 0).bit 0
def State.tMode (s : State) (t : Nat) : Nat := (s.tD t 0).bits 2 1
def State.tSize (s : State) (t : Nat) : Nat := 8 * 2 ^ (s.tD t 0).bits 4 3
def State.tDgen (s : State) (t : Nat) : Bool := (s.tD t 0).bit 5
def State.tCount (s : State) (t : Nat) : Nat := (s.tD t 1).bits 23 0 + 1
def State.tKeyw (s : State) (t : Nat) : Nat := (s.tD t 0).bits 11 10 + 1
def State.tBase (s : State) (t g : Nat) : Nat := 64 * (s.tD t (2 + g)).bits 28 0
def State.tOrg (s : State) (t g : Nat) : Pos := BitVec.append (s.tD t (5 + 2 * g)) (s.tD t (4 + 2 * g))

/-- The active generation of table `t`; 0 when DGEN = 0 (R211). -/
def State.tActive (s : State) (t : Nat) : Nat :=
  if s.tDgen t && s.regB (Reg.tblActiveLo (t / 32)) (t % 32) then 1 else 0

/-- The standby generation; generation 0 when DGEN = 0 (Table MT-5). -/
def State.tStandby (s : State) (t : Nat) : Nat := if s.tDgen t then 1 - s.tActive t else 0

/-- The generation lies wholly within present stacks (R211). -/
def State.genFits (s : State) (base size : Nat) : Bool :=
  decide (base + size ≤ 0x800000000) && s.hasStack (stackOf base) && s.hasStack (stackOf (base + size - 1))

/-- The checks on a write that sets V (R211), with the D0 written. -/
def State.tValid (s : State) (t : Nat) (d : Word) : Bool :=
  let size := 8 * 2 ^ d.bits 4 3
  let n := s.tCount t
  d.bits 2 1 != 3
    && (d.bits 2 1 != 2 || (n % 4 == 0 && decide (d.bits 11 10 + 1 ≤ size / 4 - 1)))
    && s.genFits (s.tBase t 0) (n * size)
    && (!d.bit 5 || s.genFits (s.tBase t 1) (n * size))

/-- A refused descriptor write (R211). -/
def State.tRefuse (s : State) : State := (s.err.bump Reg.tblCfgref 1).orReg Reg.tblStat 2

/-- The write of descriptor word `w` of table `t` (R211). -/
def State.putDesc (s : State) (t w : Nat) (d : Word) : State :=
  let v := s.tV t
  let put (s : State) : State := s.ok.plainWrite (Reg.tblD t w) d
  if w = 0 then
    if v && d.bit 0 then s.tRefuse
    else if d.bit 0 && !s.tValid t d then s.tRefuse
    else put s
  else if w = 4 ∨ w = 6 then
    if v && s.tActive t == (w - 4) / 2 then s.tRefuse
    else { s.ok with tbl.orgLatch := s.tbl.orgLatch.set (2 * t + (w - 4) / 2) d 0#32 }
  else if w = 5 ∨ w = 7 then
    let g := (w - 5) / 2
    if v && s.tActive t == g then s.tRefuse
    else (put s).setReg (Reg.tblD t (w - 1)) (s.tbl.orgLatch.get (2 * t + g) 0#32)
  else if v && (decide (w < 4) || w == 8 || w == 9) then s.tRefuse
  else put s

/-- Meaning of DESCRIPTOR_WRITE (R211). -/
def descriptorWrite (t w : Nat) (d : Word) (s : State) : State :=
  if !s.released then s.err else if !s.hasTable then s.absent else s.putDesc t w d

/-! ## Lookups (R212 to R219) -/

/-- CRC-32C with initial register `init` (R214). -/
def crc32cFrom (init : Nat) (l : List Byte) : Nat := (l.foldl (crcByte 0x82F63B78) init) ^^^ 0xFFFFFFFF

def wordBytes (w : Word) : List Byte := leBytes w.toNat 4

/-- Index of a position-indexed lookup (R213). -/
def posIndex (m : Nat) (pos org : Pos) (scale count : Nat) : Nat :=
  let d : Int :=
    if m = 0 then (pos - org).toInt else (pos.toInt - org.toInt) % ((m * 65536 : Nat) : Int)
  ((d * scale / 4294967296) % (count : Int)).toNat

/-- The four candidate entries of a cuckoo lookup (R214). -/
def cuckooSlots (seed : Word) (count : Nat) (key : List Word) : List Nat :=
  (List.range 4).map (fun i =>
    let si := seed.toNat ^^^ (i * 0x9E3779B9 % 4294967296)
    i * (count / 4) + crc32cFrom si (key.flatMap wordBytes) % (count / 4))

/-- The response header of Table MT-6. -/
def respHeader (index status gen : Nat) : Word := word (index % 16777216 + status * 16777216 + gen * 268435456)

/-- Position of axis `n` at step 6 of the last EKL cycle that has ended (R216). -/
def State.closedPos (s : State) (n : Nat) : Pos := if (s.axis n).opened then (s.axis n).prev else s.axPos n

/-- The response to a lookup (R217): status, index, generation and, for OK, the entry words. -/
def mkResp (size index status gen : Nat) (ws : List Word) : List ChWord :=
  let n := size / 4
  let poison := status = 5 ∨ status = 7
  { data := respHeader index status gen, tag := 0 } ::
    (List.range n).map (fun i =>
      { data := if status = 0 then ws.getD i 0#32 else 0#32
        tag := if i + 1 = n then (if poison then 3 else 1) else if poison then 3 else 0 })

/-- Reads an entry: its words when every sector of it is delivered (R205). -/
def State.readEntry (s : State) (addr size : Nat) : Option (List Word) × State :=
  let ks := (List.range ((addr % 32 + size + 31) / 32)).map (addr / 32 + ·)
  let (ok, s) := ks.foldl (fun (p : Bool × State) k => let (b, s) := p.2.readSect k; (p.1 && b, s)) (true, s)
  (if ok then some ((List.range (size / 4)).map (fun i => s.memWord (addr / 4 + i))) else none, s)

/-- Counts an answered lookup of a given status (Table MT-8). -/
def State.countLookup (s : State) (status : Nat) : State :=
  let s := { s with tbl.lkp := s.tbl.lkp + 1 }
  if status = 1 then s.bump Reg.tblMiss 1
  else if status = 5 then (s.bump Reg.tblUe 1).orReg Reg.tblStat 0x10
  else if status = 6 then (s.bump Reg.tblFmt 1).orReg Reg.tblStat 8
  else s

/-- Reads entries in order until one decides the lookup: the index, the status and the words. `key` empty takes the
first entry (log 38). -/
def State.probe (s : State) (base size : Nat) (key : List Word) : List Nat → Option (Nat × Nat × List Word) × State
  | [] => (none, s)
  | b :: bs =>
    let (r, s) := s.readEntry (base + b * size) size
    let (later, s) := s.probe base size key bs
    match r with
    | none => (some (b, 5, []), s)
    | some ws =>
      if ws.take key.length = key && !(decide (key ≠ []) && key.all (· == 0xFFFFFFFF#32)) then (some (b, 0, ws), s)
      else (later, s)

/-- The answer to a well-formed request (R212 to R217), or none while the stack cannot yet be accessed (R204) (log 38). -/
def State.tblAnswer (s : State) (hdr : Word) (ops : List Word) : Option (List ChWord × State) :=
  let t := hdr.bits 5 0
  let size := s.tSize t
  let g := if hdr.bit 7 then s.tStandby t else s.tActive t
  let base := s.tBase t g
  let n := s.tCount t
  let op := ops.getD 0 0#32
  let mode := s.tMode t
  let fin (s : State) (i st : Nat) (ws : List Word) : Option (List ChWord × State) :=
    some (mkResp size i st g ws, s.countLookup st)
  if mode = 0 ∧ (n ≤ op.bits 23 0 ∨ op.bits 31 24 ≠ 0) then fin s 0 2 []
  else
    let ax := (s.tD t 0).bits 9 6
    let pos : Pos := if hdr.bit 6 then s.closedPos ax else BitVec.append (ops.getD 1 0#32) op
    let slots :=
      if mode = 0 then [op.bits 23 0]
      else if mode = 1 then
        [posIndex (s.reg (Reg.axMod ax)).toNat pos (s.tOrg t g) (s.tD t 8).toNat n]
      else cuckooSlots (s.tD t 9) n ops
    let idx := if mode = 2 then 0 else slots.getD 0 0
    let lies := [base, base + n * size - 1].map s.stackGate
    let needs := slots.map (fun b => s.stackGate (base + b * size))
    if lies.any (fun q => q == .fenced || q == .absent) then fin s idx 4 []
    else if needs.contains .wait then none
    else if needs.contains .busy then fin s idx 8 []
    else
      let (r, s) := s.probe base size (if mode = 2 then ops else []) slots
      match r with
      | some (b, st, ws) => fin s b st ws
      | none => fin s (slots.getD 0 0) 1 []

/-- Words of the operand part of a well-formed request (Table MT-5, R216); none for a request that is never well
formed. -/
def State.operandCount (s : State) (hdr : Word) : Option Nat :=
  let t := hdr.bits 5 0
  match s.tMode t with
  | 0 => if hdr.bit 6 then none else some 1
  | 1 => some (if hdr.bit 6 then 0 else 2)
  | _ => if hdr.bit 6 then none else some (s.tKeyw t)

/-- The answer to a collected request. `formed` is false when a marker or the fifth word ended it (log 38). -/
def State.answerRequest (s : State) (ws : List ChWord) (formed : Bool) : Option (List ChWord × State) :=
  let hdr : Word := (ws.head?.map (·.data)).getD 0#32
  let headBad := (ws.head?.map (·.tag)) == some 3
  let t := hdr.bits 5 0
  let valid := s.tV t && !headBad
  let size := if valid then s.tSize t else 8
  let fin (st : Nat) : Option (List ChWord × State) := some (mkResp size 0 st 0 [], s.countLookup st)
  if !formed then fin 6
  else if ws.any (fun w => w.tag == 3) then fin 7
  else if !valid then fin 3
  else if s.operandCount hdr != some (ws.length - 1) then fin 6
  else s.tblAnswer hdr (ws.drop 1 |>.map (·.data))

def State.tport (s : State) (p : Nat) : TPort := s.tbl.ports.get p {}
def State.setTport (s : State) (p : Nat) (v : TPort) : State := { s with tbl.ports := s.tbl.ports.set p v {} }
def TPort.outst (x : TPort) : Nat := (x.queue.filter (·.isResp)).length

/-- Takes one word at table port `p` (R216, R218). -/
def State.takeWord (s : State) (p : Nat) (w : ChWord) : Option State :=
  let x := s.tport p
  let reply (s : State) (ws : List ChWord) (formed skip : Bool) (mark : List ChWord) : Option State :=
    match s.answerRequest ws formed with
    | none => none
    | some (r, s) =>
      some (s.setTport p { got := [], skip := skip, queue := x.queue ++ [{ words := r, isResp := true }]
        ++ (if mark.isEmpty then [] else [{ words := mark, isResp := false }]) })
  if w.tag = 2 then
    if x.got.isEmpty then some (s.setTport p { x with queue := x.queue ++ [{ words := [w], isResp := false }] })
    else reply s x.got false false [w]
  else if x.skip then some (s.setTport p { x with skip := w.tag != 1 })
  else
    let got := x.got ++ [w]
    if w.tag = 1 then reply s got true false []
    else if got.length = 5 then reply s got false true []
    else some (s.setTport p { x with got := got })

/-- Meaning of TABLE_REQUEST (R216): table port `p` takes the words that wait, up to the end of a request (log 38). -/
def tableRequest (p : Nat) (s : State) : State :=
  let step (s : State) : State × Bool :=
    match s.can.tblOut.get p [] with
    | [] => (s, true)
    | w :: ws =>
      if !s.hasTable || decide (64 ≤ (s.tport p).outst) then (s, true)
      else match s.takeWord p w with
        | none => (s, true)
        | some s' =>
          let n := (s.tport p).queue.length
          ({ s' with can.tblOut := s'.can.tblOut.set p ws [] }, decide (n < (s'.tport p).queue.length))
  let (s, stop) := step s
  if stop then s else (step s).1

/-- Tile and input that receive the responses of table port `p` (Table RT-5). -/
def tableTile (p : Nat) : Nat × Nat := if p < 32 then (2 * p + 1, 2) else (63 * 64 + 2 * (p - 32) + 1, 0)

/-- Meaning of TABLE_RESPONSE (R217, R218): the next word of the answers of port `p` goes to its tile, or the answer is
discarded when the quadrant is fenced (log 38). -/
def tableResponse (p : Nat) (s : State) : State :=
  let (t, i) := tableTile p
  let x := s.tport p
  match x.queue with
  | [] => s
  | a :: rest =>
    if s.domFenced (quadOf t) then s.setTport p { x with queue := rest }
    else
      match a.words with
      | [] => s.setTport p { x with queue := rest }
      | w :: ws =>
        if s.heldOf t == some true || decide ((s.tile t).load i < 2) then
          let q := if ws.isEmpty then rest else { a with words := ws } :: rest
          (s.setTport p { x with queue := q }).arrive t i w
        else s

/-! ## Swaps (R26, R220) -/

/-- A swap of table `t` reaches the engine; one that follows another of the same table in one cycle adds nothing (R220)
(log 61). -/
def State.swap (s : State) (t : Nat) : State :=
  let again := s.tbl.swapped.get t 0 == s.cyc + 1
  let s := { s with tbl.swapped := s.tbl.swapped.set t (s.cyc + 1) 0 }
  if again then s
  else if s.tV t && s.tDgen t then
    let a := Reg.tblActiveLo (t / 32)
    let s := s.setReg a (s.reg a ^^^ word (2 ^ (t % 32)))
    s.eventToken 1 t (word (t + 256 * s.tActive t))
  else
    ((s.bump Reg.tblSwapdrop 1).orReg Reg.tblStat 1).eventToken 2 t (word t)

/-- Meaning of TABLE_SWAP (R220): the oldest swap in flight reaches the engine. -/
def tableSwap (s : State) : State :=
  match s.tbl.swaps with
  | [] => s
  | t :: ts => if s.hasTable then { s with tbl.swaps := ts }.swap t else { s with tbl.swaps := ts }

/-- Meaning of TBL_SWAP, a write of that register (R220). -/
def tblSwap (t : Nat) (s : State) : State :=
  if !s.released then s.err else if !s.hasTable then s.absent else s.ok.swap t

/-! ## The table aperture (R221) -/

/-- The network interface that injects the accesses of a path (Table NC-1). -/
def pathNi : Path → Nat
  | .cond c => 36 + c.val / 4
  | .shaga => 34
  | .loader => 43
  | .ni n => n.val
  | _ => 42

/-- A discarded collection (R221). -/
def State.dropColl (s : State) (c : Collect) : State :=
  ({ s with tbl.colls := s.tbl.colls.erase c }.bump Reg.tblAwdrop 1).orReg Reg.tblStat 4

/-- Discards the oldest open collection of NI `ni`, whatever its device. -/
def State.dropAny (s : State) (ni : Nat) : State :=
  match s.tbl.colls.find? (fun c => c.ni == ni) with
  | some c => s.dropColl c
  | none => s

/-- Discards the open collection of an initiator, if it has one. -/
def State.dropOpen (s : State) (ni dev : Nat) : State :=
  match s.tbl.colls.find? (fun c => c.ni == ni && c.dev == dev) with
  | some c => s.dropColl c
  | none => s

/-- Writes a whole entry of generation `g` (R206, R221): `false` when a merge is refused. -/
def State.writeEntry (s : State) (t g e : Nat) (ws : List Word) : Bool × State :=
  let size := s.tSize t
  let addr := s.tBase t g + e * size
  if size < 32 then s.mergeSect (addr / 32) (fun s => s.putWords (addr / 4) ws)
  else
    (true, (List.range (size / 32)).foldl (fun s i =>
      s.writeSect (addr / 32 + i) ((ws.drop (8 * i)).take 8)) s)

/-- An aperture access outside COUNT·ESIZE (R221) (log 39). -/
def State.apBad (s : State) : State := s.err.bump Reg.tblAwdrop 1

/-- An aperture write by initiator (`ni`, `dev`) (log 39). -/
def State.apWrite (s : State) (ni dev a : Nat) (d : Word) : State :=
  let t := a / 0x40000000
  let b := a % 0x40000000
  let size := s.tSize t
  if !s.hasTable then s.absent
  else if a % 4 ≠ 0 ∨ s.tCount t * size ≤ b then s.apBad
  else
    let e := b / size
    let w := b % size / 4
    let g := s.tStandby t
    match s.stackGate (s.tBase t g + e * size) with
    | .go =>
      let cur := s.tbl.colls.find? (fun c => c.ni == ni && c.dev == dev)
      if w = 0 then
        let s := s.dropOpen ni dev
        let s := if 8 ≤ s.tbl.colls.length then (match s.tbl.colls with | c :: _ => s.dropColl c | [] => s) else s
        { s.ok with tbl.colls := s.tbl.colls ++ [{ ni := ni, dev := dev, table := t, entry := e, words := [d] }] }
      else
        match cur with
        | none => s.err
        | some c =>
          if c.table = t ∧ c.entry = e ∧ c.words.length = w then
            let ws := c.words ++ [d]
            if ws.length = size / 4 then
              let s := { s with tbl.colls := s.tbl.colls.erase c }
              let (ok, s) := s.writeEntry t g e ws
              if ok then s.ok else (s.err.bump Reg.tblUe 1).orReg Reg.tblStat 0x10
            else { s.ok with tbl.colls := s.tbl.colls.map (fun x => if x = c then { c with words := ws } else x) }
          else (s.dropColl c).err
    | q => s.gateAnswer q

/-- An aperture read (R221). -/
def State.apRead (s : State) (a : Nat) : State :=
  let t := a / 0x40000000
  let b := a % 0x40000000
  if !s.hasTable then s.absent
  else if a % 4 ≠ 0 ∨ s.tCount t * s.tSize t ≤ b then s.apBad
  else stackRead (s.tBase t (s.tStandby t) + b) s

/-- Meaning of APERTURE_WRITE (R221): a write at global address `addr`. An address outside the aperture gets an error. -/
def apertureWrite (ini : Path) (addr : BitVec 48) (d : Word) (s : State) : State :=
  if !s.released then s.err
  else if addr.toNat / 0x1000000000 = 0x80 then s.apWrite (pathNi ini) 0 (addr.toNat % 0x1000000000) d
  else s.err

/-- Meaning of COLLECTION_TIMEOUT (R221): 10 µs without an append; of the devices that share NI 34 it is the one that opened
first (log 15, 39). -/
def collectionTimeout (ini : Path) (s : State) : State := s.dropAny (pathNi ini)

/-- TBL_LKP_LO as read: the counter clears and its high half is latched (R202, Table MT-8). -/
def lkpLoRead (s : State) : State :=
  let n := s.tbl.lkp
  { s with tbl.lkp := 0, tbl.lkpHi := word (n / 4294967296) }.ok (word n)

/-- TBL_PORTp as read. -/
def State.tblPortRead (s : State) (p : Nat) : Word := word (s.tport p).outst

end Sys2Proof.Machine
end

