-- ==== Sys2Proof/Machine/Noc.lean ====
section
/-! DEFINITION. Sys2Proof/Machine/Noc.lean: the on-chip network: headers, routes, injection regulators, routers,
breaches, statistics and router reconfiguration (11_noc.md). -/
namespace Sys2Proof.Machine

/-! ## Headers (Tables NC-2, NC-3) -/

def Packet.f (pk : Packet) (hi lo : Nat) : Nat := bitsOf pk.hdr.toNat hi lo
def Packet.route (pk : Packet) : Nat := Packet.f pk 29 0
def Packet.tc (pk : Packet) : Nat := Packet.f pk 31 30
def Packet.src (pk : Packet) : Nat := Packet.f pk 37 32
def Packet.tag (pk : Packet) : Nat := Packet.f pk 43 38
def Packet.opc (pk : Packet) : Nat := Packet.f pk 47 44
def Packet.conf (pk : Packet) : Bool := pk.hdr.getLsbD 61

/-- Flits of the packet (R224). -/
def Packet.flits (pk : Packet) : Nat :=
  match pk.lay with
  | .c => 1
  | .d => Packet.f pk 49 48 + 1

/-- STATUS of a response (Table NC-2). -/
def Packet.status (pk : Packet) : Nat :=
  match pk.lay with
  | .c => Packet.f pk 50 48
  | .d => Packet.f pk 60 58

/-- Replaces a header field. -/
def hdrPut (h : BitVec 64) (hi lo v : Nat) : BitVec 64 :=
  let n := h.toNat
  BitVec.ofNat 64 (n - (bitsOf n hi lo) * 2 ^ lo + (v % 2 ^ (hi + 1 - lo)) * 2 ^ lo)

/-- Kinds of packet (Table NC-3). -/
inductive Kind where
  | request
  | posted
  | response
  | internal
  | reserved
  deriving DecidableEq, Repr

def opKind : Layer → Nat → Kind
  | .c, 1 => .request
  | .c, 2 => .request
  | .c, 3 => .posted
  | .c, 4 => .posted
  | .c, 5 => .posted
  | .c, 6 => .posted
  | .c, 8 => .response
  | .d, 1 => .request
  | .d, 2 => .request
  | .d, 3 => .posted
  | .d, 8 => .response
  | .d, 9 => .response
  | .d, 10 => .internal
  | .d, 11 => .internal
  | .d, 12 => .posted
  | _, _ => .reserved

def Packet.kind (pk : Packet) : Kind := opKind pk.lay (Packet.opc pk)

/-- Fence domain of NI `n`, by its unit (Table NC-1, R236). -/
def niDomain (n : Nat) : Option Nat :=
  if n < 8 then some (n / 2)
  else if n < 16 then some 8
  else if n < 24 then some 9
  else if n < 30 then none
  else if n < 34 then some (4 + (n - 30))
  else if n < 36 then none
  else if n < 40 then some 10
  else none

/-- Whether NI `n` answers FENCED (R236, R406). An NI of an absent unit answers under R4 instead (R223). -/
def State.niFenced (s : State) (n : Nat) : Bool :=
  match niDomain n with
  | some d => s.hasDom d && s.domFenced d
  | none => false

/-- NIn_STAT as read: FENCED and DRAINED are derived. -/
def State.niStatRead (s : State) (n : Nat) : Word :=
  let drained := match niDomain n with
    | some d => s.regB Reg.nocFack d
    | none => false
  s.reg (Reg.niStat n) ||| Word.flag (s.niFenced n) 0 ||| Word.flag drained 1

/-! ## Routes (R228 to R230) -/

/-- Position of router `r`. -/
def routerX (r : Nat) : Nat := r % 6
def routerY (r : Nat) : Nat := r / 6

def oppositeHop (c : Nat) : Nat := (c + 2) % 4

/-- The legality check of R230, from hop `h` on; `fuel` counts the hops left of ten. -/
def legalFrom (route dst : Nat) (x y : Int) (prev : Option Nat) (turned : Bool) (h : Nat) : Nat → Bool
  | 0 => false
  | fuel + 1 =>
    let c := route / 2 ^ (3 * h) % 8
    if c = 4 ∨ c = 5 then
      if x ≠ routerX (dst / 2) ∨ y ≠ routerY (dst / 2) then false
      else if c - 4 ≠ dst % 2 then false
      else route / 2 ^ (3 * h + 3) == 2 ^ (27 - 3 * h) - 1
    else if 5 < c then false
    else if c = 3 ∧ turned then false
    else if prev = some (oppositeHop c) then false
    else
      let x' := if c = 1 then x + 1 else if c = 3 then x - 1 else x
      let y' := if c = 0 then y + 1 else if c = 2 then y - 1 else y
      if x' < 0 ∨ 5 < x' ∨ y' < 0 ∨ 3 < y' then false
      else legalFrom route dst x' y' (some c) (turned || c != 3) (h + 1) fuel

/-- Whether a route of NI `n` to NI `dst` is legal (R230). -/
def legalRoute (n route dst : Nat) : Bool :=
  decide (dst < 48) && legalFrom route dst (routerX (n / 2)) (routerY (n / 2)) none false 0 10

/-- A route word from its hop codes: unused codes are 7. -/
def routeOf (codes : List Nat) : Nat :=
  (List.range 10).foldl (fun a h => a + codes.getD h 7 * 2 ^ (3 * h)) 0

/-- The default route (R229): every x move, then every y move, then the ejection code. -/
def defaultRoute (n d : Nat) : Nat :=
  let r := n / 2
  let q := d / 2
  let xs := if routerX q < routerX r then List.replicate (routerX r - routerX q) 3
    else List.replicate (routerX q - routerX r) 1
  let ys := if routerY q < routerY r then List.replicate (routerY r - routerY q) 2
    else List.replicate (routerY q - routerY r) 0
  routeOf (xs ++ ys ++ [4 + d % 2])

/-- Entry `e` of the route table of NI `n`; one that is uncorrectable acts as V = 0 (Table IN-1). -/
def State.routeEntry (s : State) (n e : Nat) : Word × Word :=
  if s.wordFails 10 (utbRoute n e) then (0#32, 0#32) else (s.ni n).routes.get e (0#32, 0#32)

/-- The route an NI uses for a packet of class `c` to NI `d` (R229). -/
def State.routeFor (s : State) (n d c : Nat) : Nat :=
  let hit := (List.range 16).find? (fun i =>
    let w := (s.routeEntry n (48 + i)).2
    w.bit 31 && w.bits 5 0 == d && w.bit (8 + c))
  match hit with
  | some i => (s.routeEntry n (48 + i)).1.bits 29 0
  | none =>
    let e := s.routeEntry n d
    if e.2.bit 31 then e.1.bits 29 0 else defaultRoute n d

/-- A write of NIn_RTe_LO is held for its own pair (R230, R425). -/
def routeLoWrite (n e : Nat) (d : Word) (s : State) : State :=
  s.ok.setNi n { s.ni n with rtLatch := (s.ni n).rtLatch.set e (d &&& 0x3FFFFFFF#32) 0#32 }

/-- Meaning of ROUTE_WRITE, a write of NIn_RTe_HI (R230). -/
def routeWrite (n e : Nat) (d : Word) (s : State) : State :=
  let x := s.ni n
  let lo := x.rtLatch.get e 0#32
  let dst := if e < 48 then e else d.bits 5 0
  if legalRoute n lo.toNat dst then
    let hi := if e < 48 then word e ||| (d &&& 0x80000000#32) else d &&& 0x80000F3F#32
    (s.ok.setNi n { x with routes := x.routes.set e (lo, hi) (0#32, 0#32) }).wordWritten 10 (utbRoute n e)
  else (s.err.bump (Reg.niRtref n) 1).orReg (Reg.niStat n) 4

/-- NIn_RTe_LO and _HI as read. -/
def State.routeRead (s : State) (n e : Nat) (hi : Bool) : Word :=
  let w := (s.ni n).routes.get e (0#32, 0#32)
  if hi then (if e < 48 then w.2 ||| word e else w.2) else w.1

/-! ## Statistics (R235) -/

/-- Meaning of STATS_CLR, NIn_SCTL.CLR (R235). -/
def statsClr (n : Nat) (s : State) : State :=
  let s := [Reg.niSbytesLo n, Reg.niSbytesHi n, Reg.niSpkts n, Reg.niSlmax n, Reg.niSlsumLo n, Reg.niSlsumHi n,
    Reg.niSlcnt n].foldl (fun s a => s.setReg a 0#32) s
  let s := s.setReg (Reg.niSlmin n) 0xFFFFFFFF#32
  (List.range 8).foldl (fun s i => s.setReg (Reg.niShist n i) 0#32) s

/-- NIn_SCTL as written: CLR acts, the rest is stored. -/
def sctlWrite (n : Nat) (d : Word) (s : State) : State :=
  let s := s.ok.plainWrite (Reg.niSctl n) d
  if d.bit 9 then statsClr n s else s

/-- NIn_SBYTES_LO and NIn_SLSUM_LO as read: the high half is latched (R202). -/
def statLoRead (n : Nat) (sum : Bool) (s : State) : State :=
  let x := s.ni n
  if sum then (s.setNi n { x with sumHi := s.reg (Reg.niSlsumHi n) }).ok (s.reg (Reg.niSlsumLo n))
  else (s.setNi n { x with bytesHi := s.reg (Reg.niSbytesHi n) }).ok (s.reg (Reg.niSbytesLo n))

/-! ## Addresses of requests (R16, R18, R19) -/

/-- The block that owns a register address (Table SC-6). -/
inductive Block where
  | dev | mgt | ldr | pwr | int | eas | pal | noc | spg (g : Nat) | spx | shg | tbl | mem | dis | cnd (c : Nat) | can (t : Nat)
  deriving DecidableEq, Repr

def blockOf (a : Nat) : Option Block :=
  match a / 0x10000 with
  | 0x00 => some .dev
  | 0x01 => some .mgt
  | 0x02 => some .ldr
  | 0x03 => some .pwr
  | 0x04 => some .int
  | 0x10 => some .eas
  | 0x11 => some .pal
  | 0x12 => some .noc
  | 0x14 => some (.spg (a % 0x10000 / 0x4000))
  | 0x15 => some .spx
  | 0x16 => some .shg
  | 0x18 => some .tbl
  | 0x1A => some .mem
  | 0x1C => some .dis
  | b =>
    if 0x20 ≤ b ∧ b < 0x28 then some (.cnd (b - 0x20))
    else if 0x100 ≤ b ∧ b < 0x200 then some (.can ((a - 0x1000000) / 0x1000))
    else none

/-- Base address of the tile memories (Table SC-7). -/
def tileBase : Nat := 0x100000000000

/-- The ranges of Table SC-7. -/
inductive Space where
  | stack
  | table
  | tile
  | cond
  | regs
  | aperture
  | hole
  deriving DecidableEq, Repr

def spaceOf (a : Nat) : Space :=
  if a < 0x800000000 then .stack
  else if 0x80000000000 ≤ a ∧ a < 0x81000000000 then .table
  else if tileBase ≤ a ∧ a < tileBase + 0x1000000 then .tile
  else if 0x110000000000 ≤ a ∧ a < 0x110000400000 then .cond
  else if 0x200000000000 ≤ a ∧ a < 0x200100000000 then .regs
  else if 0x300000000000 ≤ a ∧ a < 0x400000000000 then .aperture
  else .hole

/-- Address of a C-layer request (Table NC-3). -/
def flitAddr (hdr : Nat) (pay : Nat) : Nat := bitsOf hdr 63 48 * 4294967296 + pay % 4294967296

/-- Whether a request or posted write names an address that its injecting NI refuses at once: a register access of another
width or alignment, or an address in none of the ranges of Tables SC-6 and SC-7 (R16). -/
def Packet.unaddressed (pk : Packet) : Bool :=
  let pay := (pk.body.headD 0#512).toNat
  let o := Packet.opc pk
  decide (1 ≤ o ∧ o ≤ 3) && (match pk.lay with
    | .c =>
      let a := flitAddr pk.hdr.toNat (pay % 2 ^ 64)
      (match spaceOf a with
      | .regs => a % 4 != 0 || (blockOf (a - 0x200000000000)).isNone
      | .hole => true
      | _ => false)
    | .d => spaceOf (bitsOf pay 47 0) == .hole || spaceOf (bitsOf pay 47 0) == .regs)

/-! ## Places and buffers of flits (R224) -/

/-- The flits of class `c` in input buffer `inp` of router `r`. -/
def State.inBuffer (s : State) (lay : Layer) (c r inp : Nat) : Nat :=
  (s.noc.flights.map (fun f =>
    if f.pk.lay = lay ∧ Packet.tc f.pk = c then (f.flits.filter (fun x => x.at_ == .router r inp)).length else 0)).sum

/-- Whether input `inp` of router `r` grants credit for `k` more flits of class `c`: it holds four (R224). -/
def State.room (s : State) (lay : Layer) (c r inp k : Nat) : Bool := decide (s.inBuffer lay c r inp + k ≤ 4)

/-- Offset of a router register by layer. -/
def rtReg (f g : Nat → Nat) (lay : Layer) (r : Nat) : Nat :=
  match lay with
  | .d => f r
  | .c => g r
def rtCfg : Layer → Nat → Nat := rtReg Reg.drtCfg Reg.crtCfg
def rtStg : Layer → Nat → Nat := rtReg Reg.drtStg Reg.crtStg
def rtStat : Layer → Nat → Nat := rtReg Reg.drtStat Reg.crtStat

/-- Key of the holder of an output in one class. -/
def lockKey (lay : Layer) (r out c : Nat) : Nat := (match lay with | .d => 0 | .c => 768) + 32 * r + 4 * out + c

/-- The packet whose flits hold output `out` of router `r` in class `c` (R224). -/
def State.lockOf (s : State) (lay : Layer) (r out c : Nat) : Option Nat := s.noc.locks.get (lockKey lay r out c) none

/-- Whether some flit of the packet is in router `r`. -/
def Flight.inRouter (f : Flight) (r : Nat) : Bool :=
  f.flits.any (fun x => match x.at_ with | .router q _ => q == r | .ni _ => false)

/-- Whether the whole packet has been ejected to NI `n`. -/
def Flight.atNi (f : Flight) (n : Nat) : Bool := f.flits.all (fun x => x.at_ == .ni n)

/-- When the last flit of the packet came where it is. -/
def Flight.came (f : Flight) : Nat := (f.flits.map (·.seq)).foldl Nat.max 0

/-- The packet leaves the network, and with it its hold of outputs. -/
def State.dropFlight (s : State) (f : Flight) : State :=
  { s with
    noc.flights := s.noc.flights.filter (fun g => g.no != f.no)
    noc.locks := s.noc.locks.filter (fun p => p.2 != some f.no) }

/-! ## Injection (R225, R229, R233) -/

/-- A write of NIn_TBc (R233): MARK exists for TC1 only, and the level starts at BURST × 1,500. -/
def tbWrite (n c : Nat) (d : Word) (s : State) : State :=
  let d := if c = 1 then d else d &&& 0xFFFFF7FF#32
  let s := (s.ok.refillNow n).plainWrite (Reg.niTb n c) d
  s.setNi n ((s.ni n).setLevel c (((d.bits 21 12 + 1) * 1500 : Nat) : Int))

/-- The header as its NI completes it: ROUTE, SRC, and on the D-layer CONF, the reserved bits and a request's STATUS
(Table NC-2). -/
def State.packetHdr (s : State) (n dst : Nat) (pk : Packet) (conf : Bool) : BitVec 64 :=
  let h := hdrPut (hdrPut pk.hdr 29 0 (s.routeFor n dst (Packet.tc pk))) 37 32 n
  match pk.lay with
  | .c => h
  | .d =>
    let h := hdrPut h 63 61 (if conf && Packet.tc pk == 1 then 1 else 0)
    if Packet.kind pk = .response then h else hdrPut h 60 58 0

/-- A packet that the regulator lets go enters the local input of its NI's router, all its flits at once (log 61). -/
def State.launch (s : State) (n dst : Nat) (pk : Packet) (conf : Bool) : State :=
  let pk := { pk with hdr := s.packetHdr n dst pk conf }
  let per := match pk.lay with
    | .c => 8
    | .d => 64
  let s := s.statSent n (Packet.tc pk) (per * Packet.flits pk)
  let s := if Packet.kind pk = .request then
      let x := s.ni n
      s.setNi n { x with outst := x.outst ++
        [{ tag := Packet.tag pk, opc := Packet.opc pk, lay := pk.lay, tc := Packet.tc pk, start := s.cyc }] }
    else s
  let f : Flight := {
    no := s.noc.count
    pk := pk
    flits := (List.range (Packet.flits pk)).map (fun i =>
      { hdr := pk.hdr, at_ := .router (n / 2) (4 + n % 2), seq := s.noc.count + i }) }
  { s with noc.flights := s.noc.flights ++ [f], noc.count := s.noc.count + Packet.flits pk }

/-- The classes each layer carries (R224). -/
def carries : Layer → Nat → Bool
  | .c, c => c != 1
  | .d, c => c == 1 || c == 3

/-- What the regulator of NI `n` does with the packet at the head of its class: none while it holds it, for want of tokens
or of credit of the router; else whether it goes conforming (R233, R238). -/
def State.mayLaunch (s : State) (n : Nat) (pk : Packet) : Option Bool :=
  let c := Packet.tc pk
  if s.regB (rtStat pk.lay (n / 2)) 0 || !s.room pk.lay c (n / 2) (4 + n % 2) (Packet.flits pk) then none
  else if s.conforms n c then some true
  else if c = 1 ∧ s.regB (Reg.niTb n 1) 11 then some false
  else none

/-- Injects what it can of the packets that wait at NI `n`, in order within each class; a class once held stays held. -/
def State.pumpList (n : Nat) : State → List (Nat × Packet) → List Nat → List (Nat × Packet) × State
  | s, [], _ => ([], s)
  | s, (d, pk) :: r, held =>
    let keep (c : List Nat) : List (Nat × Packet) × State :=
      let (q, t) := s.pumpList n r c
      ((d, pk) :: q, t)
    if Packet.tc pk ∈ held then keep held
    else match s.mayLaunch n pk with
      | none => keep (Packet.tc pk :: held)
      | some conf => ((if conf then s.spend n (Packet.tc pk) (Packet.flits pk) else s).launch n d pk conf).pumpList n r held

/-- NI `n` injects what its regulators and its router let go. -/
def State.pump (s : State) (n : Nat) : State :=
  let (q, s) := s.pumpList n (s.ni n).queue []
  s.setNi n { s.ni n with queue := q }

/-- Packet `pk` for NI `dst` joins the packets that wait at NI `n` (R233). -/
def State.send (s : State) (n dst : Nat) (pk : Packet) : State :=
  let x := s.ni n
  (s.setNi n { x with queue := x.queue ++ [(dst, pk)] }).pump n

/-- `k` NCK cycles pass at NI `n` (R233). -/
def State.ncks (n : Nat) : Nat → State → State
  | 0, s => s
  | k + 1, s => if (s.ni n).queue = [] then s.refillBy n (k + 1) else ((s.refillBy n 1).pump n).ncks n k

/-- The NCK cycles that an INJECT tells of, without those that were credited since the one before (log 61). -/
def State.elapse (s : State) (n k : Nat) : State :=
  let x := s.ni n
  (s.setNi n { x with tick := s.nck, since := 0 }).ncks n (k - x.since)

/-- A response an NI gives its own unit. -/
def State.answerOwn (s : State) (n : Nat) (pk : Packet) (status : Nat) : State :=
  let h := match pk.lay with
    | .c => hdrPut (hdrPut pk.hdr 47 44 8) 63 48 status
    | .d => hdrPut (hdrPut (hdrPut pk.hdr 47 44 (if Packet.opc pk = 1 then 8 else 9)) 60 58 status) 49 48 0
  let x := s.ni n
  s.setNi n { x with got := { pk with hdr := h, body := [0#512] } :: x.got }

/-- Meaning of INJECT (R16, R233): `elapsed` NCK cycles after the last one, its unit gives NI `n` the packet `pk` for NI
`dst` (log 40). -/
def inject (n dst : Nat) (pk : Packet) (elapsed : Nat) (s : State) : State :=
  let s := s.elapse n elapsed
  if !carries pk.lay (Packet.tc pk) || pk.body.length != Packet.flits pk || Packet.kind pk == .internal then s
  else if s.niFenced n && Packet.kind pk = .request then s.answerOwn n pk 2
  else if Packet.unaddressed pk then (if Packet.kind pk = .request then s.answerOwn n pk 1 else s)
  else s.send n dst pk

/-! ## Routers (R228, R231, R238, R239) -/

/-- The router beyond output `c` of router `r`; none at the mesh's border. -/
def nextRouter (r c : Nat) : Option Nat :=
  if c = 0 then (if routerY r < 3 then some (r + 6) else none)
  else if c = 1 then (if routerX r < 5 then some (r + 1) else none)
  else if c = 2 then (if 0 < routerY r then some (r - 6) else none)
  else if c = 3 then (if 0 < routerX r then some (r - 1) else none)
  else none

/-- Class of a packet at an output: 0 TC0, 1 TC1 with CONF, 2 TC2, 3 TC3, 4 TC1 without CONF (R231). -/
def Packet.tier (pk : Packet) : Nat :=
  let c := Packet.tc pk
  if c = 1 && !Packet.conf pk then 4 else c

def Weight (cfg : Word) : Nat → Nat
  | 2 => Nat.max (cfg.bits 7 4) 1
  | 3 => Nat.max (cfg.bits 11 8) 1
  | _ => Nat.max (cfg.bits 3 0) 1

/-- The oldest flit of a class in an input buffer: its packet, its place among the flits and itself. -/
def State.headFlit (s : State) (lay : Layer) (c r inp : Nat) : Option (Flight × Nat × Flit) :=
  let all := s.noc.flights.flatMap (fun f =>
    if f.pk.lay = lay ∧ Packet.tc f.pk = c then
      (f.flits.zip (List.range f.flits.length)).filterMap (fun p =>
        if p.1.at_ = .router r inp then some (f, p.2, p.1) else none)
    else [])
  all.foldl (fun best x => match best with
    | none => some x
    | some y => if x.2.2.seq < y.2.2.seq then some x else some y) none

/-- A flit at its place among others by arrival. -/
def bySeq (x : Flight × Nat × Flit) : List (Flight × Nat × Flit) → List (Flight × Nat × Flit)
  | [] => [x]
  | y :: r => if x.2.2.seq < y.2.2.seq then x :: y :: r else y :: bySeq x r

/-- The flits at the heads of the input buffers of router `r` that leave by hop code `out`, oldest arrival first. -/
def State.atOutput (s : State) (lay : Layer) (r out : Nat) : List (Flight × Nat × Flit) :=
  let heads := (List.range 6).flatMap (fun inp => (List.range 4).filterMap (fun c => s.headFlit lay c r inp))
  (heads.filter (fun x => bitsOf x.2.2.hdr.toNat 2 0 == out)).foldl (fun l x => bySeq x l) []

/-- Whether a flit may pass an output now: the output is free in its class or held by its packet, a quiescing router sends
only the rest of packets whose head has passed, the router beyond grants credit, and if it is quiescing, only to packets
whose head it has sent on (R224, R238, log 61). -/
def State.mayPass (s : State) (lay : Layer) (r out : Nat) (x : Flight × Nat × Flit) : Bool :=
  let c := Packet.tc x.1.pk
  let mine := s.lockOf lay r out c == some x.1.no
  let free := s.lockOf lay r out c == none
  (mine || (free && !s.regB (rtStat lay r) 0)) && (match nextRouter r out with
    | none => true
    | some q => s.room lay c q ((out + 2) % 4) 1
        && (!s.regB (rtStat lay q) 0 || (List.range 6).any (fun o => s.lockOf lay q o c == some x.1.no)))

/-- The weighted round robin of R231 over the classes that wait, with weights `cfg` and what the round has `sent`; the
order within a round is left open (log 8). -/
def State.roundOf (s : State) (cfg : Word) (sent : Nat × Nat × Nat) (waits : List Nat) :
    Option Nat × (Nat × Nat × Nat) × State :=
  let used (k : Nat) (u : Nat × Nat × Nat) : Nat := if k = 2 then u.1 else if k = 3 then u.2.1 else u.2.2
  let live (u : Nat × Nat × Nat) : List Nat := waits.filter (fun k => decide (used k u < Weight cfg k))
  let (u, ls) := if (live sent).isEmpty then ((0, 0, 0), live (0, 0, 0)) else (sent, live sent)
  match ls with
  | [] => (none, sent, s)
  | l :: _ =>
    let (i, s) := s.freeChoice ls.length
    let k := ls.getD i l
    (some k, (if k = 2 then (u.1 + 1, u.2) else if k = 3 then (u.1, u.2.1 + 1, u.2.2) else (u.1, u.2.1, u.2.2 + 1)), s)

/-- The class that an output of a router takes next in its round (R231). -/
def State.roundPick (s : State) (lay : Layer) (r out : Nat) (waits : List Nat) : Option Nat × State :=
  let key := (match lay with | .d => 0 | .c => 192) + 8 * r + out
  match s.roundOf (s.reg (rtCfg lay r)) (s.noc.rounds.get key (0, 0, 0)) waits with
  | (none, _, s) => (none, s)
  | (some k, u, s) => (some k, { s with noc.rounds := s.noc.rounds.set key u (0, 0, 0) })

/-- Discards a packet at a router (R239): NI 47 answers a request, anything else is counted. -/
def State.discardPacket (s : State) (f : Flight) : State :=
  let s := (s.dropFlight f).orReg Reg.nocStat 4
  if Packet.kind f.pk = .request then
    let h := match f.pk.lay with
      | .c => hdrPut (hdrPut f.pk.hdr 47 44 8) 63 48 3
      | .d => hdrPut (hdrPut (hdrPut f.pk.hdr 47 44 (if Packet.opc f.pk = 1 then 8 else 9)) 60 50 (3 * 256)) 49 48 0
    s.send 47 (Packet.src f.pk) { f.pk with hdr := h, body := [0#512] }
  else s.bump Reg.nocRfailDrop 1

/-- A flit moves on: ROUTE shifts right by three with 0b111 above (R228). -/
def shiftRoute (h : BitVec 64) : BitVec 64 :=
  hdrPut h 29 0 (bitsOf h.toNat 29 0 / 8 + 7 * 2 ^ 27)

/-- Replaces flit `i` of the packet. -/
def State.putFlit (s : State) (f : Flight) (i : Nat) (x : Flit) : State :=
  { s with noc.flights := s.noc.flights.map (fun g => if g.no = f.no then { g with flits := g.flits.set i x } else g) }

/-- Flit `i` of packet `f` passes output `out` of router `r`: the packet holds the output in its class until its last flit
has passed (R224, R228). -/
def State.passFlit (s : State) (lay : Layer) (r out : Nat) (f : Flight) (i : Nat) (x : Flit) : State :=
  let dst : Place := match nextRouter r out with
    | some q => .router q ((out + 2) % 4)
    | none => .ni (2 * r + (out - 4))
  let s := s.putFlit f i { x with hdr := shiftRoute x.hdr, at_ := dst, seq := s.noc.count }
  let hold := if i + 1 < f.flits.length then some f.no else none
  { s with
    noc.count := s.noc.count + 1
    noc.locks := s.noc.locks.set (lockKey lay r out (Packet.tc f.pk)) hold none }

/-- A flit has left input buffer `inp` of router `r`: an NI that waited for its credit goes on. -/
def State.freed (s : State) (r : Nat) (x : Flit) : State :=
  match x.at_ with
  | .router _ 4 => s.pump (2 * r)
  | .router _ 5 => s.pump (2 * r + 1)
  | _ => s

/-- Meaning of ROUTER_FORWARD (R228, R231, R239): router `r` sends one flit on output `out` (log 61). -/
def routerForward (lay : Layer) (r out : Nat) (s : State) : State :=
  let fs := s.atOutput lay r out
  let bad := decide (5 < out) || !s.regB (rtCfg lay r) (12 + out) || (decide (out < 4) && (nextRouter r out).isNone)
  if bad then
    match fs with
    | [] => s
    | x :: _ => (s.orReg (rtStat lay r) 4).discardPacket x.1
  else
    let go := fs.filter (fun x => s.mayPass lay r out x)
    let first (k : Nat) : Option (Flight × Nat × Flit) := go.find? (fun x => Packet.tier x.1.pk == k)
    let (pick, s) : Option (Flight × Nat × Flit) × State :=
      match first 0 with
      | some x => (some x, s)
      | none =>
        match first 1 with
        | some x => (some x, s)
        | none =>
          let (k, s) := s.roundPick lay r out ([2, 3, 4].filter (fun k => (first k).isSome))
          (k.bind first, s)
    match pick with
    | none => s
    | some (f, i, x) => (s.passFlit lay r out f i x).freed r x

/-- Meaning of ROUTER_APPLY, _CMD.APPLY (R238). -/
def routerApply (lay : Layer) (r : Nat) (s : State) : State := s.orReg (rtStat lay r) 1

/-- The staged configuration of a router comes into force, and its NIs have credit again (R238). -/
def State.applyStg (s : State) (lay : Layer) (r : Nat) : State :=
  (((s.setReg (rtCfg lay r) (s.reg (rtStg lay r))).clrReg (rtStat lay r) 1).pump (2 * r)).pump (2 * r + 1)

/-- Whether some packet holds an output of router `r`: its head has passed, not yet its last flit. -/
def State.switching (s : State) (lay : Layer) (r : Nat) : Bool :=
  (List.range 6).any (fun out => (List.range 4).any (fun c => (s.lockOf lay r out c).isSome))

/-- Meaning of QUIESCE_DONE (R238): every packet whose head had passed has passed whole. -/
def quiesceDone (lay : Layer) (r : Nat) (s : State) : State :=
  if s.regB (rtStat lay r) 0 && !s.switching lay r then s.applyStg lay r else s

/-- Meaning of ROUTER_FAULT (R239): a quiesce has not completed after 10 µs. -/
def routerFault (lay : Layer) (r : Nat) (s : State) : State :=
  if s.regB (rtStat lay r) 0 then
    let s := (s.noc.flights.filter (fun f => f.pk.lay == lay && f.inRouter r)).foldl (fun s f => s.discardPacket f) s
    let s := s.applyStg lay r
    let s := (s.orReg (rtStat lay r) 2).orReg Reg.nocStat 4
    s.report 0x10 (match lay with | .d => 0x1580 + r | .c => 0x15A0 + r)
  else s

/-- Meaning of GUARANTEE_BREACH (R234): a flit of class `cls` from NI `n` has waited at an output beyond its limit. -/
def guaranteeBreach (n cls : Nat) (s : State) : State :=
  let late (x : Flit) : Bool := (match x.at_ with | .router _ _ => true | .ni _ => false) && !x.breached
  let mine (f : Flight) : Bool :=
    Packet.src f.pk == n && Packet.tc f.pk == cls && (cls != 1 || Packet.conf f.pk) && f.flits.any late
  match s.noc.flights.find? mine with
  | some f =>
    match f.flits.findIdx? late with
    | some i => match f.flits[i]? with
      | some x => (s.putFlit f i { x with breached := true }).breach n cls
      | none => s
    | none => s
  | none => s

/-! ## Arrivals at an NI (R226, R227) -/

/-- The oldest packet of a class of a layer that has been ejected to NI `n`; the classes do not wait for each other (R20). -/
def State.headAt (s : State) (n : Nat) (lay : Layer) (c : Nat) : Option Flight :=
  (s.noc.flights.filter (fun f => f.pk.lay == lay && Packet.tc f.pk == c && f.atNi n)).foldl (fun best f => match best with
    | none => some f
    | some g => if f.came < g.came then some f else some g) none

/-- The packet that NI `n` takes for an opcode: the first of its classes whose oldest packet has that opcode and need not
wait, or has an opcode that no packet of the layer may have (R226). -/
def State.ejected (s : State) (n : Nat) (lay : Layer) (opc : Nat) (waits : Flight → Bool) : Option Flight :=
  ([0, 1, 2, 3].filterMap (s.headAt n lay)).find? (fun f =>
    Packet.kind f.pk == .reserved || (Packet.opc f.pk == opc && !waits f))

/-- Discards a packet with a bad opcode (R226) (log 40). -/
def State.badOp (s : State) (n : Nat) (f : Flight) : State :=
  ((s.dropFlight f).bump (Reg.niBadop n) 1).orReg (Reg.niStat n) 8

/-- NI `n` takes a packet of opcode `opc` out of the network; a reserved opcode is discarded on the way (R226). -/
def State.withEjected (s : State) (n : Nat) (lay : Layer) (opc : Nat) (waits : Flight → Bool) (k : Flight → State → State) :
    State :=
  match s.ejected n lay opc waits with
  | none => s
  | some f => if Packet.kind f.pk = .reserved then s.badOp n f else k f (s.dropFlight f)

/-- The response of NI `n` to request `f` (R227): same class and TAG, routed with d = SRC of the request (R229), through the
regulator of NI `n` (R233). -/
def State.reply (s : State) (n : Nat) (pk : Packet) (opc status pmask : Nat) (body : List (BitVec 512)) : State :=
  let h := hdrPut pk.hdr 47 44 opc
  let h := match pk.lay with
    | .c => hdrPut h 63 48 status
    | .d => hdrPut (hdrPut (hdrPut h 60 58 status) 57 50 pmask) 49 48 (body.length - 1)
  s.send n (Packet.src pk) { pk with hdr := h, body := body }

/-- Meaning of RSP, LRSP and LACK (R227, R235, R237): a response reaches the initiator's NI (log 40). -/
def State.response (s : State) (n : Nat) (lay : Layer) (opc : Nat) : State :=
  s.withEjected n lay opc (fun _ => false) (fun f s =>
    let x := s.ni n
    match x.outst.find? (fun o => o.tag == Packet.tag f.pk && o.lay == lay) with
    | some o =>
      let s := s.setNi n { x with outst := x.outst.erase o, got := f.pk :: x.got }
      s.statLatency n o.tc ((s.cyc - o.start) * 6 / 5) false
    | none => (s.bump Reg.nocStray 1).orReg Reg.nocStat 2)

/-- Meaning of REQUEST_TIMEOUT (R227): 10 µs without a response. A write that times out changes nothing, so a WR still on
its way is withdrawn (R27, log 62). -/
def requestTimeout (n tag : Nat) (s : State) : State :=
  let x := s.ni n
  match x.outst.find? (fun o => o.tag == tag) with
  | none => s
  | some o =>
    let pk : Packet := { lay := o.lay, hdr := hdrPut (hdrPut (hdrPut 0#64 43 38 tag) 47 44 o.opc) 31 30 o.tc, body := [] }
    let s := (s.setNi n { x with outst := x.outst.erase o }).answerOwn n pk 4
    let s := if o.lay = .c ∧ o.opc = 2 then
        (s.noc.flights.filter (fun f => f.pk.lay == .c && Packet.opc f.pk == 2 && Packet.src f.pk == n && Packet.tag f.pk == tag)).foldl
          (fun s f => s.dropFlight f) s
      else s
    ((s.bump (Reg.niTmo n) 1).orReg (Reg.niStat n) 0x10).statLatency n o.tc 15000 true

/-! ## Lines of stacked memory on the D-layer (Table NC-3) -/

/-- The sixteen words of a flit, little-endian. -/
def flitWords (b : BitVec 512) : List Word := (List.range 16).map (fun i => word (bitsOf b.toNat (32 * i + 31) (32 * i)))

/-- The flit of sixteen words. -/
def wordsFlit (ws : List Word) : BitVec 512 :=
  BitVec.ofNat 512 ((List.range 16).foldl (fun a i => a + (ws.getD i 0#32).toNat * 2 ^ (32 * i)) 0)

/-- Reads `n` lines: the flits and the poison mask (R205, Table NC-2). -/
def State.readLines (s : State) (a : Nat) : Nat → List (BitVec 512) × Nat × State
  | 0 => ([], 0, s)
  | n + 1 =>
    let (fl, m, s) := s.readLines a n
    let k := a / 32 + 2 * n
    let (ok0, s) := s.readSect k
    let (ok1, s) := s.readSect (k + 1)
    let ws := (if ok0 then s.sectWords k else List.replicate 8 0#32)
      ++ (if ok1 then s.sectWords (k + 1) else List.replicate 8 0#32)
    (fl ++ [wordsFlit ws], m + (if ok0 then 0 else 2 ^ (2 * n)) + (if ok1 then 0 else 2 ^ (2 * n + 1)), s)

/-- Merges the bytes of `new` that the mask names into `old`. -/
def mergeBytes (old new : Word) (mask : Nat) : Word :=
  word ((List.range 4).foldl (fun a i =>
    a + bitsOf (if Nat.testBit mask i then new else old).toNat (8 * i + 7) (8 * i) * 2 ^ (8 * i)) 0)

/-- Writes half a line: the whole sector, or the enabled bytes of it (R206); `false` when it is refused. -/
def State.writeHalf (s : State) (k : Nat) (ws : List Word) (mask : Nat) (poison : Bool) : Bool × State :=
  if mask = 0 then (true, s)
  else if poison then (true, (s.putWords (8 * k) ws).setSect k .poison)
  else if mask = 0xFFFFFFFF then (true, s.writeSect k ws)
  else s.mergeSect k (fun s => (List.range 8).foldl (fun s i =>
    s.setMemWord (8 * k + i) (mergeBytes (s.memWord (8 * k + i)) (ws.getD i 0#32) (mask / 2 ^ (4 * i) % 16))) s)

/-- Writes the lines of an LWR or LWRP (Table NC-3); `false` when some sector refused. -/
def State.writeLines (s : State) (pk : Packet) : Bool × State :=
  let head := (pk.body.headD 0#512).toNat
  let a := bitsOf head 47 0 / 64 * 64
  let en := bitsOf head 127 64
  let pm := Packet.f pk 57 50
  (List.range (pk.body.length - 1)).foldl (fun (p : Bool × State) i =>
    let ws := flitWords (pk.body.getD (i + 1) 0#512)
    let m := if i = 0 then en else 2 ^ 64 - 1
    let k := (a + 64 * i) / 32
    let (b0, s) := p.2.writeHalf k (ws.take 8) (m % 4294967296) (Nat.testBit pm (2 * (i + 1)))
    let (b1, s) := s.writeHalf (k + 1) (ws.drop 8) (m / 4294967296) (Nat.testBit pm (2 * (i + 1) + 1))
    (p.1 && b0 && b1, s)) (true, s)

/-- Status an NI answers before a stack performs an access; 0 when it performs it. -/
def gateStatus : StackGate → Nat
  | .go => 0
  | .absent => 0
  | .fenced => 2
  | .wait => 1
  | .busy => 1

/-- Whether the stack waits (R204): the packet then stays at the NI. -/
def State.lineWaits (s : State) (pk : Packet) : Bool :=
  let a := bitsOf (pk.body.headD 0#512).toNat 47 0
  decide (a < 0x800000000) && s.stackGate a == .wait

/-- The address of the first line that a request names. -/
def lineAddr (pk : Packet) : Nat := bitsOf (pk.body.headD 0#512).toNat 47 0

/-- Whether a line request names the table aperture of a variant without the table engine, which falls under R4 (R221). -/
def State.apertureGone (s : State) (pk : Packet) : Bool := !s.hasTable && lineAddr pk / 0x1000000000 == 0x80

/-- The lines an LRD reads: status, poison mask and flits (Table NC-3, R205). -/
def State.lineRead (s : State) (pk : Packet) : Nat × Nat × List (BitVec 512) × State :=
  let a := lineAddr pk / 64 * 64
  let lines := bitsOf (pk.body.headD 0#512).toNat 49 48 + 1
  let zeros := List.replicate lines 0#512
  if s.apertureGone pk then (0, 0, zeros, s.orReg Reg.devStatus 1)
  else if 0x800000000 ≤ a then (1, 0, zeros, s)
  else match s.stackGate a with
    | .go =>
      let (fl, m, s) := s.readLines a lines
      (0, m, fl, s)
    | .absent => (0, 0, zeros, s.orReg Reg.devStatus 1)
    | g => (gateStatus g, 0, zeros, s)

/-- The lines an LWR or LWRP writes, and the status (Table NC-3, R206). -/
def State.lineStore (s : State) (pk : Packet) : Nat × State :=
  let a := lineAddr pk
  if s.apertureGone pk then (0, s.orReg Reg.devStatus 1)
  else if 0x800000000 ≤ a then (1, s)
  else match s.stackGate a with
    | .go =>
      let (ok, s) := s.writeLines pk
      (if ok then 0 else 1, s)
    | .absent => (0, s.orReg Reg.devStatus 1)
    | g => (gateStatus g, s)

/-- Whether a request for lines reached the NI of their pseudo-channel (Table NC-1). -/
def lineHome (n : Nat) (pk : Packet) : Bool :=
  let a := lineAddr pk
  decide (0x800000000 ≤ a) || n == 8 + 8 * (a / 0x400000000) + a / 256 % 8

/-- A line request that names the table aperture, which only 32-bit accesses reach, at an NI of the table engine (R221). -/
def State.lineRefused (s : State) (n : Nat) (pk : Packet) : State :=
  if s.hasTable && decide (24 ≤ n ∧ n ≤ 29) && lineAddr pk / 0x1000000000 == 0x80 then s.bump Reg.tblAwdrop 1 else s

/-- Meaning of LRD (Table NC-3). -/
def lrd (n : Nat) (s : State) : State :=
  s.withEjected n .d 1 (fun f => s.lineWaits f.pk) (fun f s =>
    if s.niFenced n || !lineHome n f.pk then
      s.reply n f.pk 8 (if s.niFenced n then 2 else 1) 0
        (List.replicate (bitsOf (f.pk.body.headD 0#512).toNat 49 48 + 1) 0#512)
    else
      let (st, m, fl, s) := (s.lineRefused n f.pk).lineRead f.pk
      s.reply n f.pk 8 st m fl)

/-- The common part of LWR and LWRP. -/
def State.lineWrite (s : State) (n opc : Nat) (posted : Bool) : State :=
  s.withEjected n .d opc (fun f => s.lineWaits f.pk) (fun f s =>
    let fin (s : State) (status : Nat) : State := if posted then s else s.reply n f.pk 9 status 0 [0#512]
    if s.niFenced n then (if posted then s.fenceDrop else fin s 2)
    else if !lineHome n f.pk then fin s 1
    else
      let (st, s) := (s.lineRefused n f.pk).lineStore f.pk
      fin s st)

/-- Meaning of LWR (Table NC-3). -/
def lwr (n : Nat) (s : State) : State := s.lineWrite n 2 false

/-- Meaning of LWRP (Table NC-3). -/
def lwrp (n : Nat) (s : State) : State := s.lineWrite n 3 true

end Sys2Proof.Machine
end

