-- ==== Sys2Proof/Machine/Shaga.lean ====
section
/-! DEFINITION. Sys2Proof/Machine/Shaga.lean: Shaga links, cells, delay, beacons, tunnels and the folding table
(12_shaga_link.md). -/
namespace Sys2Proof.Machine

def State.link (s : State) (l : Nat) : Link := s.shg.links.get l {}
def State.setLink (s : State) (l : Nat) (v : Link) : State := { s with shg.links := s.shg.links.set l v {} }

/-! ## Cells (R245) -/

/-- CRC-8 of header bits [117:0], from bit 0 upward: polynomial x^8 + x^2 + x + 1, start 0 (R245). -/
def hcrc (h : BitVec 128) : Nat :=
  (List.range 118).foldl (fun c i =>
    let top := decide (128 ≤ c) != h.getLsbD i
    let c := c * 2 % 256
    if top then c ^^^ 7 else c) 0

def hdr128 (h : BitVec 128) (hi lo : Nat) : Nat := bitsOf h.toNat hi lo

/-- A link header with its check (Table SH-2). -/
def mkHdr (ctype tc hidx dst src route : Nat) : BitVec 128 :=
  let h := BitVec.ofNat 128 (ctype + tc * 16 + hidx * 64 + dst * 1024 + src * 2 ^ 24 + route * 2 ^ 38)
  BitVec.ofNat 128 (h.toNat + hcrc h * 2 ^ 118)

def cCtype (c : Cell) : Nat := hdr128 c.hdr 3 0
def cTc (c : Cell) : Nat := hdr128 c.hdr 5 4
def cHidx (c : Cell) : Nat := hdr128 c.hdr 9 6
def cDst (c : Cell) : Nat := hdr128 c.hdr 23 10
def cSrc (c : Cell) : Nat := hdr128 c.hdr 37 24
def cRoute (c : Cell) : Nat := hdr128 c.hdr 117 38

/-- Whether the header check and the type of a cell pass (R245). -/
def cellGood (h : BitVec 128) : Bool := hdr128 h 125 118 == hcrc h && decide (hdr128 h 3 0 ≤ 8)

/-- Hop code `i` of a ROUTE. -/
def hopCode (route i : Nat) : Nat := route / 2 ^ (5 * i) % 32

/-! ## Links (R241, R242) -/

/-- Whether the mode of its group forms link `l` (Table SH-1). -/
def State.linkFormed (s : State) (l : Nat) : Bool :=
  s.hasLg (l / 8) && (match s.gmode (l / 8) with
    | 4 => l % 8 == 0
    | 5 => l % 4 == 0
    | 6 => true
    | _ => false)

/-- Whether link `l` is enabled and its group runs. -/
def State.linkRuns (s : State) (l : Nat) : Bool :=
  s.hasShaga && s.linkFormed l && s.groupRuns (l / 8) && s.regB Reg.shgCfg 0 && s.regB (Reg.shgLcfg l) 0

/-- SHG_LSTATL.STATE: 0 down, 1 TRAIN, 2 IDENT, 3 AUTH, 4 UP. -/
def State.linkState (s : State) (l : Nat) : Nat :=
  if s.linkRuns l then Nat.max 1 (s.regF (Reg.shgLstat l) 2 0) else 0

def State.linkUpQ (s : State) (l : Nat) : Bool := s.linkState l == 4
def State.setLinkState (s : State) (l n : Nat) : State := s.setRegF (Reg.shgLstat l) 2 0 n

/-- SHG_LSTATL as read. -/
def State.lstatRead (s : State) (l : Nat) : Word := putBits (s.reg (Reg.shgLstat l)) 2 0 (s.linkState l)

/-- Sends cells of link `l`, the last ones shown in `tx`. -/
def State.txCells (s : State) (l : Nat) (cs : List Cell) : State := s.setLink l { s.link l with tx := cs }

/-- A link-local cell toward the peer of link `l` (Table SH-2). -/
def State.localCell (s : State) (l ctype : Nat) (body : BitVec 576) : Cell :=
  { hdr := mkHdr ctype 0 0 (s.regF (Reg.shgLpeer l) 13 0) s.did 0, body := body }

/-- Reports the first discard of a kind in an epoch (R246). -/
def State.shgRoute (s : State) (kind dst : Nat) : State :=
  if s.shg.kinds.contains kind then s
  else { s with shg.kinds := kind :: s.shg.kinds }.reportAlways 0x13 0x1400 dst

def Link.credit (x : Link) : Nat → Nat
  | 0 => x.cr0
  | 1 => x.cr1
  | 2 => x.cr2
  | _ => x.cr3

def Link.setCredit (x : Link) (c v : Nat) : Link :=
  match c with
  | 0 => { x with cr0 := v }
  | 1 => { x with cr1 := v }
  | 2 => { x with cr2 := v }
  | _ => { x with cr3 := v }

def Link.owe (x : Link) (c : Nat) : Link :=
  match c with
  | 0 => { x with ow0 := x.ow0 + 1 }
  | 1 => { x with ow1 := x.ow1 + 1 }
  | 2 => { x with ow2 := x.ow2 + 1 }
  | _ => { x with ow3 := x.ow3 + 1 }

/-- Class `c` of the receive buffer of link `l` has a place again: the credit goes back with the next CREDIT cell (R243). -/
def State.cellFreed (s : State) (l c : Nat) : State := s.setLink l ((s.link l).owe c)

def cellFlit (c : Cell) : BitVec 64 := c.body.extractLsb' 0 64
def cellPay (c : Cell) : BitVec 512 := c.body.extractLsb' 64 512

/-- The response to a discarded request goes to its origin (R246) (log 42). -/
def State.routeFail (s : State) (c : Cell) : State :=
  let op := bitsOf (cellFlit c).toNat 47 44
  let lay : Layer := if cCtype c = 1 then .c else .d
  if op = 1 ∨ op = 2 then { s with shg.outq := s.shg.outq ++ [.rsp (cSrc c) lay (cellFlit c) 3 0 [0#512]] } else s

/-- Counts a cell for a link that is not UP or not formed (R246). -/
def State.downDrop (s : State) (dst : Nat) : State := (s.bump Reg.shgDndrop 1).shgRoute 1 dst

/-- A drop of link `l` to TRAIN (R242); relayed cells that wait for it are discarded (R246), and leave the receive buffers
that hold them. -/
def State.linkDrop (s : State) (l : Nat) : State :=
  if s.regF (Reg.shgLstat l) 2 0 < 2 then s
  else
    let x := s.link l
    let s := (s.setLinkState l 1).bump (Reg.shgLdown l) 1
    let s := (s.clrReg (Reg.shgLstat l) 0x18).orReg (Reg.shgLstat l) 0x20
    let s := s.reportOn 0x11 0x1400 (if x.peerAuth.isSome then s.regF (Reg.shgLpeer l) 13 0 else s.did)
    let s := s.setLink l { dseq := x.dseq, tx := [] }
    x.wait.foldl (fun s p => (((s.downDrop (cDst p.2)).routeFail p.2).cellFreed p.1 (cTc p.2))) s

/-- Links whose enable or group fell drop (R242). -/
def State.dropStopped (s : State) : State :=
  (List.range 32).foldl (fun s l => if s.linkRuns l then s else s.linkDrop l) s

/-- A write of SHG_CFG or SHG_LCFGL. -/
def shgEnWrite (a : Nat) (d : Word) (s : State) : State := (s.ok.plainWrite a d).dropStopped

/-- Meaning of TRAIN_DONE (R242): the link enters IDENT and sends its IDENT cell. -/
def trainDone (l : Nat) (s : State) : State :=
  if s.linkState l = 1 then
    let b := BitVec.ofNat 576 (s.did * 16 + l * 2 ^ 18 + Nat.min (s.regF Reg.shgCfg 5 4) 3 * 2 ^ 23)
    let s := ((s.setLinkState l 2).clrReg (Reg.shgLstat l) 0x18).setLink l { dseq := (s.link l).dseq }
    s.txCells l [s.localCell l 8 b]
  else s

/-- Draws a nonce from the security engine (log 9, 8). -/
def State.drawNonce (s : State) : BitVec 256 × State := (Config.nonce s.free, { s with free := s.free + 1 })

/-- Body of an AUTH cell (Table SH-3). -/
def authBody (step frag : Nat) (b : List Byte) : BitVec 576 :=
  BitVec.ofNat 576 (step + frag * 16 + b.length * 256 + leAt b 0 b.length * 2 ^ 16)

/-- Starts the exchange of R258: a nonce goes out as STEP 0. -/
def State.startAuth (s : State) (l : Nat) : State :=
  let (n, s) := s.drawNonce
  let s := s.setLink l { s.link l with auth := { own := n } }
  s.txCells l [s.localCell l 7 (authBody 0 0 (leBytes n.toNat 32))]

/-- The link has had a measurement and needs no more than UP (R242). -/
def State.tryUp (s : State) (l : Nat) : State :=
  let x := s.link l
  let ready := match x.peerAuth with
    | none => false
    | some a =>
      !x.conflict && (if s.regF Reg.shgCfg 5 4 = 0 && a = 0 then true else s.regF (Reg.shgLstat l) 2 0 == 3 && x.auth.passed)
  if ready && !x.rts.isEmpty && decide (2 ≤ s.linkState l) then s.setLinkState l 4 else s

/-- Meaning of IDENT (R242). -/
def ident (l did code auth : Nat) (s : State) : State :=
  if s.linkState l = 2 then
    let s := s.setReg (Reg.shgLpeer l) (word (did + code * 16384))
    let s := s.setLink l { s.link l with peerAuth := some auth }
    if did = s.did then
      let s := (s.orReg (Reg.shgLstat l) 0x80).orReg Reg.shgStat 0x20
      (s.setLink l { s.link l with conflict := true }).reportOn 0x12 0x1400 did
    else if s.regF Reg.shgCfg 5 4 = 0 ∧ auth = 0 then s.tryUp l
    else (s.setLinkState l 3).startAuth l
  else s

/-- Meaning of LINK_RETRAIN (R242, R258): one second after a conflict the link trains again, and after a failed
authentication the exchange starts again. -/
def linkRetrain (l : Nat) (s : State) : State :=
  let x := s.link l
  if x.conflict && decide (2 ≤ s.linkState l) then
    ((s.setLinkState l 1).clrReg (Reg.shgLstat l) 0x18).setLink l { dseq := x.dseq }
  else if x.auth.failed && s.linkState l == 3 then s.startAuth l
  else s

/-- Meaning of LINK_DOWN (R242): lost alignment or FEC loss. -/
def linkDown (l : Nat) (s : State) : State := if 2 ≤ s.linkState l then s.linkDrop l else s

/-- Meaning of LCTL_TIMEOUT (R242) (log 15). -/
def lctlTimeout (l : Nat) (s : State) : State := if 2 ≤ s.linkState l then s.linkDrop l else s

/-! ## Credits and flit cells (R243) -/

/-- Whether link `l` takes `n` more flit cells of class `k`: it holds the credits, and no relayed cell of the class waits. -/
def State.linkTakes (s : State) (l k n : Nat) : Bool :=
  let x := s.link l
  decide (n ≤ x.credit k) && !x.wait.any (fun w => cTc w.2 == k)

/-- Sends flit cells of class `k` on link `l`, each for one credit. -/
def State.sendFlitCells (s : State) (l k : Nat) (cs : List Cell) : State :=
  let x := s.link l
  s.setLink l { x.setCredit k (x.credit k - cs.length) with tx := cs }

/-- Relays a flit cell that arrived on link `from_` to link `l`, or lets it wait for a credit of its class; it holds its
place in the receive buffer of `from_` until it leaves. -/
def State.relayTo (s : State) (from_ l : Nat) (c : Cell) : State :=
  if s.linkTakes l (cTc c) 1 then (s.sendFlitCells l (cTc c) [c]).cellFreed from_ (cTc c)
  else s.setLink l { s.link l with wait := (s.link l).wait ++ [(from_, c)] }

/-- Rank of a flit cell in the order of R231. -/
def cellTier (c : Cell) : Nat :=
  if cTc c = 1 && !(cellFlit c).getLsbD 61 then 4 else cTc c

/-- The waiting cell that link `l` sends next: the oldest of its rank, by the order of R231, among the classes that hold
credit. The weights of the round are those of the D-layer router of NIs 34 and 35 (log 42). -/
def State.nextCell (s : State) (l : Nat) : Option (Nat × Cell) × State :=
  let x := s.link l
  let first (k : Nat) : Option (Nat × Cell) := x.wait.find? (fun w =>
    cellTier w.2 == k && decide (0 < x.credit (cTc w.2)) && (x.wait.find? (fun v => cTc v.2 == cTc w.2)) == some w)
  match first 0 with
  | some w => (some w, s)
  | none =>
    match first 1 with
    | some w => (some w, s)
    | none =>
      let (k, u, s) := s.roundOf (s.reg (rtCfg .d 17)) x.round ([2, 3, 4].filter (fun k => (first k).isSome))
      (k.bind first, s.setLink l { x with round := u })

/-- Sends the waiting cells of link `l` that credits allow, at most `n`. -/
def State.drainLink (l : Nat) : Nat → State → State
  | 0, s => s
  | n + 1, s =>
    match s.nextCell l with
    | (none, _) => s
    | (some (from_, c), s) =>
      let x := s.link l
      let k := cTc c
      ((s.setLink l { x.setCredit k (x.credit k - 1) with wait := x.wait.erase (from_, c), tx := x.tx ++ [c] }).cellFreed
        from_ k).drainLink l n

/-- Meaning of CREDIT (R243). -/
def credit (l c0 c1 c2 c3 : Nat) (s : State) : State :=
  if 2 ≤ s.linkState l then
    let x := s.link l
    let x := { x with cr0 := Nat.min 64 (x.cr0 + c0), cr1 := Nat.min 64 (x.cr1 + c1), cr2 := Nat.min 64 (x.cr2 + c2),
                      cr3 := Nat.min 64 (x.cr3 + c3), tx := [] }
    (s.setLink l x).drainLink l x.wait.length
  else s

/-- Meaning of CREDIT_SEND (R242, R243). -/
def creditSend (l : Nat) (s : State) : State :=
  if 2 ≤ s.linkState l then
    let x := s.link l
    let b := BitVec.ofNat 576 (1 + x.ow0 * 256 + x.ow1 * 65536 + x.ow2 * 2 ^ 24 + x.ow3 * 2 ^ 32)
    (s.setLink l { x with ow0 := 0, ow1 := 0, ow2 := 0, ow3 := 0 }).txCells l [s.localCell l 8 b]
  else s

/-! ## Routes (R247) -/

/-- ROUTE of entry `d`, when V = 1; an uncorrectable entry acts as V = 0 (Table IN-1). -/
def State.shgRouteOf (s : State) (d : Nat) : Option Nat :=
  let e := s.shg.routes.get d 0
  if Nat.testBit e 95 && !s.wordFails 10 (utbShaga d) then some (e % 2 ^ 80) else none

/-- Meaning of RTCMD_WRITE (R247). -/
def rtcmdWrite (s : State) : State :=
  if !s.hasShaga then s.absent
  else
    let v := (s.reg Reg.shgRtw0).toNat + (s.reg Reg.shgRtw1).toNat * 2 ^ 32 + (s.reg Reg.shgRtw2).toNat * 2 ^ 64
    let i := s.regF Reg.shgRtidx 13 0
    { s.ok with shg.routes := s.shg.routes.set i v 0 }.wordWritten 10 (utbShaga i)

/-- Meaning of RTCMD_READ (R247). -/
def rtcmdRead (s : State) : State :=
  if !s.hasShaga then s.absent
  else
    let e := s.shg.routes.get (s.regF Reg.shgRtidx 13 0) 0
    (((s.ok.setReg Reg.shgRtw0 (word e)).setReg Reg.shgRtw1 (word (e / 2 ^ 32))).setReg Reg.shgRtw2 (word (e / 2 ^ 64)))

/-- Result of originating flit cells. -/
inductive SendResult where
  | sent
  | noRoute
  | down
  deriving DecidableEq, Repr

/-- The engine originates flit cells of class `tc` for device `dst` (R247). -/
def State.originate (s : State) (dst tc ctype : Nat) (bodies : List (BitVec 576)) : SendResult × State :=
  match s.shgRouteOf dst with
  | none => (.noRoute, (s.bump Reg.shgNoroute 1).orReg Reg.shgStat 2)
  | some rt =>
    let l := hopCode rt 0
    if s.linkUpQ l then
      (.sent, s.sendFlitCells l tc (bodies.map (fun b => { hdr := mkHdr ctype tc 0 dst s.did rt, body := b })))
    else (.down, s.downDrop dst)

/-- Whether `n` flit cells of class `tc` may leave for device `dst` now: no relay holds the first link's credits, or there is
no way for them at all (R243, R247). -/
def State.mayOriginate (s : State) (dst tc n : Nat) : Bool :=
  match s.shgRouteOf dst with
  | none => true
  | some rt => !s.linkUpQ (hopCode rt 0) || s.linkTakes (hopCode rt 0) tc n

/-- Body of a flit cell. -/
def flitBody (hdr : BitVec 64) (pay : BitVec 512) : BitVec 576 := BitVec.append pay hdr

/-- Header of a flit that the engine originates: SRC is NI 34, and no hop is left in ROUTE (R227) (log 42). -/
def engineHdr : BitVec 64 := hdrPut (hdrPut 0#64 29 0 0x3FFFFFFF) 37 32 34

/-- The C-layer flit of a token (Table NC-3). -/
def tokenFlit (tk : Token) : BitVec 576 :=
  flitBody (hdrPut (hdrPut engineHdr 47 44 4) 31 30 2) (BitVec.ofNat 512 (tk.tid + tk.slot * 1024 + tk.val.toNat * 2 ^ 32))

/-- The FAULT flit of a report (Table IN-2). -/
def faultFlitBody (r : Report) : BitVec 576 :=
  flitBody (hdrPut (hdrPut (hdrPut (hdrPut engineHdr 47 44 5) 31 30 2) 43 38 r.code) 63 48 r.count)
    (BitVec.ofNat 512 (r.unit + r.subj * 2 ^ 16 + r.first * 2 ^ 30 + r.last * 2 ^ 44 + r.span * 2 ^ 58))

/-- The report of a FAULT flit. -/
def faultOf (hdr : Nat) (pay : Nat) : Report :=
  { code := bitsOf hdr 43 38, unit := bitsOf pay 15 0, subj := bitsOf pay 29 16, count := bitsOf hdr 63 48,
    first := bitsOf pay 43 30, last := bitsOf pay 57 44, span := bitsOf pay 63 58 }

/-! ## Tokens of other devices (R251) -/

/-- The valid proxy entry whose LTID is `tid`. -/
def State.proxyOf (s : State) (tid : Nat) : Option Nat :=
  if s.hasShaga then
    (List.range 128).find? (fun i => s.regB (Reg.shgProxyHi i) 31 && s.regF (Reg.shgProxyLo i) 9 0 == tid)
  else none

def State.tokDrop (s : State) : State := (s.bump Reg.shgTokdrop 1).orReg Reg.shgStat 8

/-- The Dispatcher passes a token to the engine (R251). -/
def State.proxyToken (s : State) (i : Nat) (tk : Token) : State :=
  let held := s.shg.outq.filter (fun o => match o with | .token _ _ => true | _ => false)
  if 64 ≤ held.length then s.tokDrop.breach 34 2
  else { s with shg.outq := s.shg.outq ++
    [.token (s.regF (Reg.shgProxyHi i) 13 0) { tk with tid := s.regF (Reg.shgProxyLo i) 19 10 }] }

/-- A token that arrived over Shaga waits for channel 14 (R251). -/
def State.shgTokenIn (s : State) (tk : Token) : State :=
  if !s.regB Reg.shgCfg 3 then s.tokDrop
  else if s.shg.tokIn.isEmpty && s.maySend 14 then s.sendToken 14 tk
  else if 256 ≤ s.shg.tokIn.length then s.tokDrop
  else { s with shg.tokIn := s.shg.tokIn ++ [tk] }

/-- Tokens move on when channel 14 returns credit. -/
def State.shgDrain (s : State) : State :=
  match s.shg.tokIn with
  | [] => s
  | tk :: r => if s.maySend 14 then { s with shg.tokIn := r }.sendToken 14 tk else s

/-- A write of SHG_PROXYi_HI applies the pair (Table SH-5). -/
def proxyHiWrite (i : Nat) (d : Word) (s : State) : State :=
  (s.ok.plainWrite (Reg.shgProxyHi i) d).setReg (Reg.shgProxyLo i) (s.shg.proxyLo.get i 0#32)

/-- A write of SHG_PROXYi_LO is held. -/
def proxyLoWrite (i : Nat) (d : Word) (s : State) : State :=
  { s.ok with shg.proxyLo := s.shg.proxyLo.set i (d &&& 0xFFFFF#32) 0#32 }

/-! ## Folding (R259) -/

/-- A folding entry whose word is uncorrectable is discarded, and counted in FLT_LOST (Table IN-1). -/
def State.foldLost (s : State) (i : Nat) : State :=
  if (s.shg.fold.get i none).isNone then s
  else match s.consult 10 (utbFold i) with
    | (true, s) => s
    | (false, s) =>
      ({ s with shg.fold := s.shg.fold.set i none none }.wordWritten 10 (utbFold i)).bump Reg.fltLost 1

/-- A FAULT flit bound for device `dst` enters the folding table. -/
def State.foldFault (s : State) (dst : Nat) (r : Report) : State :=
  let s := (List.range 64).foldl State.foldLost s
  let key (o : Option FoldE) : Bool :=
    match o with
    | some e => e.dst == dst && e.rep.subj == r.subj && e.rep.unit == r.unit && e.rep.code == r.code
    | none => false
  match (List.range 64).find? (fun i => key (s.shg.fold.get i none)) with
  | some i =>
    match s.shg.fold.get i none with
    | some e =>
      let e := { e with rep := { e.rep with count := Nat.min 0xFFFF (e.rep.count + r.count), last := r.last } }
      ({ s with shg.fold := s.shg.fold.set i (some e) none }).bump Reg.shgFolded 1
    | none => s
  | none =>
    match (List.range 64).find? (fun i => (s.shg.fold.get i none).isNone) with
    | some i => { s with shg.fold := s.shg.fold.set i (some { dst := dst, rep := r, at_ := s.cyc }) none }
    | none => { s with shg.outq := s.shg.outq ++ [.fault dst r] }

/-- Meaning of FOLD_SEND (R259): entry `i` is sent as one report; SPAN counts 64 µs, 80,000 EKL cycles (log 48). -/
def foldSend (i : Nat) (s : State) : State :=
  let s := s.foldLost i
  match s.shg.fold.get i none with
  | none => s
  | some e =>
    let r := { e.rep with span := Nat.min 63 (e.rep.span + (s.cyc - e.at_) / 80000) }
    { s with shg.fold := s.shg.fold.set i none none, shg.outq := s.shg.outq ++ [.fault e.dst r] }

/-! ## Link delay (R253) -/

/-- Meaning of DREQ_SEND (R253). -/
def dreqSend (l : Nat) (t1 : Nat) (s : State) : State :=
  if 2 ≤ s.linkState l then
    let x := s.link l
    let s := s.setLink l { x with dseq := (x.dseq + 1) % 256, dpend := some (x.dseq, t1) }
    s.txCells l [s.localCell l 4 (BitVec.ofNat 576 (t1 + x.dseq * 2 ^ 64))]
  else s

/-- Meaning of DREQ (R253): answered with a DRSP. -/
def dreq (l t1 seq t2 t3 : Nat) (s : State) : State :=
  if 2 ≤ s.linkState l then
    s.txCells l [s.localCell l 5 (BitVec.ofNat 576 (t1 + t2 * 2 ^ 64 + t3 * 2 ^ 128 + seq * 2 ^ 192))]
  else s

/-- One-way delay of a link from its round trips (R253). -/
def oneWay (rts : List Int) (trim : Int) : Int := rts.foldl (· + ·) 0 / (2 * rts.length : Int) + trim

/-- Meaning of DRSP (R253): 100 µs are 125,000 EKL cycles. -/
def drsp (l : Nat) (t1 t2 t3 : BitVec 64) (seq : Nat) (t4 : BitVec 64) (s : State) : State :=
  let x := s.link l
  match x.dpend with
  | none => s
  | some (q, _) =>
    if q ≠ seq ∨ s.linkState l < 2 ∨ 125000 * 65536 < (t4 - t1).toNat then s
    else
      let rt := ((t4 - t1) - (t3 - t2)).toInt
      let rts := (rt :: x.rts).take 16
      let s := s.setLink l { x with dpend := none, rts := rts }
      let s := s.setReg (Reg.shgLrtt l) (wordI rt)
      let s := s.setReg (Reg.shgLdly l) (wordI (oneWay rts (s.reg (Reg.shgLtrim l)).toInt))
      let s := if rts.length = 16 then s.orReg (Reg.shgLstat l) 8 else s
      s.tryUp l

/-! ## Beacons (R254, R255) -/

/-- Origin identity of axis `n`: device, axis and HOPS (R254). -/
def State.axisOrigin (s : State) (n : Nat) : Nat × Nat × Nat :=
  if axSrc (s.reg (Reg.axCfg n)) = 5 then
    (s.regF (Reg.axPin n) 13 0, s.regF (Reg.axPin n) 19 16, Nat.min 15 (s.shg.hops.get n 0 + 1))
  else (s.did, n, 0)

/-- Signed velocity of axis `n` in 2^-48 count per EKL cycle (Table SH-4). -/
def State.axVelocity (s : State) (n : Nat) : Int :=
  let x := s.axis n
  let src := axSrc (s.reg (Reg.axCfg n))
  if src = 4 then x.step else if src = 5 then x.rvel else if x.neg then -(x.inc : Int) else x.inc

/-- The beacon body of axis `n`, sampled now, without AGE (Table SH-4). -/
def State.beaconBody (s : State) (n : Nat) : BitVec 576 :=
  let (dev, ax, hops) := s.axisOrigin n
  BitVec.ofNat 576 ((s.axPos n).toNat + lowBits (s.axVelocity n) 64 * 2 ^ 64 + dev * 2 ^ 160 + ax * 2 ^ 174
    + hops * 2 ^ 178 + (if (s.axStatus n).bit 1 then 2 ^ 182 else 0))

/-- Whether axis `n` may be exported now (R254). -/
def State.exportable (s : State) (n : Nat) : Bool :=
  !(axSrc (s.reg (Reg.axCfg n)) == 5 && (s.axis n).lost)

/-- AGE of a beacon sampled in EKL cycle `k` that departs now: at which part of the cycle is left open (log 66). -/
def State.beaconAge (s : State) (k : Nat) : Nat × State :=
  let (f, s) := s.freeChoice 65536
  (Nat.min 4294967295 ((s.cyc - k) * 65536 + f), s)

/-- Meaning of BEACON_SEND (R254): an extra beacon that waits, or the periodic one. -/
def beaconSend (l n : Nat) (s : State) : State :=
  if !s.linkUpQ l || !s.exportable n then s
  else
    let x := s.link l
    match x.extra.find? (fun e => e.1 == n) with
    | some e =>
      let (age, s) := s.beaconAge e.2.1
      (s.setLink l { x with extra := x.extra.erase e }).txCells l
        [s.localCell l 3 (BitVec.ofNat 576 (e.2.2.toNat + age * 2 ^ 128))]
    | none =>
      if s.regB (Reg.shgLxp l) n then
        let (age, s) := s.beaconAge s.cyc
        s.txCells l [s.localCell l 3 (BitVec.ofNat 576 ((s.beaconBody n).toNat + age * 2 ^ 128))]
      else s

/-- A BEACON action: an extra beacon on every link that exports the axis (R84, R254). -/
def State.queueBeacons (s : State) (n : Nat) : State :=
  if s.exportable n then
    (List.range 32).foldl (fun s l =>
      if s.linkUpQ l && s.regB (Reg.shgLxp l) n then
        let x := s.link l
        s.setLink l { x with extra := x.extra ++ [(n, s.cyc, s.beaconBody n)] }
      else s) s
  else s

/-- Places a remote axis at a beacon (R61, R62, R255). The jump test compares positions, the shorter way round. -/
def State.takeBeacon (s : State) (n : Nat) (b : Nat) (ta : Nat) (d : Int) : State :=
  let s := s.openCycle n
  let x := s.axis n
  let m := (s.reg (Reg.axMod n)).toNat
  let pos := sextN (bitsOf b 63 0) 64
  let vel := sextN (bitsOf b 127 64) 64
  let start := ((ta + 65535) / 65536 + 8) * 65536
  let e : Int := (bitsOf b 159 128 : Int) + d + ((start - ta : Nat) : Int)
  let acc := pos * 4294967296 + vel * e / 65536
  let v := if Nat.testBit b 182 then vel else 0
  let ext := x.racc + (if x.rmoving && !x.lost then x.rvel else 0)
  let r : Int := ((m * 2 ^ 48 : Nat) : Int)
  let red (a : Int) : Int := if m = 0 then sextN (lowBits a 96) 96 else a % r
  let diff := if m = 0 then acc - ext else (let q := (acc - ext) % r; if 2 * q < r then q else q - r)
  let moved : Int :=
    if m = 0 then sextN (lowBits (acc / 4294967296 - ext / 4294967296) 64) 64
    else
      let q := (acc / 4294967296 - ext / 4294967296) % ((m * 65536 : Nat) : Int)
      if 2 * q < ((m * 65536 : Nat) : Int) then q else q - ((m * 65536 : Nat) : Int)
  let jump := x.lost || decide (1 < moved) || decide (moved < -1)
  let s := if m = 0 || jump then s else s.addRev n ((ext + diff) / r)
  let s := s.setAxis n { x with racc := red acc, rvel := v, rmoving := Nat.testBit b 182, lost := false }
  let s := s.setReg (Reg.axVel n) (wordI (v / 262144))
  let s := { s with shg.hops := s.shg.hops.set n (bitsOf b 181 178) 0 }
  if jump then s.jumped n else s

/-- Meaning of BEACON (R255) (log 19, 42). -/
def beacon (l : Nat) (body : BitVec 576) (ta : Nat) (s : State) : State :=
  if !s.linkUpQ l then s
  else
    let b := body.toNat
    let d := (s.reg (Reg.shgLdly l)).toInt
    (List.range 16).foldl (fun s n =>
      let cfg := s.reg (Reg.axCfg n)
      let rax := s.reg (Reg.shgRax n)
      if axEn cfg && axSrc cfg == 5 && rax.bit 5 && rax.bits 4 0 == l && s.regF (Reg.axPin n) 13 0 == bitsOf b 173 160
          && s.regF (Reg.axPin n) 19 16 == bitsOf b 177 174 then s.takeBeacon n b ta d
      else s) s

/-! ## Tunnels (R252) -/

/-- Poisoned byte ranges of an egress frame: header bytes come first. -/
def EFrame.poisoned (f : EFrame) (hl : Nat) : List (Nat × Nat) :=
  (List.range f.words.length).filterMap (fun i =>
    match f.words[i]? with
    | some w => if w.tag = 3 then some (hl + 4 * i, hl + 4 * i + 4) else none
    | none => none)

/-- The SDAT payload and PMASK of packet `i` of a tunnel frame. -/
def sdatPacket (isid num : Nat) (b : List Byte) (pois : List (Nat × Nat)) (i : Nat) : List Byte × Nat :=
  let part := (b.drop (248 * i)).take 248
  let last := decide (b.length ≤ 248 * (i + 1))
  let hd := isid + (if i = 0 then 1024 else 0) + (if last then 2048 else 0) + (part.length - 1) * 4096 + num * 2 ^ 32
  let mask := (List.range 8).foldl (fun m h =>
    let lo := 248 * i + 32 * h
    if pois.any (fun r => decide (r.1 + 8 < lo + 32) && decide (lo < r.2 + 8)) then m + 2 ^ h else m) 0
  (leBytes hd 8 ++ part, mask)

/-- The oldest frame of tunnelled stream `e`, once complete, goes to the engine as SDAT packets. One that was cut, or whose
descriptor word was poison, carries its poison in its last byte (log 66). -/
def State.packTunnel (s : State) (e : Nat) : State :=
  match s.tunnelOf e with
  | none => s
  | some u =>
    match s.egrOf e with
    | [] => s
    | f :: _ =>
      if !f.complete then s
      else
        let w := s.reg (Reg.shgTun u)
        let t := s.tmplOf e f
        let seq := s.str.tseq.get t 0
        let b := (s.buildFrame t f (s.sfdStamp (s.regF (Reg.spxEgr0 e) 16 12) t) seq).take 9216
        let num := s.shg.tnum.get u 0
        let pois := f.poisoned (s.hlen t)
        let pois := if pois.isEmpty && (f.poison || f.cut || s.tooLong t f) then [(b.length - 1, b.length)] else pois
        let items := (List.range ((b.length + 247) / 248)).map (fun i =>
          let (p, m) := sdatPacket (w.bits 30 21) num b pois i
          OutItem.sdat (w.bits 20 7) p m)
        let s := s.popEgr e
        { s with
          str.tseq := s.str.tseq.set t ((seq + 1) % 4294967296) 0
          shg.tnum := s.shg.tnum.set u ((num + 1) % 4294967296) 0
          shg.outq := s.shg.outq ++ items }

/-- Every complete frame at the head of a tunnelled stream goes to the engine. -/
def State.packTunnels (s : State) : State := (List.range 64).foldl (fun s e => s.packTunnel e) s

/-- Bytes the engine holds for all tunnels: 9,216 for each frame in reassembly, and those not yet delivered. -/
def State.tunHeld (s : State) : Nat := 9216 * s.shg.tfr.length + s.str.tunnel.foldl (fun n d => n + d.held) 0

/-- Discards a frame of a tunnel (R252). -/
def State.tunDrop (s : State) (isid : Nat) : State :=
  ((s.bump Reg.shgTundrop 1).orReg Reg.shgStat 0x10).streamLost isid 1

/-- Meaning of SDAT (R252): one packet from device `src` (log 42). -/
def sdat (src : Nat) (payload : List Byte) (pmask : Nat) (s : State) : State :=
  if !s.hasShaga || !s.released then s
  else
    let h := leAt payload 0 8
    let isid := bitsOf h 9 0
    let first := Nat.testBit h 10
    let last := Nat.testBit h 11
    let part := (payload.drop 8).take (bitsOf h 19 12 + 1)
    let num := bitsOf h 63 32
    let cur := s.shg.tfr.find? (fun f => f.src == src && f.isid == isid)
    let off := match cur with
      | some f => if first then 0 else f.bytes.length
      | none => 0
    let pois := (List.range 8).filterMap (fun i =>
      if Nat.testBit pmask i then some (off + (32 * i - 8), off + (32 * (i + 1) - 8)) else none)
    let seen := s.shg.rnum.find? (fun r => r.1 == src && r.2.1 == isid)
    let close (s : State) : State :=
      match cur with
      | some f => { s with shg.tfr := s.shg.tfr.erase f }
      | none => s
    let note (s : State) : State :=
      { s with shg.rnum := (src, isid, num) :: s.shg.rnum.filter (fun r => !(r.1 == src && r.2.1 == isid)) }
    let add (s : State) (f : TunFrame) : State :=
      if last then
        let rf : RxFrame := { bytes := f.bytes, held := f.bytes.length, bad := false, stamps := f.stamps, pois := f.pois }
        let s := close s
        if !s.ingressPath isid then s.tunDrop isid
        else match s.toStream isid rf 0#32 with
          | (some d, _, s) => { s with str.tunnel := s.str.tunnel ++ [d] }
          | (none, _, s) => (s.bump Reg.shgTundrop 1).orReg Reg.shgStat 0x10
      else { close s with shg.tfr := (s.shg.tfr.filter (fun g => !(g.src == src && g.isid == isid))) ++ [f] }
    if first then
      let s := match cur with
        | some _ => (close s).tunDrop isid
        | none => s
      let gap := match seen with
        | some r => r.2.2 != (num + 4294967295) % 4294967296
        | none => false
      let s := note s
      if gap || decide (65536 < s.tunHeld + 9216) then s.tunDrop isid
      else add s { src := src, isid := isid, num := num, bytes := part, pois := pois, stamps := (List.range 16).map s.axPos }
    else
      match cur with
      | some f =>
        if f.num = num then add s { f with bytes := f.bytes ++ part, pois := f.pois ++ pois }
        else note (((close s).tunDrop isid).tunDrop isid)
      | none =>
        match seen with
        | some r => if r.2.2 = num then s else (note s).tunDrop isid
        | none => (note s).tunDrop isid

end Sys2Proof.Machine
end

