-- ==== Sys2Proof/Machine/Dispatcher.lean ====
section
/-! DEFINITION. Sys2Proof/Machine/Dispatcher.lean: threads, tokens, selection, switches of banks and the end of a run
(14_dispatcher.md; R279 to R281 and R285 of 13_conductor_cores.md). -/
namespace Sys2Proof.Machine

/-! ## Descriptors and slots (R291, R293) -/

/-- Slots that hold a token. -/
def Thread.filled (x : Thread) : Nat := ((List.range 4).filter (fun k => (x.slot k).isSome)).length

/-- A descriptor word found uncorrectable: the thread becomes FAULTED (Table IN-1, class 6). -/
def State.descFault (s : State) (t : Nat) : State :=
  (s.unready t).setThread t { s.thread t with state := 4, pend := false, nested := false }

/-- Reads descriptor word `r` of thread `t` (class address 8t + r): whether it can be used. -/
def State.descRead (s : State) (t r : Nat) : Bool × State :=
  let (u, s) := s.consult 6 (8 * t + r)
  (u, if u then s else s.descFault t)

def State.badTok (s : State) : State := (s.bump Reg.disBadtok 1).orReg Reg.disErr 8

/-- A token fills the empty slot `k` of thread `t` (R293). -/
def State.fillSlot (s : State) (t k : Nat) (v : Word) : State :=
  let x := (s.thread t).setSlot k (some v)
  let s := s.setThread t x
  if x.complete then
    if x.state = 3 then s.setThread t { x with pend := true }
    else if x.state = 1 then s.makeReady t
    else s
  else s

/-- QMAX follows the queue, and a full queue sets QFULLEV and is reported (R295). -/
def State.queued (s : State) : State :=
  let n := s.dis.overflow.length
  let s := s.setReg Reg.disQmax (word (Nat.max (s.reg Reg.disQmax).toNat n))
  if n = 2048 then
    (s.orReg Reg.disErr 0x80).report 0x16 0x1780
  else s

/-! ## Tokens (R292 to R296) -/

/-- Whether the mode accepts tokens of channel `ch` (Table DI-3a). -/
def State.accepts (s : State) (ch : Nat) : Bool :=
  match s.regF Reg.disCtrl 1 0 with
  | 0 => false
  | 1 => true
  | _ => ch == 17

/-- Injected tokens still waiting; a wait of 10 µs (12,500 EKL cycles) ends with an error response (R424). -/
def State.injExpire (s : State) : State :=
  let late := s.dis.injWait.filter (fun p => decide (p.2.1 + 12500 ≤ s.cyc))
  let s := { s with dis.injWait := s.dis.injWait.filter (fun p => decide (s.cyc < p.2.1 + 12500)) }
  late.foldl (fun s p => s.answer p.2.2 1 0#32) s

def State.injDrain (s : State) : State :=
  let s := s.injExpire
  match s.dis.injWait with
  | [] => s
  | (tk, _, w) :: r =>
    if s.maySend 17 then (({ s with dis.injWait := r }).sendToken 17 tk).answer w 0 0#32 else s

/-- Tokens of the fault collector move on when channel 15 holds a credit (R364). -/
def State.collDrain (s : State) : State :=
  match s.int.tokens with
  | [] => s
  | tk :: r => if s.maySend 15 then { s with int.tokens := r }.sendToken 15 tk else s

/-- The source of channel `ch` that waits, for a credit or for its bucket, sends its next token. -/
def State.creditReturn (s : State) (ch : Nat) : State :=
  if ch = 5 then s.palDrain
  else if 6 ≤ ch ∧ ch ≤ 13 then s.postDrain (ch - 6)
  else if ch = 14 then s.shgDrain
  else if ch = 15 then s.collDrain
  else if ch = 17 then s.injDrain
  else s

/-- Every source that waits tries again, in each cycle. -/
def State.sourcesWake (s : State) : State := (List.range 13).foldl (fun s i => s.creditReturn (5 + i)) s

/-- Every channel starts again, with an empty landing buffer and all 8 credits at its source; a token on its way is a
posted packet that the fence of PD_CND has dropped (R30, R423) (log 64). -/
def State.landAfresh (s : State) : State :=
  let n := (s.dis.chans.map (fun p => p.2.transit.length)).foldl (· + ·) 0
  let s := { s with dis.chans := [] }
  ((List.range n).foldl (fun s _ => s.fenceDrop) s).sourcesWake

/-- Meaning of TOKEN: the oldest token on its way on channel `ch` lands, or is refused by the mode (R292, R296), or is
dropped at the fence of PD_CND (R423). -/
def tokenLand (ch : Nat) (s : State) : State :=
  let c := s.chan ch
  match c.transit with
  | [] => s
  | tk :: r =>
    if s.domFenced 10 && (chanNi ch).isSome then (s.setChan ch { c with transit := r }).fenceDrop.creditReturn ch
    else if s.accepts ch then s.setChan ch { transit := r, landing := c.landing ++ [tk] }
    else (((s.setChan ch { c with transit := r }).bump Reg.disRefused 1).orReg Reg.disErr 0x10).creditReturn ch

/-- The head of a landing buffer leaves it. -/
def State.leaveLanding (s : State) (ch : Nat) : State :=
  let c := s.chan ch
  (s.setChan ch { c with landing := c.landing.drop 1 })

/-- Meaning of TOKEN_MATCH (R293, R294). -/
def tokenMatch (ch : Nat) (s : State) : State :=
  match (s.chan ch).landing with
  | [] => s
  | tk :: _ =>
    if !s.domOn 10 then s
    else
      match s.proxyOf tk.tid with
      | some i => ((s.leaveLanding ch).proxyToken i tk).creditReturn ch
      | none =>
        let (_, s) := s.descRead tk.tid 0
        let x := s.thread tk.tid
        if !x.valid || !x.mask tk.slot then ((s.leaveLanding ch).badTok).creditReturn ch
        else if (x.slot tk.slot).isNone then ((s.leaveLanding ch).fillSlot tk.tid tk.slot tk.val).creditReturn ch
        else if 2048 ≤ s.dis.overflow.length then s
        else
          let s := s.leaveLanding ch
          ({ s with dis.overflow := s.dis.overflow ++ [({ tk := tk } : QTok)] } : State).queued.creditReturn ch

/-- The oldest queued token for slot `k` of thread `t`, found at position `i`, moves into the emptied slot (R294); one
whose word is uncorrectable is discarded as a bad token. -/
def State.overflowMove (s : State) (t k : Nat) : Nat → List QTok → List QTok → State
  | _, _, [] => s
  | i, before, q :: r =>
    if q.tk.tid = t ∧ q.tk.slot = k then
      let (u, _, s) := s.findEcc 6 (8192 + i) q.ecc
      let s := { s with dis.overflow := before.reverse ++ r }
      if u then s.fillSlot t k q.tk.val else (s.badTok).overflowMove t k i before r
    else s.overflowMove t k (i + 1) (q :: before) r

/-- After a dispatch every emptied slot takes its next token. -/
def State.refill (s : State) (t : Nat) : State :=
  (List.range 4).foldl (fun s k =>
    let x := s.thread t
    if x.mask k && (x.slot k).isNone then s.overflowMove t k 0 [] s.dis.overflow else s) s

/-! ## Eviction and reload (R285, R299) -/

/-- SAVEU and then SAVEL on bank `b`: the slh and the state after them, when neither traps. -/
def State.tryEvict (s : State) (c b : Nat) : Option (Word × State) :=
  match s.saveNode c b false (s.bank c b).pc with
  | (.done n, s) =>
    let s := s.setBank c b { s.bank c b with slh := n }
    match s.saveNode c b true (s.bank c b).pc with
    | (.done n, s) => some (n, s.setBank c b { s.bank c b with slh := n })
    | _ => none
  | _ => none

/-- Thread `t` leaves bank `b` with its registers in its save list, whose head the Dispatcher keeps while the thread
still has them. -/
def State.evicted (s : State) (c b t : Nat) (slh : Word) : State :=
  let s := (s.setBank c b { s.bank c b with state := 0 }).bump Reg.disEvicts 1
  if (s.thread t).res = some (c, b) then s.setThread t { s.thread t with res := none, slh := slh } else s

/-- An eviction that is not performed (R299). -/
def State.evictFail (s : State) : State := (s.orReg Reg.disErr 4).report 0x17 0x1780

/-- Whether thread `u` leaves its bank before thread `v`: lower PRIO, then less recently run. -/
def evictBefore (u v : Thread) : Bool :=
  decide (u.prio < v.prio) || (u.prio == v.prio && decide (u.lastRun < v.lastRun))

/-- Inserts a bank into a list ordered by who is evicted first. -/
def insertEvict (x : Nat × Thread) : List (Nat × Thread) → List (Nat × Thread)
  | [] => [x]
  | y :: r => if evictBefore x.2 y.2 then x :: y :: r else y :: insertEvict x r

/-- The IDLE thread banks of core `c` whose threads may be evicted, first choice first. -/
def State.evictList (s : State) (c : Nat) : List Nat :=
  ((List.range 7).foldl (fun l i =>
    let b := i + 1
    let k := s.bank c b
    let x := s.thread k.tid
    if k.state = 1 ∧ x.pinned = false ∧ x.state ≠ 3 then insertEvict (b, x) l else l) []).map Prod.fst

/-- The first bank of the list whose eviction can be performed; each failure is recorded. -/
def State.pickEvict (s : State) (c : Nat) : List Nat → Option Nat × State
  | [] => (none, s)
  | b :: r => match s.tryEvict c b with
    | some _ => (some b, s)
    | none => s.evictFail.pickEvict c r

/-- The lowest FREE thread bank. -/
def State.freeBank (s : State) (c : Nat) : Option Nat :=
  ((List.range 7).map (· + 1)).find? (fun b => (s.bank c b).state == 0)

/-- The bank of thread `t` is ready for its run: the switch request goes to the core, or, where the thread has been
pre-empted before its first instruction, the bank is PREEMPTED at its entry (R279, R301) (log 64). -/
def State.loaded (s : State) (c b t : Nat) (vals : List (Nat × Word)) : State :=
  let x := s.core c
  if x.run.map Prod.fst = some t then s.setCore c { x with reqs := x.reqs ++ [{ bank := b, disp := some t, vals := vals }] }
  else
    let k := s.bank c b
    let g := vals.foldl (fun g p => SMap.set g p.1 p.2 0#32) k.g
    s.setBank c b { k with pc := (s.thread t).ent, sr := 0#32, xst := 0, g := g }.switchedOut

/-- A bank is given to thread `t`: at once when the load is cold, by the save engine otherwise. -/
def State.loadInto (s : State) (c b t : Nat) (vals : List (Nat × Word)) : State :=
  let x := s.thread t
  let k := s.bank c b
  let s := s.setThread t { x with res := some (c, b), cold := false }
  if x.cold then
    (s.setBank c b { k with state := 1, tid := t, slh := x.slh, g := SMap.set [] 15 x.sp 0#32 }).loaded c b t vals
  else
    let s := s.setBank c b { k with state := 5, tid := t, slh := x.slh }
    s.setCore c { s.core c with moves := { evict := false, bank := b, thread := t, vals := vals } :: (s.core c).moves }

/-- A thread resident on another core leaves it first; `false` when it cannot be evicted: it is pinned, its bank is being
moved, or R285 does not perform it (R299) (log 64). -/
def State.leaveOther (s : State) (c t : Nat) : Bool × State :=
  match (s.thread t).res with
  | none => (true, s)
  | some (k, b) =>
    if k = c then (true, s)
    else if (s.thread t).pinned || (s.bank k b).state != 1 || s.auxHeld k (s.bank k b).slh.toNat then (false, s)
    else
      match s.tryEvict k b with
      | some (n, s) => (true, s.evicted k b t n)
      | none => (false, s.evictFail)

/-- How thread `t` gets a bank of core `c`. -/
inductive Place1 where
  | resident (b : Nat)
  | free (b : Nat)
  | evict (b : Nat)
  | none
  deriving DecidableEq, Repr

/-- A bank of core `c`: a FREE one, or one whose thread can be evicted. -/
def State.findBank (s : State) (c : Nat) : Place1 × State :=
  match s.freeBank c with
  | some b => (.free b, s)
  | none =>
    match s.pickEvict c (s.evictList c) with
    | (some b, s) => (.evict b, s)
    | (none, s) => (.none, s)

/-- A bank of core `c` for thread `t`, which is not resident there. -/
def State.placeNew (s : State) (c t : Nat) : Place1 × State :=
  match s.findBank c with
  | (.none, s) => (.none, s)
  | (p, s) =>
    let (ok, s) := s.leaveOther c t
    (if ok then p else .none, s)

/-- R299: the bank for thread `t` on core `c`; a bank that the save engine is moving serves nobody. -/
def State.placeOn (s : State) (c t : Nat) : Place1 × State :=
  match (s.thread t).res with
  | some (k, b) =>
    if k ≠ c then s.placeNew c t
    else if (s.bank c b).state = 5 then (.none, s)
    else (.resident b, s)
  | none => s.placeNew c t

/-- Thread `t` starts on core `c` in the bank chosen for it, with the values taken from its slots. -/
def State.startOn (s : State) (c t : Nat) (p : Place1) (vals : List (Nat × Word)) : State :=
  match p with
  | .resident b => s.loaded c b t vals
  | .free b => s.loadInto c b t vals
  | .evict b =>
    let s := s.setBank c b { s.bank c b with state := 5 }
    s.setCore c { s.core c with moves := (s.core c).moves ++ [{ evict := true, bank := b, thread := t, vals := vals }] }
  | .none => s

/-! ## Selection (R298 to R301) -/

/-- Whether core `c` is eligible for thread `t` (R298). -/
def State.eligible (s : State) (c t : Nat) : Bool :=
  let x := s.core c
  s.hasCore c && s.domOn 10 && s.regB Reg.disCore c && (s.thread t).aff c && !s.coreHalted c && !x.held

/-- The eligible core thread `t` would take, with whether that is a pre-emption. -/
def State.chooseCore (s : State) (t : Nat) : Option (Nat × Bool) :=
  let cs := (List.range 8).filter (fun c => s.eligible c t)
  let idle := cs.filter (fun c => (s.core c).run.isNone)
  match (idle.find? (fun c => s.residesOn t c)).orElse (fun _ => idle.head?) with
  | some c => some (c, false)
  | none =>
    let pr (c : Nat) : Nat := match (s.core c).run with | some (_, p) => p | none => 0
    let best := cs.foldl (fun (b : Option Nat) c =>
      match b with
      | none => some c
      | some k =>
        if pr c < pr k ∨ (pr c = pr k ∧ s.residesOn t c ∧ ¬ s.residesOn t k) then some c else b) none
    match best with
    | some c => if pr c < (s.thread t).prio then some (c, true) else none
    | none => none

/-- Takes the slot values of thread `t`, which becomes ACTIVE, and lets queued tokens follow (R298, R294). -/
def State.takeSlots (s : State) (t : Nat) : List (Nat × Word) × State :=
  let x := s.thread t
  let vals := (List.range 4).filterMap (fun k => if x.mask k then (x.slot k).map (fun v => (k, v)) else none)
  let y := (List.range 4).foldl (fun (y : Thread) k => if x.mask k then y.setSlot k none else y) x
  let s := (s.unready t).setThread t { y with state := 3, pend := false, nested := false }
  (vals, s.refill t)

/-- Runs thread `t` on core `c` in the bank chosen for it; `push` keeps the pre-empted thread. -/
def State.dispatch (s : State) (c t : Nat) (p : Place1) (push : Bool) : State :=
  let prio := (s.thread t).prio
  let (vals, s) := s.takeSlots t
  let x := s.core c
  let stack := if push then (match x.run with | some r => r :: x.stack | none => x.stack) else x.stack
  let s := (s.setCore c { x with run := some (t, prio), stack := stack }).bump Reg.disDispatches 1
  let s := if push then s.bump Reg.disPreempts 1 else s
  s.startOn c t p vals

/-- A pre-emption that would need an eighth bank (R300). -/
def State.nestBlocked (s : State) (t : Nat) : State :=
  let x := s.thread t
  if x.nested then s
  else ((s.setThread t { x with nested := true }).orReg Reg.disErr 1).bump Reg.disNestcnt 1

/-- The words of the descriptor and of the slots that a dispatch of thread `t` reads can be used; an uncorrectable slot
word is discarded as a bad token (Table IN-1, class 6). -/
def State.dispatchReads (s : State) (t : Nat) : Bool × State :=
  let (ok, s) := (List.range 4).foldl (fun (p : Bool × State) r =>
    let (u, s) := p.2.descRead t r
    (p.1 && u, s)) (true, s)
  if !ok then (false, s)
  else
    (List.range 4).foldl (fun (p : Bool × State) k =>
      if (s.thread t).mask k then
        let (u, s) := p.2.consult 6 (8 * t + 4 + k)
        if u then (p.1, s)
        else
          let s := (s.unready t).badTok.setWordEcc 6 (8 * t + 4 + k) .ok
          (false, s.setThread t { ((s.thread t).setSlot k none) with state := 1 })
      else p) (true, s)

/-- The blocked episode of thread `t` ends when a selection finds it not blocked (R300) (log 64). -/
def State.unblocked (s : State) (t : Nat) : State :=
  if (s.thread t).nested then s.setThread t { s.thread t with nested := false } else s

/-- Tries the READY threads in order; at most one is selected. -/
def State.selectFrom (s : State) : List Nat → State
  | [] => s
  | t :: r =>
    if s.regF Reg.disCtrl 1 0 = 3 ∧ (s.thread t).rcv = false then s.selectFrom r
    else
      match s.chooseCore t with
      | none => (s.unblocked t).selectFrom r
      | some (c, pre) =>
        if pre && decide (7 ≤ (s.core c).stack.length + 1) then (s.nestBlocked t).selectFrom r
        else
          let (ok, s) := (s.unblocked t).dispatchReads t
          if !ok then s.selectFrom r
          else
            match s.placeOn c t with
            | (.none, s) => (s.orReg Reg.disErr 2).selectFrom r
            | (p, s) => s.dispatch c t p pre

/-- READY threads, priority 15 first, each list from its head. -/
def State.readyOrder (s : State) : List Nat := (List.range 16).flatMap (fun i => s.readyList (15 - i))

/-- Meaning of SELECTION (R298). -/
def selection (s : State) : State :=
  if !s.domOn 10 || s.regF Reg.disCtrl 1 0 = 0 then s else s.selectFrom s.readyOrder

/-- The READY threads core `c` may take after a run has ended there, while the thread to be resumed has priority `min`
(R301); whether one of them does. -/
def State.afterRun (s : State) (c : Nat) (min : Option Nat) : List Nat → Bool × State
  | [] => (false, s)
  | t :: r =>
    let x := s.thread t
    let mode := s.regF Reg.disCtrl 1 0
    let high := match min with | none => true | some p => decide (p < x.prio)
    if mode = 0 ∨ (mode = 3 ∧ x.rcv = false) ∨ high = false ∨ s.eligible c t = false then s.afterRun c min r
    else
      match s.dispatchReads t with
      | (true, s) =>
        match s.placeOn c t with
        | (.none, s) => (s.orReg Reg.disErr 2).afterRun c min r
        | (p, s) => (true, s.dispatch c t p false)
      | (false, s) => s.afterRun c min r

/-- The thread on top of the pre-empted ones of core `c` runs again. Its bank resumes by a switch request when it is
PREEMPTED; one that the save engine still loads, or that is active, needs none (R301) (log 64). -/
def State.resumeTop (s : State) (c : Nat) : State :=
  let x := s.core c
  match x.stack with
  | [] => s.setCore c { x with run := none }
  | (u, p) :: rest =>
    let s := s.setCore c { x with run := some (u, p), stack := rest }
    match (s.thread u).res with
    | some (k, b) =>
      if k = c ∧ (x.bank b).state = 3 then
        s.setCore c { s.core c with reqs := x.reqs ++ [{ bank := b, disp := none, vals := [] }] }
      else s
    | none => s

/-- R301: the end of the run of thread `t` on core `c`. -/
def State.runEnd (s : State) (c t : Nat) : State :=
  let s := { s with dis.runCount := s.dis.runCount + 1 }
  let x := { s.thread t with lastRun := s.dis.runCount }
  let st := if !x.valid then 0 else if x.state = 4 then 4 else 1
  let s : State :=
    if x.dying then
      let s : State := match x.res with
        | some (k, b) => s.setBank k b { s.bank k b with state := 0 }
        | none => s
      s.setThread t { x with dying := false, res := none, cold := true, pend := false, state := st }
    else s.setThread t { x with pend := false, state := st }
  let s := if (s.thread t).state = 1 ∧ (s.thread t).complete then s.makeReady t else s
  let y := s.core c
  if y.run.map Prod.fst ≠ some t then s.setCore c { y with stack := y.stack.filter (fun p => p.1 != t) }
  else
    let s := s.setCore c { y with run := none }
    match s.afterRun c (y.stack.head?.map Prod.snd) s.readyOrder with
    | (true, s) => s
    | (false, s) => s.resumeTop c

/-- DONE (R281): in b0 it raises ILLEGAL (log 43). -/
def semDone (c : Nat) (w : Word) (s : State) : State :=
  let x := s.core c
  match x.active with
  | none => s
  | some b =>
    if b = 0 then s.illegalC c w
    else
      let k := x.bank b
      let x := { x with active := none, xown := if x.xown = b then 0 else x.xown, want := none }
      let s := s.setCore c (x.setBank b { k with state := 1, pc := k.pc + 4#32, xst := 0 })
      s.runEnd c k.tid

/-- Meaning of SWITCH_REQUEST (R279, R280): the oldest request of core `c`; it waits while b0 is active, an RPT runs or
the save engine moves the bank (log 43). -/
def switchRequest (c : Nat) (s : State) : State :=
  let x := s.core c
  match x.reqs with
  | [] => s
  | q :: rest =>
    if !s.coreRuns c || x.active = some 0 || x.rpt.isSome || (x.bank q.bank).state = 5 then s
    else
      let s := s.setCore c { x with reqs := rest, want := none }
      let s := match x.active with
        | some a => s.switchOut c a
        | none => s
      let s := s.bump (Reg.cndSwitch c) 1
      match q.disp with
      | none => s.switchIn c q.bank
      | some t =>
        let k := s.bank c q.bank
        let g := q.vals.foldl (fun g p => SMap.set g p.1 p.2 0#32) k.g
        let k := { k with state := 2, pc := (s.thread t).ent, sr := 0#32, xst := 0, g := g }
        let x := (s.core c).setBank q.bank k
        s.setCore c { x with active := some q.bank }

/-- A dispatch of thread `t` on core `c` that cannot get its bank after all: the thread is READY again with its values,
and the core returns to the thread below (R299) (log 64). -/
def State.putBack (s : State) (c t : Nat) (vals : List (Nat × Word)) : State :=
  let x := s.core c
  let s := if x.run.map Prod.fst = some t then s.resumeTop c
    else s.setCore c { x with stack := x.stack.filter (fun p => p.1 != t) }
  (s.unselect t vals).orReg Reg.disErr 2

/-- The save engine of core `c` has ended the move `m` at the head of its work. -/
def State.moveEnd (s : State) (c : Nat) : State := s.setCore c { s.core c with moves := (s.core c).moves.drop 1 }

/-- Meaning of EVICT_DONE (R285, R299): the bank is saved and given to the thread that waits for it; an eviction that
cannot be performed tries the next candidate. -/
def evictDone (c : Nat) (s : State) : State :=
  match (s.core c).moves with
  | [] => s
  | m :: _ =>
    let b := m.bank
    if !m.evict || s.auxHeld c (s.bank c b).slh.toNat then s
    else
      let s := s.moveEnd c
      match s.tryEvict c b with
      | some (n, s) => (s.evicted c b (s.bank c b).tid n).loadInto c b m.thread m.vals
      | none =>
        let k := s.bank c b
        let stays := (s.thread k.tid).res = some (c, b)
        let s := (s.setBank c b { k with state := if stays then 1 else 0 }).evictFail
        match s.pickEvict c ((s.evictList c).filter (· != b)) with
        | (some b2, s) => s.startOn c m.thread (.evict b2) m.vals
        | (none, s) => s.putBack c m.thread m.vals

/-- A reload that cannot be made: the bank is FREE again and the dispatch is put back. -/
def State.reloadFail (s : State) (c : Nat) (m : Move) : State :=
  let s := s.setBank c m.bank { s.bank c m.bank with state := 0 }
  ((s.setThread m.thread { s.thread m.thread with res := none }).evictFail).putBack c m.thread m.vals

/-- Meaning of RELOAD_DONE (R285): RESTLJ and then RESTU on the bank; a save list that cannot be restored counts as a
failed eviction (log 40). -/
def reloadDone (c : Nat) (s : State) : State :=
  match (s.core c).moves with
  | [] => s
  | m :: _ =>
    let b := m.bank
    if m.evict || s.auxHeld c (s.bank c b).slh.toNat then s
    else
      let s := s.moveEnd c
      match s.restNode c b true true with
      | (.done n, ws, s) =>
        let s := s.setBank c b { (s.bank c b).restored true n ws with pc := ws.getD 10 0#32 }
        match s.restNode c b false false with
        | (.done n, ws, s) =>
          (s.setBank c b { (s.bank c b).restored false n ws with state := 1 }).loaded c b m.thread m.vals
        | (_, _, s) => s.reloadFail c m
      | (_, _, s) => s.reloadFail c m

/-! ## Commands (R291, R302, R303, R424) -/

/-- A cancel of thread `t` (R302). -/
def State.cancelThread (s : State) (t : Nat) : State :=
  let x := s.thread t
  let q := s.dis.overflow.filter (fun q => q.tk.tid == t)
  let s := { s with dis.overflow := s.dis.overflow.filter (fun q => q.tk.tid != t) }
  let s := s.unready t
  let st := if x.state = 2 then 1 else x.state
  let y := { x with slot0 := none, slot1 := none, slot2 := none, slot3 := none, pend := false, nested := false, state := st }
  (s.setThread t y).bump Reg.disCancelDiscard (x.filled + q.length)

/-- Meaning of DIS_CANCEL (R302). -/
def disCancel (t : Nat) (s : State) : State := s.ok.cancelThread t

/-- An ill-timed descriptor write (R291). -/
def State.cfgRefused (s : State) : State := s.err.orReg Reg.disErr 0x20

/-- Whether some core runs thread `t` or holds it pre-empted. -/
def State.runsNow (s : State) (t : Nat) : Bool :=
  (List.range 8).any (fun c => (s.core c).run.map Prod.fst == some t || (s.core c).stack.any (fun p => p.1 == t))

/-- A write of DIS_TCFGt (R291, R302); a bank that the save engine is moving is freed when the move ends. -/
def State.tcfgWrite (s : State) (t : Nat) (d : Word) : State :=
  let d := d &&& 0x7FFFF#32
  let x := s.thread t
  if x.valid && d.bit 16 && d.bits 15 12 != x.cfg.bits 15 12 then s.cfgRefused
  else
    let s := (s.ok.setWordEcc 6 (8 * t) .ok)
    if !d.bit 16 then
      let s := (s.setThread t { x with cfg := d }).cancelThread t
      let x := s.thread t
      if x.state = 3 || s.runsNow t then s.setThread t { x with state := 3, dying := true }
      else
        let s := match x.res with
          | some (k, b) => if (s.bank k b).state = 1 then s.setBank k b { s.bank k b with state := 0 } else s
          | none => s
        s.setThread t { x with state := 0, res := none, cold := true, dying := false }
    else
      let y := { x with cfg := d }
      if !x.valid then s.setThread t { y with state := if x.state = 0 then 1 else x.state }
      else if x.state = 2 ∧ y.prio ≠ x.prio then ((s.unready t).setThread t y).enqueue t
      else s.setThread t y

/-- Meaning of THREAD_CFG_WRITE (R291): `r` is DIS_TCFGt, DIS_TENTt, DIS_TSLHt or DIS_TSPt. -/
def threadCfgWrite (t r : Nat) (d : Word) (s : State) : State :=
  let x := s.thread t
  match r with
  | 0 => s.tcfgWrite t d
  | 1 =>
    let e := d &&& 0xFFFC#32
    if x.valid && e != x.ent then s.cfgRefused
    else (s.ok.setWordEcc 6 (8 * t + 1) .ok).setThread t { x with ent := e }
  | 2 => if x.valid then s.cfgRefused else (s.ok.setWordEcc 6 (8 * t + 2) .ok).setThread t { x with slh := d }
  | _ => if x.valid then s.cfgRefused else (s.ok.setWordEcc 6 (8 * t + 3) .ok).setThread t { x with sp := d }

/-- A write of DIS_INJ by `w` (R424): the token goes to channel 17, or the write waits for a credit. -/
def State.inject (s : State) (w : Asker) (d : Word) : State :=
  let tk : Token := { tid := d.bits 9 0, slot := d.bits 11 10, val := s.reg Reg.disInjv }
  let s := s.injExpire
  if s.dis.injWait.isEmpty && s.maySend 17 then s.ok.sendToken 17 tk
  else { s.respond 5 0#32 with dis.injWait := s.dis.injWait ++ [(tk, s.cyc, w)] }

/-- Meaning of DIS_INJ (R424). -/
def disInj (d : Word) (s : State) : State := s.inject (.direct (.ni 42)) d

/-- Meaning of DIS_CORE_WRITE (R303). -/
def disCoreWrite (d : Word) (s : State) : State :=
  if (List.range 8).any (fun c => d.bit c && (s.core c).dfault) then s.err
  else s.ok.setReg Reg.disCore (d &&& 0xFF#32)

/-! ## Reads (Tables DI-6 and DI-7) -/

def State.disStatRead (s : State) : Word :=
  let n := s.dis.overflow.length
  word n ||| Word.flag (decide (n = 2048)) 12

def State.disCpriRead (s : State) (c : Nat) : Word :=
  let x := s.core c
  let p := match x.run with | some (_, p) => p | none => 0
  let d := (List.range 8).filter (fun b => (x.bank b).state == 2 || (x.bank b).state == 3)
  word (p + Nat.min 7 d.length * 32) ||| Word.flag (x.run.isSome || x.active.isSome) 4

def State.disTstRead (s : State) (t : Nat) : Word :=
  let x := s.thread t
  let fill := (List.range 4).foldl (fun a k => if (x.slot k).isSome then a + 2 ^ k else a) 0
  let (c, b) := x.res.getD (0, 0)
  let q := (s.dis.overflow.filter (fun q => q.tk.tid == t)).length
  word (x.state + fill * 8 + c * 256 + b * 2048 + q % 4096 * 65536) ||| Word.flag x.pend 7 ||| Word.flag x.res.isSome 14
    ||| Word.flag x.cold 15

def State.disTvalRead (s : State) (t k : Nat) : Word := ((s.thread t).slot k).getD 0#32

/-- Descriptor register `r` of thread `t`. -/
def State.disTdescRead (s : State) (t r : Nat) : Word :=
  let x := s.thread t
  match r with
  | 0 => x.cfg
  | 1 => x.ent
  | 2 => x.slh
  | _ => x.sp

/-- A read of DIS_QMAX returns it and restarts it from the present QCNT. -/
def State.disQmaxRead (s : State) : Word × State :=
  (s.reg Reg.disQmax, s.setReg Reg.disQmax (word s.dis.overflow.length))

end Sys2Proof.Machine
end

