-- ==== Sys2Proof/Machine/Image.lean ====
section
/-! DEFINITION. Sys2Proof/Machine/Image.lean: the flash, boot directory, commit sectors and images, with the checks of
steps 4 and 6 of Table BS-8 (R307 to R312, R316, R317 of 15_boot_security.md) and the driver check of R125. -/
namespace Sys2Proof.Machine

/-! ## Flash -/

/-- The flash end of a 512 MiB part (R307). -/
def flashEnd : Nat := 0x20000000

def State.flashByte (s : State) (a : Nat) : Nat := s.flash.get a 255
def State.flashBytes (s : State) (a n : Nat) : List Byte := (List.range n).map (fun i => BitVec.ofNat 8 (s.flashByte (a + i)))

/-- Programs bytes: a program operation only clears bits. -/
def State.flashProg (s : State) (a : Nat) (b : List Byte) : State :=
  (b.zip (List.range b.length)).foldl (fun s p =>
    { s with flash := s.flash.set (a + p.2) (s.flashByte (a + p.2) &&& p.1.toNat) 255 }) s

/-- Erases the 4 KiB sectors that cover `n` bytes from `a`, which starts a sector. -/
def State.flashErase (s : State) (a n : Nat) : State :=
  let e := a + (n + 4095) / 4096 * 4096
  { s with flash := s.flash.filter (fun p => decide (p.1 < a) || decide (e ≤ p.1)) }

def le32 (l : List Byte) (i : Nat) : Nat := leAt l i 4

/-- A 32-byte string as a digest. -/
def digAt (l : List Byte) (i : Nat) : BitVec 256 := BitVec.ofNat 256 (beAt l i 32)
def digBytes (d : BitVec 256) : List Byte := beBytes d.toNat 32

/-! ## Boot directory and commit sectors (R308, R309) -/

def dirAt (c : Nat) : Nat := 0x1000 * c
def State.dirBytes (s : State) (c : Nat) : List Byte := s.flashBytes (dirAt c) 64

def State.dirValid (s : State) (c : Nat) : Bool :=
  let b := s.dirBytes c
  le32 b 0 == 0x4B5A4449 && leAt b 4 2 == 1 && le32 b 0x3C == crc32 (b.take 0x3C)

def State.dirSeq (s : State) (c : Nat) : Nat := le32 (s.dirBytes c) 8

/-- The directory copy in use (R308). -/
def State.dirUse (s : State) : Option Nat :=
  if s.dirValid 0 && s.dirValid 1 then some (if s.dirSeq 0 < s.dirSeq 1 then 1 else 0)
  else if s.dirValid 0 then some 0
  else if s.dirValid 1 then some 1
  else none

def bayBase (b : Nat) : Nat := if b = 0 then 0x01000000 else 0x11000000

/-- Largest image of a Bay (R307). -/
def bayCap (b : Nat) : Nat := if b = 0 then 0x10000000 - 0x1000 else flashEnd - 0x11001000

def State.commit (s : State) (b : Nat) : List Byte := s.flashBytes (bayBase b) 0x34

def State.committed (s : State) (b : Nat) : Bool :=
  let c := s.commit b
  le32 c 0 == 0x4B5A434D && le32 c 0x30 == crc32 (c.take 0x30)

def State.cseq (s : State) (b : Nat) : Nat := if s.committed b then le32 (s.commit b) 8 else 0

/-- Progress byte `i` of an update (Table BS-3). -/
def State.progByte (s : State) (b i : Nat) : Nat := s.flashByte (bayBase b + 0x100 + i)

/-- Highest update step begun, by the progress bytes. -/
def State.bayStep (s : State) (b : Nat) : Nat :=
  (List.range 4).foldl (fun m i => if s.progByte b i = 0 then i + 1 else m) 0

/-- The order in which a start tries the Bays (R318). -/
def State.bayOrder (s : State) : List Nat :=
  match s.dirUse with
  | some c => if Nat.testBit (byteAt (s.dirBytes c) 0x0C) 0 then [1, 0] else [0, 1]
  | none => if s.cseq 0 < s.cseq 1 then [1, 0] else [0, 1]

/-! ## Images (R310 to R312) -/

/-- A section table entry (Table BS-5). -/
structure Section where
  kind : Nat
  inst : Nat
  off  : Nat
  len  : Nat
  dig  : BitVec 256
  deriving DecidableEq, Repr

def imgBase (b : Nat) : Nat := bayBase b + 0x1000
def State.header (s : State) (b : Nat) : List Byte := s.flashBytes (imgBase b) 512
def imgNsect (h : List Byte) : Nat := le32 h 0x1C
def imgLen (h : List Byte) : Nat := le32 h 0x18
def imgRoll (h : List Byte) : Nat := bitsOf (le32 h 0x10) 6 0
def imgUnits (h : List Byte) : Nat := le32 h 0x0C

/-- The section table as bytes. -/
def State.tableBytes (s : State) (b : Nat) (h : List Byte) : List Byte :=
  s.flashBytes (imgBase b + 0x200) (64 * Nat.min (imgNsect h) 64)

/-- The section table. -/
def State.sections (s : State) (b : Nat) : List Section :=
  let h := s.header b
  let t := s.tableBytes b h
  (List.range (Nat.min (imgNsect h) 64)).map (fun i =>
    { kind := byteAt t (64 * i), inst := byteAt t (64 * i + 1), off := le32 t (64 * i + 4), len := le32 t (64 * i + 8),
      dig := digAt t (64 * i + 0x20) })

/-- Whether a body is placed as R311 asks. -/
def bodyOk (nsect len : Nat) (x : Section) : Bool :=
  decide (0x200 + 64 * nsect ≤ x.off) && decide (x.off + x.len ≤ len) && x.off % 64 == 0

/-- Whether no two bodies overlap. -/
def noOverlap : List Section → Bool
  | [] => true
  | x :: r => r.all (fun y => decide (x.off + x.len ≤ y.off) || decide (y.off + y.len ≤ x.off) || x.len == 0 || y.len == 0)
      && noOverlap r

/-- The checks of step 4 of Table BS-8 in order: 0, or the first cause. `hdig` is that of the commit record, when there
is one to compare. -/
def State.checkHeader (s : State) (b : Nat) (hdig : Option (BitVec 256)) : Nat :=
  let h := s.header b
  let n := imgNsect h
  let body (i k : Nat) : List Byte := (h.drop i).take k
  let hz := putAt h 8 (List.replicate 4 0#8)
  let chain := Nat.testBit (le32 h 0x24) 0
  let root := body 0x40 64
  let sign := body 0x80 64
  let kzsk : List Byte := [0x4B#8, 0x5A#8, 0x53#8, 0x4B#8]
  if le32 h 0 ≠ 0x4B5A494D ∨ le32 h 8 ≠ crc32 hz ∨ (hdig.map (fun d => d != Config.sm3 h)).getD false = true then 2
  else if leAt h 4 2 ≠ 1 ∨ leAt h 6 2 ≠ 0x4B5A ∨ imgUnits h &&& devUnits s.part.variant ≠ imgUnits h then 3
  else if bayCap b < imgLen h ∨ n = 0 ∨ 64 < n ∨ (s.sections b).all (bodyOk n (imgLen h)) = false
      ∨ noOverlap (s.sections b) = false then 4
  else if s.otp.cust = 0#256 ∨ Config.sm3 root ≠ s.otp.cust
      ∨ (chain && !Config.sm2Verify root (kzsk ++ sign ++ body 0x28 4) (body 0xC0 64)) = true
      ∨ Config.sm2Verify (if chain then sign else root) (h.take 0x100 ++ s.tableBytes b h) (body 0x100 64) = false then 6
  else if imgRoll h < s.otp.roll ∨ 64 < imgRoll h then 7
  else 0

/-- A section body. -/
def State.bodyBytes (s : State) (b : Nat) (x : Section) : List Byte := s.flashBytes (imgBase b + x.off) x.len

/-- The digest checks of step 6 in table order: 0, or cause 0x05. -/
def State.checkDigests (s : State) (b : Nat) : Nat :=
  if (s.sections b).all (fun x => Config.sm3 (s.bodyBytes b x) == x.dig) then 0 else 5

/-- Cause 0x0E: CTX and STENCIL sections pair up, with Stencils of 8,192 bytes (R317, R343). -/
def stencilsBad (xs : List Section) : Bool :=
  xs.any (fun x =>
    (x.kind == 1 && !xs.any (fun y => y.kind == 7 && y.inst == x.inst))
      || (x.kind == 7 && (x.len != 8192 || !xs.any (fun y => y.kind == 1 && y.inst == x.inst))))

/-- The last section of a kind and instance, the one in effect (R312). -/
def lastSection (xs : List Section) (kind inst : Nat) : Option Section :=
  xs.reverse.find? (fun x => x.kind == kind && x.inst == inst)

/-! ## The driver and PASS check (R125) -/

/-- The context of local index `l`, slot `sl` in a Panel image given as bytes. -/
def imgCtx (img : List Byte) (l sl : Nat) : Ctx := BitVec.ofNat 512 (leAt img (512 * l + 64 * sl) 64)

/-- Whether Panel contexts `f l sl` break R125. -/
def driverConflict (f : Nat → Nat → Ctx) : Bool :=
  (List.range 8).any (fun j => (List.range 8).any (fun line => (List.range 8).any (fun sl =>
    let loc (i : Nat) : Nat := if j < 4 then 8 * line + i else 8 * i + line
    let code (i : Nat) : Nat := let c := f (loc i) sl; if Ctx.cv c then Ctx.xdrv c j else 0
    let drv := (List.range 8).filter (fun i => code i != 0)
    decide (1 < drv.length) || (List.range 8).any (fun i => code i == 1 && i != entryIdx j))))

end Sys2Proof.Machine
end

