-- ==== Sys2Proof/Machine/Sketch.lean ====
section
/-! DEFINITION. Sys2Proof/Machine/Sketch.lean: the triggers, the latch instant and the record of a Sketch
(R382 to R386 of 18_management_observation.md) and the system latch (R257 of 12_shaga_link.md). -/
namespace Sys2Proof.Machine

def State.sk (s : State) : Sketch := s.mgt.sk
def State.setSk (s : State) (k : Sketch) : State := { s with mgt.sk := k }

/-- Primer mode (DEV_STATUS.PRIMER). -/
def State.primer (s : State) : Bool := s.regB Reg.devStatus 3

/-- A trigger that finds the Sketch locked (R384). -/
def State.sketchMiss (s : State) : State :=
  ((s.bump Reg.mgtSkmiss 1).orReg Reg.mgtSkstat 8).report 0x1D 0x1900

/-- A trigger of source `src` with trigger cycle `t` (R382, R383). -/
def State.trigger (s : State) (src t : Nat) (set : Sketch → Sketch) : State :=
  let ok := s.regB Reg.mgtSkctrl 0 && (s.released || (s.primer && src == 3))
  if !ok then s
  else
    let k := s.sk
    let join (k : Sketch) : Sketch := set { k with src := k.src ||| 2 ^ src }
    if k.locked then s.sketchMiss
    else
      match k.t0 with
      | none => s.setSk { join { k with src := 0, entry := none, tdev := 0, seq := 0, late := false } with t0 := some t }
      | some u => if t ≤ u + 15 then s.setSk (join k) else s.sketchMiss

/-- The SKETCH actions of a cycle, with `i` the lowest index of their entries (R72, R83). -/
def State.sketchAction (s : State) (i : Nat) : State :=
  s.trigger 0 (s.cyc + 1) (fun k => { k with entry := match k.entry with | some j => some (Nat.min i j) | none => some i })

/-! ## The system latch (R257) -/

/-- The device's axis with an origin identity. -/
def State.axisOf (s : State) (dev ax : Nat) : Option Nat :=
  (List.range 16).find? (fun n => axEn (s.reg (Reg.axCfg n)) && (s.axisOrigin n).1 == dev && (s.axisOrigin n).2.1 == ax)

/-- The system latch raises the trigger; SHG_STAT.SKLATE is set when it is late. -/
def State.raiseLatch (s : State) (l : SysLatch) (late : Bool) : State :=
  let s := { s with shg.latch := none }
  let s := if late then s.orReg Reg.shgStat 0x80 else s
  s.trigger 1 (s.cyc + 1) (fun k => { k with tdev := l.tdev, seq := l.seq, late := k.late || late })

/-- Whether the latch's axis stands at or past TPOS (log 52). -/
def State.latchHit (s : State) (l : SysLatch) : Bool :=
  let m := (s.reg (Reg.axMod l.axis)).toNat
  if l.up then atOrAbove m (s.axPos l.axis) l.tpos else atOrBelow m (s.axPos l.axis) l.tpos

/-- Arms the system latch, or raises it at once (log 52). -/
def State.armLatch (s : State) (tdev seq adev aaxis : Nat) (tpos : Pos) : State :=
  let n := s.axisOf adev aaxis
  let l : SysLatch := { adev := adev, aaxis := aaxis, tpos := tpos, axis := n.getD 0,
                        up := decide (0 ≤ s.axVelocity (n.getD 0)), tdev := tdev, seq := seq }
  match n with
  | none => s.raiseLatch l true
  | some a =>
    if !(s.axStatus a).bit 1 || s.latchHit l then s.raiseLatch l true
    else { s with shg.latch := some l }

/-- The body of a SKETCH cell (Table SH-3). -/
def sketchBody (tdev seq adev aaxis : Nat) (tpos : Pos) : BitVec 576 :=
  BitVec.ofNat 576 (tdev + seq * 2 ^ 14 + adev * 2 ^ 22 + aaxis * 2 ^ 36 + tpos.toNat * 2 ^ 40)

/-- Sends a SKETCH cell on every link that is UP, has SKFWD = 1 and is not link `from_`. SRC is the device of its origin,
TDEV (Table SH-2). -/
def State.floodSketch (s : State) (from_ : Nat) (body : BitVec 576) : State :=
  (List.range 32).foldl (fun s l =>
    if l != from_ && s.linkUpQ l && s.regB (Reg.shgLcfg l) 5 then
      s.txCells l [{ hdr := mkHdr 6 0 0 (s.regF (Reg.shgLpeer l) 13 0) (bitsOf body.toNat 13 0) 0, body := body }]
    else s) s

/-- A SKETCH action with SYS = 1 (R83, R257): the cell is sent and the own latch is armed in place of a trigger. -/
def State.systemSketch (s : State) : State :=
  let a := s.regF Reg.shgSkcfg 3 0
  let seq := s.regF Reg.shgSkseq 7 0
  let (dev, ax, _) := s.axisOrigin a
  let m := (s.reg (Reg.axMod a)).toNat
  let tpos := reducePos m ((s.axPos a).toInt + (s.reg Reg.shgSklead).toInt)
  let s := s.setReg Reg.shgSkseq (word ((seq + 1) % 256))
  let s := { s with shg.skseq := s.shg.skseq.set s.did (some seq) none }
  (s.floodSketch 32 (sketchBody s.did seq dev ax tpos)).armLatch s.did seq dev ax tpos

/-- Meaning of SKETCH_CELL (R257). -/
def sketchCell (l : Nat) (body : Nat) (s : State) : State :=
  if !s.linkUpQ l then s
  else
    let tdev := bitsOf body 13 0
    let seq := bitsOf body 21 14
    if s.shg.skseq.get tdev none = some seq then s
    else
      let s := { s with shg.skseq := s.shg.skseq.set tdev (some seq) none }
      let s := s.floodSketch l (BitVec.ofNat 576 body)
      if s.regB Reg.shgSkcfg 4 then
        s.armLatch tdev seq (bitsOf body 35 22) (bitsOf body 39 36) (BitVec.ofNat 64 (bitsOf body 103 40))
      else s

/-- Meaning of SYSTEM_LATCH (R257): the axis crosses TPOS (log 52). -/
def systemLatch (s : State) : State :=
  match s.shg.latch with
  | some l => if s.latchHit l then s.raiseLatch l false else s
  | none => s

/-- Meaning of SKLATE (R257): 1 ms after arming without a crossing. -/
def sklate (s : State) : State :=
  match s.shg.latch with
  | some l => s.raiseLatch l true
  | none => s

/-! ## Other sources (Table MO-5) -/

/-- Meaning of TRIG (R382). -/
def trig (s : State) : State := s.ok.trigger 3 (s.cyc + 1) id

/-- Meaning of SKETCH_IN (R382). -/
def sketchIn (s : State) : State :=
  if s.regB Reg.mgtSkctrl 1 then s.trigger 2 (s.cyc + 2) id else s

/-- Meaning of REARM (R384). -/
def rearm (s : State) : State := s.ok.setSk { s.sk with locked := false }

/-! ## The latch instant and the record (R383, R386) -/

/-- Armed entries of the schedule (EAS_ARMCNT). -/
def State.armCount (s : State) : Nat := (s.eas.entries.filter (fun p => p.2.armed)).length

/-- EAS_TPOUT and EAS_TPIN, 32 pins from `k` on (Tables EA-4 and ES-9). -/
def State.tpOut (s : State) (k : Nat) : Word :=
  word ((List.range 32).foldl (fun a i => if (s.pin (k + i)).active then a + 2 ^ i else a) 0)
def State.tpIn (s : State) (k : Nat) : Word :=
  word ((List.range 32).foldl (fun a i => if s.pinLevel (k + i) then a + 2 ^ i else a) 0)

/-- FLT_TIME in µs: 1,250 EKL cycles each (R366). -/
def State.fltTime (s : State) : Nat := s.cyc / 1250 % 2 ^ 48

/-- MGT_EKLC: EKL cycles since the release from reset. -/
def State.eklc (s : State) : Nat := s.cyc - s.rstCyc

/-- Valid entries of the collector. -/
def State.fltValid (s : State) : Nat := (s.int.entries.filter (fun p => p.2.valid)).length

/-- The units that latch: present and neither fenced nor powered down, in the layout of DEV_UNITS (R28). -/
def State.skAvail (s : State) : Nat :=
  (List.range 20).foldl (fun a i =>
    let d := if i < 10 then some i else if i < 18 then some 10 else none
    let up := match d with | some d => !s.domFenced d | none => true
    if s.has i && up then a + 2 ^ i else a) 0

/-- The words of the record before its CRC (Table MO-6), at latch cycle LCYC. -/
def State.skWords (s : State) (k : Sketch) (lcyc : Nat) : List Word :=
  let av := s.skAvail
  let lo (n : Nat) : Word := word n
  let hi (n : Nat) : Word := word (n / 2 ^ 32)
  let ent := match k.entry with | some i => i * 256 + 2 ^ 20 | none => 0
  let sys := Nat.testBit k.src 1
  let cond := Nat.testBit (av / 2 ^ 10) 0
  [0x4B5A534B#32,
   word (1 + k.lseq * 2 ^ 16 + (if sys then 2 ^ 24 else 0) + (if k.late then 2 ^ 25 else 0)),
   word k.src, word (s.did + k.tdev * 2 ^ 16), word (k.seq + ent), 0#32,
   lo lcyc, hi lcyc, lo s.fltTime, hi s.fltTime, word av, s.reg Reg.nocFreq &&& 0x7FF#32, 0#32, 0#32, 0#32, 0#32]
  ++ (List.range 16).flatMap (fun n => [(s.axPos n).extractLsb' 0 32, (s.axPos n).extractLsb' 32 32])
  ++ (List.range 16).map s.axStatus
  ++ (List.range 16).map (fun n => s.reg (Reg.axVel n))
  ++ (List.range 8).map (fun c => if cond then s.disCpriRead c else 0#32)
  ++ [if cond then s.disStatRead else 0#32, word s.armCount, s.tpOut 0, s.tpOut 32, s.tpIn 0, s.tpIn 32,
      s.reg (Reg.tblActiveLo 0), s.reg (Reg.tblActiveLo 1), word s.fltValid, s.reg Reg.intStat, 0#32]

/-- The record with its CRC-32. -/
def skRecord (ws : List Word) : List Word := ws ++ [word (crc32 (ws.flatMap (fun w => leBytes w.toNat 4)))]

/-- Every tile of a quadrant that can copies its registers (R28, R117, R383). -/
def State.skTiles (s : State) : State :=
  { s with regs := (List.range 4096).foldl (fun r t =>
      if s.quadOpen (quadOf t) then (s.tileCopies t).foldl (fun r av => SMap.set r av.1 av.2 0#32) r else r) s.regs }

/-- Every block that can latches its copies and the record (R383, R386). -/
def State.latchAll (s : State) (u : Nat) : State :=
  let k := { s.sk with lseq := (s.sk.lseq + 1) % 256 }
  let rec_ := skRecord (s.skWords k (u + 16 - s.rstCyc))
  let s := s.skTiles
  let s := (List.range 8).foldl (fun s c => if s.hasCore c && !s.domFenced 10 then s.cndSketch c else s) s
  s.setSk { k with t0 := none, last := some u, locked := true, rdy := false, built := true, record := rec_ }

/-- Meaning of SKETCH_RECORD_READY (R384, R386). -/
def sketchRecordReady (s : State) : State :=
  let k := s.sk
  if !k.built then s
  else
    (s.setSk { k with built := false, rdy := true, locked := k.locked && !s.regB Reg.mgtSkctrl 3 }).orReg Reg.mgtIrq 2

/-- SKETCH_OUT (R385): high for 16 EKL cycles from L while OUTEN = 1; low before release and in Primer mode. -/
def State.sketchOut (s : State) : Bool :=
  s.released && !s.primer && s.regB Reg.mgtSkctrl 2 &&
    (match s.sk.last with
     | some u => decide (u + 16 ≤ s.cyc ∧ s.cyc < u + 32)
     | none => false)

/-- MGT_SKSTAT as read. -/
def State.skstatRead (s : State) : Word :=
  let k := s.sk
  s.reg Reg.mgtSkstat ||| Word.flag k.locked 0 ||| Word.flag k.t0.isSome 1 ||| Word.flag k.rdy 2 ||| word (k.lseq * 16)

/-- Meaning of SKREC_DATA_READ (R386): the word at PTR; the pointer then moves by 4. -/
def skrecDataRead (s : State) : State :=
  let p := s.regF Reg.mgtSkrecPtr 8 0
  (s.ok (s.sk.record.getD (p / 4) 0#32)).setReg Reg.mgtSkrecPtr (word ((p + 4) % 512))

end Sys2Proof.Machine
end

