-- ==== Sys2Proof/Machine/Inband.lean ====
section
/-! DEFINITION. Sys2Proof/Machine/Inband.lean: in-band management frames and sessions (R329, R330 of 15_boot_security.md,
R378, R379, R381 of 18_management_observation.md). -/
namespace Sys2Proof.Machine

/-! ## Frames (Table MO-3) -/

/-- A management frame. `head` are the bytes from VER to the end of the body, over which the TAG is computed. -/
structure IbFrame where
  src  : List Byte
  vlan : List Byte
  ver  : Nat
  typ  : Nat
  sid  : Nat
  seq  : Nat
  body : List Byte
  head : List Byte
  tag  : List Byte
  deriving DecidableEq, Repr

/-- Reads a management frame, with or without one 802.1Q tag. -/
def parseIb (b : List Byte) : IbFrame :=
  let tagged := beAt b 12 2 == 0x8100 || beAt b 12 2 == 0x88A8
  let o := if tagged then 18 else 14
  let len := leAt b (o + 2) 2
  { src := (b.drop 6).take 6, vlan := if tagged then (b.drop 12).take 4 else [], ver := byteAt b o, typ := byteAt b (o + 1),
    sid := leAt b (o + 4) 4, seq := leAt b (o + 8) 4, body := (b.drop (o + 12)).take len,
    head := (b.drop o).take (12 + len), tag := (b.drop (o + 12 + len)).take 32 }

/-- Whether channel `ch` takes the frame for management, and the frame is of version 1 and type `typ` (R186, R378). -/
def State.ibTakes (s : State) (ch typ : Nat) (b : List Byte) : Bool :=
  s.chRuns ch && s.mgtTakes ch b && (parseIb b).ver == 1 && (parseIb b).typ == typ

/-- Counts a management frame that the channel takes: its bytes run through the FCS, as those of RECEIVED_FRAME do (R186,
R202) (log 44). -/
def State.ibGot (s : State) (ch : Nat) (b : List Byte) : State := (s.countRx ch b.length).bump (chA Reg.chRxMgt ch) 1

/-- Puts a management frame on the wire of channel `ch` (R379). -/
def State.ibSend (s : State) (ch : Nat) (dst vlan : List Byte) (payload : List Byte) : State :=
  let src := (leBytes (s.reg Reg.mgtIbMacLo).toNat 4) ++ leBytes (s.regF Reg.mgtIbMacHi 15 0) 2
  let b := dst ++ src ++ vlan ++ beBytes (s.regF Reg.mgtIbCfg 31 16) 2 ++ payload
  (s.bump (chA Reg.chTxFrames ch) 1).wire ch (wireBytes b false)

/-- The fields from VER to the end of the body. -/
def ibHead (typ sid seq : Nat) (body : List Byte) : List Byte :=
  [1#8, BitVec.ofNat 8 typ] ++ leBytes body.length 2 ++ leBytes sid 4 ++ leBytes seq 4 ++ body

/-! ## Sessions -/

def State.session (s : State) (i : Nat) : Option Session := s.sec.sess.get i none
def State.setSession (s : State) (i : Nat) (x : Option Session) : State :=
  { s with sec.sess := s.sec.sess.set i x none }

/-- Open sessions (SEC_STAT.SESS). -/
def State.openSessions (s : State) : Nat := ((List.range 4).filter (fun i => (s.session i).isSome)).length

/-- A frame of session `i`, with the next sequence number and its tag (R330). -/
def State.sessionSend (s : State) (i typ : Nat) (body : List Byte) : State :=
  match s.session i with
  | none => s
  | some x =>
    let h := ibHead typ x.sid x.tx body
    (s.setSession i (some { x with tx := x.tx + 1 })).ibSend x.chan x.mac x.vlan (h ++ digBytes (Config.hmacSm3 x.k2 h))

/-- Closes session `i`: its requests and reports are dropped (R330, Table MO-10). -/
def State.closeSession (s : State) (i : Nat) : State :=
  match s.session i with
  | none => s
  | some _ =>
    let s := s.setSession i none
    { s with sec.reqs := s.sec.reqs.filter (fun r => r.sess != i),
             sec.reports := s.sec.reports.filter (fun r => r.1 != i) }.orReg Reg.mgtIrq 16

/-- A frame that R330 or R379 discards (log 44). -/
def State.ibFail (s : State) : State := s.bump Reg.secIbfail 1

/-- A failed attempt to open a session on channel `ch` (R329). -/
def State.openFail (s : State) (ch : Nat) : State :=
  let s := s.ibFail
  { s with sec.exch := none, sec.holdoff := if s.sec.holdoff.contains ch then s.sec.holdoff else ch :: s.sec.holdoff }

/-- The SM3 digest of the host key that index `k` names; none for an unknown or blank key (R329, R330). -/
def State.ibKey (s : State) (k : Nat) : Option (List Byte) :=
  let d := if k = 15 then digBytes s.otp.cust
    else if k < 4 && s.released then (List.range 8).flatMap (fun w => leBytes (s.reg (Reg.secMkey k w)).toNat 4)
    else []
  if d.all (· == 0#8) then none else some d

/-- Meaning of OPEN1 (R329). -/
def open1 (ch : Nat) (b : List Byte) (s : State) : State :=
  let f := parseIb b
  if !s.ibTakes ch 1 b then s
  else if s.sec.holdoff.contains ch || s.sec.exch.isSome || s.openSessions == 4 then s.ibGot ch b
  else
    let s := (s.ibGot ch b).bump Reg.mgtIbrx 1
    match s.ibKey (byteAt f.body 0) with
    | none => s.openFail ch
    | some key =>
      let (n, s) := s.drawNonce
      let (i, s) := s.drawNonce
      let sid := i.toNat % 2 ^ 32
      let (rb, sb, sa, k1, k2) := Config.sm2Exchange key ((f.body.drop 1).take 64) n
      let s := { s with sec.exch := some { chan := ch, mac := f.src, vlan := f.vlan, sid := sid, sa := sa, k1 := k1,
                                           k2 := k2 } }
      s.ibSend ch f.src f.vlan (ibHead 2 sid 0 (rb ++ sb))

/-- Meaning of OPEN3 (R329): the session opens when SA verifies. -/
def open3 (ch : Nat) (b : List Byte) (s : State) : State :=
  let f := parseIb b
  if !s.ibTakes ch 3 b then s
  else
    let s := s.ibGot ch b
    match s.sec.exch with
    | none => s
    | some e =>
      if e.chan ≠ ch ∨ e.mac ≠ f.src ∨ e.sid ≠ f.sid then s.ibFail
      else if f.body.take 32 ≠ e.sa then s.openFail ch
      else
        match (List.range 4).find? (fun i => (s.session i).isNone) with
        | none => s
        | some i =>
          let s := { s with sec.exch := none }.setSession i (some { chan := ch, mac := e.mac, vlan := e.vlan, sid := e.sid,
                                                                    k1 := e.k1, k2 := e.k2 })
          ((s.bump Reg.mgtIbrx 1).bump Reg.secIbopens 1).orReg Reg.mgtIrq 16

/-- Meaning of OPEN_HOLDOFF_END (R329): one second after a failed attempt. -/
def openHoldoffEnd (ch : Nat) (s : State) : State := { s with sec.holdoff := s.sec.holdoff.filter (· != ch) }

/-- A discard of session `i` that counts toward the sixteen of R330. -/
def State.sessionBad (s : State) (i : Nat) (x : Session) : State :=
  let s := s.ibFail
  if x.bad + 1 = 16 then s.closeSession i else s.setSession i (some { x with bad := x.bad + 1 })

/-- The checks of a session frame (R330, R379): the session it belongs to, none when it is discarded (log 44). -/
def State.ibAuth (s : State) (ch : Nat) (f : IbFrame) : Option Nat × State :=
  match (List.range 4).find? (fun i => match s.session i with | some x => x.sid == f.sid | none => false) with
  | none => (none, s.ibFail)
  | some i =>
    match s.session i with
    | none => (none, s)
    | some x =>
      if x.chan ≠ ch ∨ x.mac ≠ f.src then (none, s.ibFail)
      else if digBytes (Config.hmacSm3 x.k1 f.head) ≠ f.tag ∨ f.seq ≤ x.rx then (none, s.sessionBad i x)
      else (some i, s.setSession i (some { x with rx := f.seq, bad := 0 }))

/-- Meaning of CLOSE (R378). -/
def closeFrame (ch : Nat) (b : List Byte) (s : State) : State :=
  if !s.ibTakes ch 0x13 b then s
  else
    match (s.ibGot ch b).ibAuth ch (parseIb b) with
    | (none, s) => s
    | (some i, s) => (s.bump Reg.mgtIbrx 1).closeSession i

/-- Meaning of SESSION_IDLE (R330): IDLE seconds without a valid frame (log 15). -/
def sessionIdle (i : Nat) (s : State) : State := s.closeSession i

/-! ## Reports (R381) -/

/-- A frame discarded for want of room (R380, R381). -/
def State.ibDrop (s : State) : State := ((s.bump Reg.mgtIbdrop 1).orReg Reg.mgtStat 4).report 0x1E 0x1900

/-- Sends the reports whose session's channel has a link. -/
def State.ibDrain (s : State) : State :=
  let go (s : State) (i : Nat) : Bool := match s.session i with | some x => s.chRuns x.chan | none => false
  let ready := s.sec.reports.filter (fun r => go s r.1)
  let s := { s with sec.reports := s.sec.reports.filter (fun r => !go s r.1) }
  ready.foldl (fun s r => s.sessionSend r.1 0x12 r.2) s

/-- Hands a new collector entry to management: one REPORT on every open session (log 44). -/
def State.ibReport (s : State) (body : List Byte) : State :=
  if !s.regB Reg.mgtIbCfg 1 then s
  else
    let s := (List.range 4).foldl (fun s i =>
      if (s.session i).isNone then s
      else
        let s := { s with sec.reports := s.sec.reports ++ [(i, body)] }.ibDrain
        if 16 < s.sec.reports.length then { s with sec.reports := s.sec.reports.dropLast }.ibDrop else s) s
    s

end Sys2Proof.Machine
end

