-- ==== Sys2Proof/Machine/Panel.lean ====
section
/-! DEFINITION. Sys2Proof/Machine/Panel.lean: holding and reloading a Panel, the Stencil and configuration scrubbing
(16_panel_reconfiguration.md), the freeze of a read-back (R389) and the latch of a Sketch, which can start one. -/
namespace Sys2Proof.Machine

/-! ## The hold and the border (R336 to R339) -/

def panelTiles (p : Nat) : List Nat := (List.range 64).map (tileAt p)

/-- Whether input `i` of tile `t` takes words from outside its Panel. -/
def borderInput (t i : Nat) : Bool :=
  decide (i < 8) && (match outPartner t i with | .tile u _ => panelOf u != panelOf t | _ => true)

/-- The joints into Panel `p` that are enrolled now. -/
def State.joinsInto (s : State) (p : Nat) : List Nat :=
  (panelTiles p).flatMap (fun t => (List.range 8).filterMap (fun j =>
    if segTile j (segLine t j) (segPos t j) (entryIdx j) = t then
      match prevPos j (segPos t j) with
      | some pp => if s.jointEnrolled j (segLine t j) pp then some (jointKey j (segLine t j) pp) else none
      | none => none
    else none))

/-- Tile `t` at cycle h: its words and tokens are discarded and counted, and the credits of border inputs are withheld
unless the border discards, beside those that an earlier hold still withholds (R336, R339, R348). -/
def State.holdTile (s : State) (t : Nat) (discard : Bool) : State :=
  let x := s.tile t
  let toks := (if x.tok.isSome then 1 else 0) + (if x.ovfTok.isSome then 1 else 0)
  let w : SMap Nat :=
    if discard then x.withheld
    else (List.range 8).foldl (fun m i => if borderInput t i then SMap.set m i (m.get i 0 + x.load i) 0 else m) x.withheld
  let s := (s.bump Reg.palPnlBdrop (x.buffered + toks)).tileReset t
  s.setTile t { s.tile t with withheld := w }

/-- Cycle h of Panel `p`, with the border of R338. -/
def State.holdPanel (s : State) (p : Nat) (discard : Bool) : State :=
  let js := s.joinsInto p
  let s := (panelTiles p).foldl (fun s t => s.holdTile t discard) s
  { s with pal.heldP := s.pal.heldP.set p (some discard) none, can.heldJ := (s.can.heldJ ++ js).eraseDups,
           can.pbx := s.can.pbx.drop p }.trackCheck

/-- Joints into Panel `p` whose entry tile does not pass discard the words they held (R339) (log 33). -/
def State.settleJoints (s : State) (p : Nat) : State :=
  (panelTiles p).foldl (fun s t => (List.range 8).foldl (fun s j =>
    if segTile j (segLine t j) (segPos t j) (entryIdx j) = t then
      match prevPos j (segPos t j) with
      | some pp =>
        let k := jointKey j (segLine t j) pp
        let s := { s with can.heldJ := s.can.heldJ.filter (· != k) }
        if s.drive t j = 1 then s
        else ({ s with can.joints := s.can.joints.set k [] [] }).bump Reg.palPnlBdrop (s.can.joints.get k []).length
      | none => s
    else s) s) s

/-- The end of a hold of Panel `p` (R339): credits return, slot 0 is applied and the border opens. -/
def State.openPanel (s : State) (p : Nat) : State :=
  let s := { s with pal.heldP := s.pal.heldP.set p none none }
  let s := (panelTiles p).foldl (fun s t => (s.setTile t { s.tile t with withheld := [] }).applySlot t 0 0) s
  s.settleJoints p

/-! ## The reload (R333 to R337) -/

def State.pnlState (s : State) : Nat := s.regF Reg.palPnlStat 2 0
def State.setPnl (s : State) (st scrub result p : Nat) : State :=
  s.setReg Reg.palPnlStat (word (st + scrub * 8 + result * 16 + p * 256))

/-- The completion token (R337). -/
def State.pnlToken (s : State) (tok : Word) : State :=
  if tok.bit 12 then s.palToken { tid := tok.bits 9 0, slot := tok.bits 11 10, val := s.reg Reg.palPnlStat } else s

/-- A reload ends as FAILED. -/
def State.pnlFail (s : State) (r : Reload) (result : Nat) : State :=
  let s := { s with pal.reload := none, pal.pendP := s.pal.pendP &&& ~~~ (BitVec.ofNat 64 (2 ^ r.panel)) }
  (s.setPnl 5 (if r.scrub then 1 else 0) result r.panel).pnlToken r.tok

/-- Whether a source range is one of those of R333. -/
def State.sourceOk (s : State) (p a : Nat) (tmem : Bool) : Bool :=
  let len := if tmem then 303104 else 40960
  let e := a + len
  if e ≤ 0x800000000 then s.hasStack (stackOf a) && s.hasStack (stackOf (e - 1))
  else
    !tmem && decide (tileBase ≤ a) && decide (e ≤ tileBase + 0x1000000)
      && (List.range (len / 4096 + 1)).all (fun i =>
          let b := Nat.min (a + 4096 * i) (e - 1)
          let t := (b - tileBase) / 4096
          s.hasQuad (quadOf t) && panelOf t != p)

/-- One word of a source: its value and whether it reads as poison. -/
def State.srcWord (s : State) (a : Nat) : Word × Bool × State :=
  if a < 0x800000000 then
    let (ok, s) := s.readSect (a / 32)
    (s.memWord (a / 4), !ok, s)
  else
    let (v, s) := s.memRead ((a - tileBase) / 4096) (a / 4 % 1024)
    (v.w, v.p, s)

/-- Whether every access to a source is answered now. -/
def State.sourceReady (s : State) (a len : Nat) : Bool :=
  if a < 0x800000000 then s.stackGate a == .go && s.stackGate (a + len - 1) == .go
  else (List.range (len / 4096 + 1)).all (fun i =>
    !s.domFenced (quadOf ((Nat.min (a + 4096 * i) (a + len - 1) - tileBase) / 4096)))

/-- Copies `n` words of a source into bytes, and says whether one was uncorrectable. -/
def State.copySource (s : State) (a : Nat) : Nat → SMap Nat × Bool × State
  | 0 => ([], false, s)
  | n + 1 =>
    let (m, bad, s) := s.copySource a n
    let (w, p, s) := s.srcWord (a + 4 * n)
    (m ++ (List.range 4).filterMap (fun i =>
      let b := w.bits (8 * i + 7) (8 * i)
      if b = 0 then none else some (4 * n + i, b)), bad || p, s)

def State.engineFree (s : State) : Bool := let st := s.pnlState; st == 0 || st == 4 || st == 5

/-- FETCH begins: the copy writes the words of the buffer anew. -/
def State.startFetch (s : State) (r : Reload) : State :=
  { s with pal.reload := some r, int.eccs := s.int.eccs.filter (fun q =>
      !decide (7 * 4294967296 + 65536 ≤ q.1 ∧ q.1 < 7 * 4294967296 + 70656)) }.setPnl 1 (if r.scrub then 1 else 0) 0 r.panel

/-- Meaning of PNL_GO (R334) (log 51). -/
def pnlGo (s : State) : State :=
  if !s.released then s.err
  else if !s.engineFree || s.pal.pendP != 0#64 then s.err
  else
    let c := s.reg Reg.palPnlCtrl
    let p := c.bits 5 0
    let a := s.regF Reg.palPnlSrcHi 15 0 * 4294967296 + (s.reg Reg.palPnlSrcLo).toNat
    let r : Reload := { panel := p, discard := c.bit 6, tmem := c.bit 7, atev := c.bit 8, eidx := c.bits 20 9, addr := a,
                        tok := s.reg Reg.palPnlTok, scrub := false, src := .none, image := [], digest := 0#256, h := 0 }
    let s := s.ok
    if !s.quadOpen (quadOfPanel p) || !s.sourceOk p a r.tmem then s.pnlFail r 1
    else s.startFetch r

/-- The hold of a reload begins in the next EKL cycle (R334, R336). -/
def State.beginHold (s : State) (r : Reload) : State :=
  let s := s.holdPanel r.panel r.discard
  { s with pal.reload := some { r with h := s.cyc + 1 } }.setPnl 3 (if r.scrub then 1 else 0) 0 r.panel

/-- A firing of schedule entry `i` ends the WAIT phase (Table PR-1). -/
def State.reloadEvent (s : State) (i : Nat) : State :=
  match s.pal.reload with
  | some r => if s.pnlState = 2 ∧ r.eidx = i then s.beginHold r else s
  | none => s

/-- STOP of Panel `p` (R348) (log 33). -/
def State.stopPanel (s : State) (p : Nat) : State :=
  let s := if (s.pal.heldP.get p none).isSome then s else s.holdPanel p (s.regB Reg.ldrScrCtrl 1)
  { s with pal.stopped := s.pal.stopped ||| BitVec.ofNat 64 (2 ^ p) }

/-- Whether the reload buffer, the 64-bit words of loader SRAM from 65,536 on, holds an uncorrectable word (R335, log 67);
reading it corrects and counts what it finds. -/
def State.bufferRead (s : State) : Bool × State :=
  ((s.int.eccs.map Prod.fst).filter (fun k => decide (7 * 4294967296 + 65536 ≤ k ∧ k < 7 * 4294967296 + 70656))).foldl
    (fun (q : Bool × State) k => match q.2.consult 7 (k - 7 * 4294967296) with | (u, s) => (q.1 || !u, s)) (false, s)

/-- The context image of the buffer as bytes. -/
def Reload.bytes (r : Reload) : List Byte := (List.range 32768).map (fun i => BitVec.ofNat 8 (r.image.get i 0))

/-- FETCH has its image: the checks of R335, the digest check of a scrub reload (R347), and what follows. -/
def State.fetched1 (s : State) (r : Reload) (bad timeout digestBad : Bool) : State :=
  let img := r.bytes
  let r := { r with digest := Config.sm3 img }
  let (worn, s) := s.bufferRead
  if bad || worn then s.pnlFail r 3
  else if timeout then s.pnlFail r 6
  else if digestBad then (s.pnlFail r 5).stopPanel r.panel
  else if driverConflict (imgCtx img) then s.pnlFail r 2
  else if r.atev then { s with pal.reload := some r }.setPnl 2 0 0 r.panel
  else s.beginHold r

/-- The sparse bytes of a list, from `k` on. -/
def sparse (k : Nat) (b : List Byte) : SMap Nat :=
  (b.zip (List.range b.length)).filterMap (fun p => if p.1 = 0#8 then none else some (k + p.2, p.1.toNat))

/-- Meaning of FETCH_DONE (R335, R347); `timeout` says that a source access timed out (log 51). -/
def fetchDone (timeout : Bool) (s : State) : State :=
  match s.pal.reload with
  | none => s
  | some r =>
    if s.pnlState ≠ 1 then s
    else
      match r.src with
      | .bay b =>
        let xs := s.sections b
        match lastSection xs 1 r.panel, lastSection xs 7 r.panel with
        | some c, some t =>
          let cb := (s.bodyBytes b c).take 32768
          let tb := s.bodyBytes b t
          let wrong := Config.sm3 (s.bodyBytes b c) != c.dig || Config.sm3 tb != t.dig
          s.fetched1 { r with image := sparse 0 cb ++ sparse 32768 (tb.take 8192) } false timeout wrong
        | _, _ => s.fetched1 r false timeout true
      | .staged a d =>
        let (m, bad, s) := if s.sourceReady a 40960 then s.copySource a 10240 else ([], false, s)
        let r := { r with image := m }
        s.fetched1 r bad (timeout || !s.sourceReady a 40960) (Config.sm3 r.bytes != d)
      | .none =>
        let (m, bad, s) := if s.sourceReady r.addr 40960 then s.copySource r.addr 10240 else ([], false, s)
        s.fetched1 { r with image := m } bad (timeout || !s.sourceReady r.addr 40960) false

/-- Writes the 512 slots of Panel `p` from a buffer, by full writes (R153, R336). -/
def State.writeSlots (s : State) (p : Nat) (img : SMap Nat) : State :=
  (List.range 64).foldl (fun s l => (List.range 64).foldl (fun s i =>
    let lo := 512 * l + 8 * i
    let w (k : Nat) : Word := word ((List.range 4).foldl (fun a b => a + img.get (lo + 4 * k + b) 0 * 256 ^ b) 0)
    let v := i % 8
    s.ctxFull (tileAt p l) (i / 8) v
      (BitVec.append (w 1 &&& ctxMask (2 * v + 1)) (w 0 &&& ctxMask (2 * v)))) s) s

/-- Writes the tile memories of Panel `p` from the source; poison stays poison (R336). -/
def State.writeTmem (s : State) (p a : Nat) : State :=
  (List.range 64).foldl (fun s l => (List.range 1024).foldl (fun s k =>
    let (w, bad, s) := s.srcWord (a + 40960 + 4096 * l + 4 * k)
    s.memWrite (tileAt p l) k { w := w, p := bad }) s) s

/-- Replaces the Stencil of Panel `p`. -/
def State.setStencil (s : State) (p : Nat) (f : Nat → Nat) : State :=
  let st := (List.range 8192).foldl (fun m i => SMap.set m (8192 * p + i) (f i) 0) s.pal.stencil
  let e := s.int.eccs.filter (fun q =>
    !(decide (7 * 4294967296 + 1024 * p ≤ q.1) && decide (q.1 < 7 * 4294967296 + 1024 * (p + 1))))
  { s with pal.stencil := st, int.eccs := e, pal.noCtx := s.pal.noCtx &&& ~~~ (BitVec.ofNat 64 (2 ^ p)) }

/-- The eight words of a digest register group. -/
def State.setDigest (s : State) (a : Nat → Nat) (d : BitVec 256) : State :=
  ((wordsOf (digBytes d)).zip (List.range 8)).foldl (fun s q => s.setReg (a q.2) q.1) s

/-- Meaning of PANEL_RELEASE (R336, R337, R339) (log 51). -/
def panelRelease (s : State) : State :=
  match s.pal.reload with
  | none => s
  | some r =>
    if s.pnlState ≠ 3 then s
    else
      let p := r.panel
      let bit := ~~~ (BitVec.ofNat 64 (2 ^ p))
      let s := s.writeSlots p r.image
      let s := if r.tmem then s.writeTmem p r.addr else s
      let s := s.setStencil p (fun i => r.image.get (32768 + i) 0)
      let src := if r.scrub then r.src else .staged r.addr r.digest
      let s := { s with
        pal.reload := none, pal.stopped := s.pal.stopped &&& bit, pal.pendP := s.pal.pendP &&& bit,
        pal.srcs := s.pal.srcs.set p src .none,
        sec.prdig := Config.sm3 (digBytes s.sec.prdig ++ [BitVec.ofNat 8 p] ++ digBytes r.digest),
        sec.reloads := s.sec.reloads + 1 }
      let s := if s.regF Reg.mgtRbStat 7 2 = p ∧ s.regF Reg.mgtRbStat 1 0 = 2 then s.setReg Reg.mgtRbStat 0#32 else s
      let s := (s.openPanel p).bump Reg.palPnlCount 1
      let hold := if r.tmem then Nat.max 515 (s.cyc + 1 - r.h) else 514
      let s := (s.setReg Reg.palPnlHoldt (word hold)).setDigest Reg.palPnlDig r.digest
      (s.setPnl 4 (if r.scrub then 1 else 0) 0 p).pnlToken r.tok

/-- Meaning of PNL_ABORT (R334). -/
def pnlAbort (s : State) : State :=
  let s := s.ok
  match s.pal.reload with
  | some r => if s.pnlState = 1 ∨ s.pnlState = 2 then s.pnlFail r 4 else s
  | none => s

/-! ## Configuration scrubbing (R340 to R348) -/

/-- The action of granule `g` of Panel `p` (R343, R344). -/
def State.granule (s : State) (p g : Nat) : Nat × State :=
  if s.pal.noCtx.getLsbD p then (3, s)
  else
    let (u, s) := s.consult 7 (1024 * p + g / 32)
    if u then (bitsOf (s.pal.stencil.get (8192 * p + g / 4) 0) (2 * (g % 4) + 1) (2 * (g % 4)), s)
    else (2, s.orReg Reg.ldrScrStat 0x10)

/-- The highest action among granules (R341). -/
def State.actionOf (s : State) (p : Nat) (gs : List Nat) : Nat × State :=
  gs.foldl (fun (q : Nat × State) g =>
    let (a, s) := q.2.granule p g
    (Nat.max q.1 a, s)) (0, s)

/-- Counts and records an event and takes its action beyond the repair; RELOAD of a Panel without a CTX section acts as
STOP (R340, R346 to R348). -/
def State.scrubEvent (s : State) (p l sl byte kind act : Nat) : State :=
  let act := if act = 2 && s.pal.srcs.get p .none == .none then 3 else act
  let s := (s.bump (Reg.ldrScrIgn act) 1).orReg Reg.ldrScrStat (2 ^ act)
  let s := s.setReg Reg.ldrScrLast (word (p + l * 64 + sl * 4096 + byte * 32768 + kind * 2097152 + act * 4194304 + 2147483648))
  let s := if 1 ≤ act then s.report 0x05 (0x1000 + p) else s
  if act = 2 then { s with pal.pendP := s.pal.pendP ||| BitVec.ofNat 64 (2 ^ p) }
  else if act = 3 then s.stopPanel p
  else s

/-- The applied copy of protected word `v`. -/
def Tile.applied (x : Tile) (v : Nat) : BitVec 64 := x.act.extractLsb' (64 * v) 64

/-- One read of a step: word `v` of slot `sl` of the tile with local index `l` (R345, R346) (log 51). -/
def State.scrubWord (s : State) (p l sl v : Nat) : State :=
  let t := tileAt p l
  let x := s.tile t
  let copy := x.slot == sl && !x.stale && !x.ctxUe
  let g0 := 512 * l + 64 * sl + 8 * v
  match s.ctxFetch t sl v with
  | (none, s) =>
    let s := s.cxue t sl v false false
    let (a, s) := s.actionOf p ((List.range 8).map (g0 + ·))
    let a := if copy then a else Nat.max a 2
    let s := if a ≤ 1 then s.ctxWriteBack t sl v (x.applied v) else s
    s.scrubEvent p l sl (8 * v) 0 a
  | (some (d, corr), s) =>
    let s := if corr then (s.ctxWriteBack t sl v d).cxce t sl v else s
    let bs := (List.range 8).filter (fun b => d.extractLsb' (8 * b) 8 != (x.applied v).extractLsb' (8 * b) 8)
    match copy, bs with
    | true, b :: _ =>
      let (a, s) := s.actionOf p (bs.map (g0 + ·))
      let y := s.tile t
      let fix := BitVec.ofNat 512 ((d ^^^ x.applied v).toNat * 2 ^ (64 * v))
      let s := if a ≤ 1 then s.setTile t { y with act := y.act ^^^ fix } else s
      s.scrubEvent p l sl (8 * v + b) 1 a
    | _, _ => s

/-- Whether the scrubber skips Panel `p`. -/
def State.scrubSkips (s : State) (p : Nat) : Bool :=
  (s.pal.heldP.get p none).isSome || s.pal.stopped.getLsbD p || !s.quadOpen (quadOfPanel p)

/-- The end of a lap of tracker class `c` (R355, R357): entries two laps old are freed. -/
def State.lapEnd (s : State) (c us : Nat) : State :=
  let n := (s.reg (Reg.intLaps c)).toNat + 1
  let s := (s.setReg (Reg.intLap c) (word us)).setReg (Reg.intLaps c) (word n)
  (List.range 32).foldl (fun s i =>
    let e := s.track (32 * c + i)
    if (e.state = 1 ∨ e.state = 2) ∧ 2 ≤ (n + 4294967296 - e.l) % 4294967296 then s.setTrack (32 * c + i) {} else s) s

/-- The first Panel from `k` on that the scrubber does not skip. -/
def State.scrubPanel (s : State) (k : Nat) : Option Nat :=
  ((List.range 64).filter (fun p => decide (k ≤ p))).find? (fun p => !s.scrubSkips p)

/-- The end of a lap over Panels 0 to 63 (R345). -/
def State.scrubLap (s : State) : State :=
  let us := (s.cyc - s.pal.lapStart) / 1250
  let s := { s with pal.scrNext := 0, pal.lapStart := s.cyc }
  ((s.setReg Reg.ldrScrLap (word us)).bump Reg.ldrScrLaps 1).lapEnd 1 us

/-- Meaning of SCRUB_STEP (R345): one Panel, in ascending number; the step of the last one ends the lap. -/
def scrubStep (s : State) : State :=
  if !s.released || !s.regB Reg.ldrScrCtrl 0 then s
  else
    match s.scrubPanel s.pal.scrNext with
    | some p =>
      let s := { s with pal.scrNext := p + 1 }
      let ls := (List.range 64).filter (fun l => s.can.tiles.any (fun q => q.1 == tileAt p l))
      let s := (List.range 64).foldl (fun s j => ls.foldl (fun s l =>
        if (s.pal.heldP.get p none).isSome then s else s.scrubWord p l (j / 8) (j % 8)) s) s
      if (s.scrubPanel (p + 1)).isNone then s.scrubLap else s
    | none => s.scrubLap

/-- Meaning of SCRUB_RELOAD (R347): the lowest pending Panel is served. -/
def scrubReload (s : State) : State :=
  if !s.engineFree || !s.released then s
  else
    match (List.range 64).find? (fun p => s.pal.pendP.getLsbD p) with
    | none => s
    | some p =>
      match s.pal.srcs.get p .none with
      | .none => { s with pal.pendP := s.pal.pendP &&& ~~~ (BitVec.ofNat 64 (2 ^ p)) }.stopPanel p
      | src =>
        let a := match src with | .staged a _ => a | _ => 0
        let r : Reload := { panel := p, discard := s.regB Reg.ldrScrCtrl 1, tmem := false, atev := false, eidx := 0,
                            addr := a, tok := s.reg Reg.palPnlTok, scrub := true, src := src, image := [],
                            digest := 0#256, h := 0 }
        s.startFetch r

/-! ## Read-back (R389, R390) and the latch of a Sketch (R383) -/

/-- Freezes Panel `p`: its border closes with BORDER_DISCARD = 0 and its contents stay (log 51). -/
def State.freezePanel (s : State) (p : Nat) : State :=
  let js := s.joinsInto p
  let s := { s with pal.heldP := s.pal.heldP.set p (some false) none, can.heldJ := (s.can.heldJ ++ js).eraseDups }
  (s.setReg Reg.mgtRbStat (word (2 + p * 4))).setReg Reg.mgtRbLen (Config.readbackLen.setWidth 32)

/-- Meaning of READBACK_GO (R389). -/
def readbackGo (d : Word) (s : State) : State :=
  if d.bits 31 16 ≠ 0x4B5A ∨ d.bit 7 = false then s.ok.plainWrite Reg.mgtRbCtrl d
  else if !s.regB Reg.mgtDbg 0 || !s.quadOpen (quadOfPanel (d.bits 5 0)) then s.err
  else
    let s := s.ok.plainWrite Reg.mgtRbCtrl d
    if d.bit 6 then s.setReg Reg.mgtRbStat (word (1 + d.bits 5 0 * 4)) else s.freezePanel (d.bits 5 0)

/-- The next read-back word, whose layout the manual leaves to the silicon revision (R390, log 8). -/
def State.rbNext (s : State) : Word × State :=
  if s.regF Reg.mgtRbStat 1 0 = 2 then
    let (w, s) := s.freeWord
    (w, s.setReg Reg.mgtRbPtr (word ((s.regF Reg.mgtRbPtr 15 0 + 1) % 65536)))
  else (0#32, s)

/-- Meaning of RB_DATA_READ (R390). -/
def rbDataRead (s : State) : State :=
  let (w, s) := s.rbNext
  s.ok w

/-- Meaning of SKETCH_LATCH (R383): the start of EKL cycle t0 + 16. An armed read-back freezes its Panel in it (R389). -/
def sketchLatch (s : State) : State :=
  match s.sk.t0 with
  | none => s
  | some u =>
    if s.cyc + 1 < u + 16 then s
    else
      let s := s.latchAll u
      if s.regF Reg.mgtRbStat 1 0 = 1 then s.freezePanel (s.regF Reg.mgtRbStat 7 2) else s

end Sys2Proof.Machine
end

