-- ==== Sys2Proof/Machine/Integrity.lean ====
section
/-! DEFINITION. Sys2Proof/Machine/Integrity.lean: scrubbers, commanded passes, the tracker's CLR, report epochs and the fault
collector (17_integrity.md, R355, R356, R357, R358, R361 to R365). -/
namespace Sys2Proof.Machine

/-! ## Class addresses (Table IN-1) -/

/-- Words of one instance of class `c`, and how many instances the class has. -/
def classShape : Nat → Nat × Nat
  | 0 => (1024, 4096)
  | 1 => (64, 4096)
  | 2 => (0x20000000, 2)
  | 3 => (16384, 8)
  | 4 => (32768, 8)
  | 5 => (262144, 1)
  | 6 => (10240, 1)
  | 7 => (131072, 1)
  | 8 => (8768, 1)
  | 9 => (131072, 1)
  | 10 => (32768, 1)
  | _ => (0, 0)

/-- Class addresses of class `c`. -/
def classSize (c : Nat) : Nat := (classShape c).1 * (classShape c).2

/-- Whether instance `i` of class `c` is present, powered, unfenced and not held (R355, R356). -/
def State.instOk (s : State) (c i : Nat) : Bool :=
  match c with
  | 0 => s.quadOpen (quadOf i) && (s.heldOf i).isNone
  | 1 => s.quadOpen (quadOf i) && (s.heldOf i).isNone
  | 2 => s.stackGate (i * 0x400000000) == .go
  | 3 => s.hasCore i && !s.domFenced 10
  | 4 => s.hasCore i && !s.domFenced 10
  | 5 => s.hasDom 10 && !s.domFenced 10
  | 6 => s.hasDom 10 && !s.domFenced 10
  | _ => true

/-- What a read of a scrubber or pass found. -/
inductive Found where
  | good
  | corrected
  | failed
  deriving DecidableEq, Repr

/-- The condition of the word at class address `a` of class `c`. -/
def State.condition (s : State) (c a : Nat) : Ecc :=
  match c with
  | 0 => ((s.tile (a / 1024)).mem.get (a % 1024) {}).ecc
  | 1 => ((s.tile (a / 64)).ctxCell (a % 64 / 8) (a % 8)).ecc
  | 2 => s.sect a
  | 3 => (((s.core (a / 16384)).mem .i).get (a % 16384) {}).ecc
  | 4 => (((s.core (a / 32768)).mem (if a % 32768 < 16384 then .x else .y)).get (a % 16384) {}).ecc
  | 5 => (s.cnd.cluster.get a {}).ecc
  | _ => s.wordEcc c a

/-- What an uncorrectable word of classes 6 and 8 does where it is found (Table IN-1): a descriptor faults its thread,
an entry is disarmed. -/
def State.foundUe (s : State) (c a : Nat) : State :=
  if c = 6 ∧ a < 8192 ∧ a % 8 < 4 then s.descFault (a / 8)
  else if c = 8 ∧ a < 8192 then
    let e := s.entry (a / 2)
    s.setEntry (a / 2) { e with w2 := putBits e.w2 31 31 0 }
  else s

/-- A read of class address `a` of class `c` by a scrubber or a pass (R352, R354). -/
def State.classRead (s : State) (c a : Nat) : State :=
  match c with
  | 0 => (s.memRead (a / 1024) (a % 1024)).2
  | 1 =>
    let t := a / 64
    let sl := a % 64 / 8
    let v := a % 8
    match s.ctxFetch t sl v with
    | (none, s) => if ((s.tile t).ctxCell sl v).ecc = .poison then s else
        let x := s.tile t
        (s.setTile t { x with ctx := x.ctx.set (8 * sl + v) { (x.ctxCell sl v) with ecc := .poison } {} }).cxue t sl v false false
    | (some (d, corr), s) => if corr then (s.ctxWriteBack t sl v d).cxce t sl v else s
  | 2 => (s.readSect a).2
  | 3 => (s.cRead (a / 16384) (0x20000 + 4 * (a % 16384))).2
  | 4 => (s.cRead (a / 32768) (if a % 32768 < 16384 then 4 * (a % 16384) else 0x10000 + 4 * (a % 16384))).2
  | 5 => (s.cRead 0 (0x100000 + 8 * a)).2
  | _ =>
    let bad := s.wordEcc c a == .uncorrectable || (match s.wordEcc c a with | .open_ _ => true | _ => false)
    let (_, s) := s.consult c a
    if bad then s.foundUe c a else s

/-- A read with what it found. -/
def State.classFind (s : State) (c a : Nat) : Found × State :=
  let u := s.reg (Reg.intCecnt c)
  let e := if c = 2 then (s.settleSect a).condition c a else s.condition c a
  let t := s.classRead c a
  match e with
  | .ok => (.good, t)
  | .correctable => (.corrected, t)
  | .open_ _ => if c = 1 ∧ t.reg (Reg.intCecnt c) ≠ u then (.corrected, t)
      else if c = 1 ∧ t.condition c a ≠ .poison then (.good, t) else (.failed, t)
  | _ => (.failed, t)

/-- The first class address from `a` on in an instance that can be read (log 27). -/
def State.nextWord (s : State) (c a : Nat) : Option Nat :=
  let (w, n) := classShape c
  match (List.range n).find? (fun i => decide (a < (i + 1) * w) && s.instOk c i) with
  | some i => some (Nat.max a (i * w))
  | none => none

/-! ## Scrubbers and passes -/

/-- Meaning of SCRUB_READ (R355): the scrubber of class `c` reads its next word; configuration scrubbing serves
CTX (log 27). -/
def scrubRead (c : Nat) (s : State) : State :=
  if !s.regB (Reg.intScrb c) 0 || c == 1 then s
  else
    match s.nextWord c (s.int.scrubPtr.get c 0) with
    | none => s
    | some a =>
      let s := if s.condition c a = .poison then s else s.classRead c a
      match s.nextWord c (a + 1) with
      | some _ => { s with int.scrubPtr := s.int.scrubPtr.set c (a + 1) 0 }
      | none =>
        let us := (s.cyc - s.int.scrubPtr.get (16 + c) 0) / 1250
        { s with int.scrubPtr := (s.int.scrubPtr.set c 0 0).set (16 + c) s.cyc 0 }.lapEnd c us

/-- Meaning of PASS_GO (R356): a write of INT_PASS_CMD with GO. -/
def passGo (d : Word) (s : State) : State :=
  let c := d.bits 3 0
  let lo := (s.reg Reg.intPassStart).toNat
  let hi := (s.reg Reg.intPassEnd).toNat
  if s.int.pass.isSome || decide (hi < lo) || decide (10 < c) then s.err
  else
    let s := s.ok.plainWrite Reg.intPassCmd d
    let s := [Reg.intPassRead, Reg.intPassCorr, Reg.intPassUe, Reg.intPassPers, Reg.intPassSkip, Reg.intPassFirst,
              Reg.intPassLast].foldl (fun s a => s.setReg a 0#32) s
    let s := s.setRegF Reg.intPassStat 0 0 1
    { s with int.pass := some (c, lo), int.passEnd := Nat.min hi (classSize c - 1), int.passAbort := d.bit 9,
             int.passHit := false }

/-- The end of a pass. -/
def State.passOver (s : State) (aborted : Bool) : State :=
  let s := { s with int.pass := none, int.passAbort := false }
  let s := s.setRegF Reg.intPassStat 0 0 0
  if aborted then s.orReg Reg.intPassStat 4 else (s.orReg Reg.intPassStat 2).orReg Reg.intStat 16

/-- Counts a failing class address of a pass. -/
def State.passFails (s : State) (r a : Nat) : State :=
  let s := s.bump r 1
  let s := if s.int.passHit then s else { s with int.passHit := true }.setReg Reg.intPassFirst (word a)
  s.setReg Reg.intPassLast (word a)

/-- Meaning of PASS_READ (R356): the pass reads or skips one word. -/
def passRead (s : State) : State :=
  match s.int.pass with
  | none => s
  | some (c, a) =>
    if s.int.passEnd < a then s.passOver false
    else if s.int.passAbort then s.passOver true
    else
      let s :=
        if s.instOk c (a / (classShape c).1) then
          let (f, s) := s.classFind c a
          let s := s.bump Reg.intPassRead 1
          match f with
          | .good => s
          | .corrected => s.passFails Reg.intPassCorr a
          | .failed => s.passFails Reg.intPassUe a
        else s.bump Reg.intPassSkip 1
      if a = s.int.passEnd then s.passOver false else { s with int.pass := some (c, a + 1) }

/-- Meaning of PASS_ABORT (R356): the pass ends after the current word. -/
def passAbort (s : State) : State :=
  match s.int.pass with
  | none => s.ok
  | some _ => s.ok.passOver true

/-! ## The tracker's CLR (R357) and the epoch (R358) -/

/-- Meaning of TRACKER_CLR (R357). -/
def trackerClr (c i : Nat) (s : State) : State := s.ok.setTrack (32 * c + i) {}

/-- Whether bit `code` is set in a pair of mask registers. -/
def State.codeIn (s : State) (lo hi code : Nat) : Bool :=
  if code < 32 then s.regB lo code else s.regB hi (code - 32)

def State.fentry (s : State) (i : Nat) : FEntry := s.int.entries.get i {}
def State.setFentry (s : State) (i : Nat) (e : FEntry) : State := { s with int.entries := s.int.entries.set i e {} }

/-- The token of collector entry `i` (R364). -/
def State.collToken (s : State) (i : Nat) (isNew : Bool) : State :=
  let tok := s.reg Reg.fltTok
  let e := s.fentry i
  if !tok.bit 12 || !s.codeIn Reg.fltTokmaskLo Reg.fltTokmaskHi e.code then s
  else if 16 ≤ s.int.tokens.length then (s.bump Reg.fltTokdrop 1).orReg Reg.intStat 64
  else
    let v := word (i + e.code * 256 + (if isNew then 16384 else 0) + e.count * 65536)
    { s with int.tokens := s.int.tokens ++ [({ tid := tok.bits 9 0, slot := tok.bits 11 10, val := v } : Token)] }.collDrain

/-- Meaning of EPOCH_END (R358, R364): reports are sent again, entries into which reports merged send their token, and a
new FLT_EPOCH.MS takes effect (log 48). -/
def epochEnd (s : State) : State :=
  let ms := s.regF Reg.fltEpoch 9 0
  let s := (List.range 256).foldl (fun s i =>
    let e := s.fentry i
    if e.merged then
      let s := s.setFentry i { e with merged := false }
      if e.valid && s.regB Reg.fltTok 13 then s.collToken i false else s
    else s) s
  let s := (List.range 48).foldl (fun s n => s.setNi n { s.ni n with named := 0 }) s
  { s with int.sent := [], int.fwd := [], shg.kinds := [],
           int.epochMs := if ms = 0 then 1 else Nat.min ms 1000 }.ibDrain

/-! ## The collector (R361 to R365) -/

/-- The 28 bytes of a REPORT body: FLT_Ei_KEY, _INFO, _RPT, _TF and _TL (Table MO-4). -/
def FEntry.words (e : FEntry) : List Word :=
  if !e.valid then List.replicate 7 0#32
  else [word (e.unit + e.subj * 65536 + 2147483648), word (e.code + (if e.remote then 256 else 0) + e.count * 65536),
        word (e.first + e.last * 65536), word (e.tf % 4294967296), word (e.tf / 4294967296), word (e.tl % 4294967296),
        word (e.tl / 4294967296)]

/-- R365: forwards a local report. -/
def State.forward (s : State) (r : Report) : State :=
  let c := s.reg Reg.fltCtrl
  if s.hasShaga && c.bit 14 && c.bits 13 0 != s.did && r.first == s.did &&
      s.codeIn Reg.fltFwdmaskLo Reg.fltFwdmaskHi r.code && !s.int.fwd.contains (r.subj, r.code) then
    let s := { s with int.fwd := (r.subj, r.code) :: s.int.fwd }
    (s.bump Reg.fltFwdcnt 1).foldFault (c.bits 13 0) { r with count := 1, first := s.did, last := s.did, span := 0 }
  else s

/-- The valid entry with the key of a report. An entry whose word is uncorrectable is discarded (Table IN-1). -/
def State.collFind (s : State) (r : Report) : Option Nat × State :=
  match (List.range 256).find? (fun i =>
    let e := s.fentry i
    e.valid && e.subj == r.subj && e.unit == r.unit && e.code == r.code) with
  | none => (none, s)
  | some i =>
    match s.consult 10 (utbFault i) with
    | (true, s) => (some i, s)
    | (false, s) => (none, ((s.setFentry i {}).wordWritten 10 (utbFault i)).bump Reg.fltLost 1)

/-- Meaning of FAULT (R361): the collector accepts the oldest FAULT flit (log 48). -/
def faultFlit (s : State) : State :=
  match s.int.inbox with
  | [] => s
  | r :: rest =>
    let s := { s with int.inbox := rest }
    let now := s.fltTime
    let (hit, s) := s.collFind r
    let s := match hit with
      | some i =>
        let e := s.fentry i
        s.setFentry i { e with count := Nat.min (e.count + r.count) 0xFFFF, last := r.last, tl := now, merged := true }
      | none =>
        match (List.range 256).find? (fun i => !(s.fentry i).valid) with
        | none => (s.bump Reg.fltLost 1).orReg Reg.intStat 32
        | some i =>
          let e : FEntry :=
            { valid := true, unit := r.unit, subj := r.subj, code := r.code, count := r.count, first := r.first,
              last := r.last, tf := (now + 2 ^ 48 - 64 * r.span) % 2 ^ 48, tl := now, remote := r.first != s.did }
          let s := ((s.setFentry i e).orReg Reg.mgtIrq 1).collToken i true
          let s := if s.codeIn Reg.mgtSkfmaskLo Reg.mgtSkfmaskHi r.code then s.trigger 4 (s.cyc + 1) id else s
          s.ibReport (e.words.flatMap (fun (w : Word) => leBytes w.toNat 4))
    s.forward r

/-- Meaning of FLT_ACK (R362). -/
def fltAck (d : Word) (s : State) : State :=
  let i := d.bits 7 0
  let e := s.fentry i
  if d.bit 8 then { s with int.entries := [] }.ok
  else if e.valid && e.count == d.bits 31 16 then s.ok.setFentry i {}
  else s.err

/-- Whether FAULT_N is driven low (R363). -/
def State.faultN (s : State) : Bool :=
  s.released && (List.range 256).any (fun i =>
    let e := s.fentry i
    e.valid && s.codeIn Reg.fltPinmaskLo Reg.fltPinmaskHi e.code)

end Sys2Proof.Machine
end

