-- ==== Sys2Proof/Machine/Boot.lean ====
section
/-! DEFINITION. Sys2Proof/Machine/Boot.lean: resets, causes and Primer mode, BOOT_OK, the OTP, attestation and the update path
(15_boot_security.md; R408 to R410 of 19_power_clock_pins.md). -/
namespace Sys2Proof.Machine

/-! ## Causes and the failed-start count (R323) -/

/-- Pushes a cause with its Bay (0 none, 1 A, 2 B) and step. -/
def State.pushCause (s : State) (cause bay step : Nat) : State :=
  let s := s.setReg (Reg.devBootCause 2) (s.reg (Reg.devBootCause 1))
  let s := s.setReg (Reg.devBootCause 1) (s.reg (Reg.devBootCause 0))
  s.setReg (Reg.devBootCause 0) (word (cause + bay * 256 + step * 1024 + 2147483648))

/-- Counts a failed start, once per start. -/
def State.failStart (s : State) : State :=
  if s.boot.counted then s
  else { s with boot.count := Nat.min 3 (s.boot.count + 1), boot.counted := true }.orReg Reg.mgtIrq 4

/-- DEV_PRIMER_REASON (Table BS-11). -/
def State.primerReason (s : State) : Word :=
  let cs := (List.range 3).map (fun n => s.reg (Reg.devBootCause n))
  let held := cs.filter (fun w => w.bit 31)
  let same := held.length == 3 && cs.all (fun w => w == cs.getD 0 0#32)
  let cmap := held.foldl (fun m w => let c := w.bits 7 0; if 1 ≤ c ∧ c ≤ 14 then m ||| 2 ^ (3 + c) else m) 0
  word s.boot.count ||| Word.flag s.primer 2 ||| Word.flag same 3 ||| word cmap

/-- DEV_WDOG as read: milliseconds left, of 1,250,000 EKL cycles each (log 49). -/
def State.wdogRead (s : State) : Word :=
  if s.boot.wdog = 0 then s.reg Reg.devWdog
  else word (s.boot.wdog - (s.cyc - s.boot.wdogAt) / 1250000)

/-- Stops the watchdog; DEV_WDOG keeps what was left. -/
def State.stopWdog (s : State) : State :=
  let s := s.setReg Reg.devWdog s.wdogRead
  { s with boot.wdog := 0 }.clrReg Reg.devStatus 0x40

/-! ## Resets (R408, R409, Table PW-6) -/

/-- Registers a warm reset keeps: causes, DEV_WDOG, MGT_IRQ, MGT_MCRCERR, MGT_MSHORT, PWR_RSTCAUSE and the latched safe
profile (R331, R397, R414, R419). -/
def keptRegs : List Nat :=
  [Reg.devBootCause 0, Reg.devBootCause 1, Reg.devBootCause 2, Reg.devWdog, Reg.mgtIrq, Reg.mgtMcrcerr, Reg.mgtMshort,
   Reg.pwrRstcause] ++ (List.range 18).map Reg.pwrSafe

/-- A warm reset with its PWR_RSTCAUSE bit: everything but the state of Table PW-6 returns to reset (log 41). -/
def State.warmReset (s : State) (bit : Nat) : State :=
  let s := s.stopWdog
  let r := keptRegs.foldl (fun (r : State) a => r.setReg a (s.reg a)) {}
  let r := { r with
    pending := s.pending, free := s.free, cyc := s.cyc, rstCyc := s.cyc, resp := s.resp, part := s.part, otp := s.otp,
    flash := s.flash, sfdp := s.sfdp, boot.count := s.boot.count,
    mgt.msp := { s.mgt.msp with busy := none, wait := [] }, mgt.jtag := { s.mgt.jtag with busy := none, wait := [] },
    mgt.jir := s.mgt.jir, mgt.jdr := s.mgt.jdr, mgt.bsr := s.mgt.bsr,
    pwr := { s.pwr with change := none, asked := 0#11, prog := none, unl := 0#4, pinsOn := false } }
  (r.setReg Reg.shgDid (s.pwr.straps.setWidth 32)).orReg Reg.pwrRstcause bit

/-- Meaning of POWER_ON_RESET (R408, R409, R411): PORST_N low and its rise with device ID `straps` strapped and the
bank voltages `banks` detected, in the layout of PWR_BANK (log 5). -/
def powerOnReset (straps : BitVec 14) (banks : BitVec 4) (s : State) : State :=
  let r : State := { pending := s.pending, free := s.free, part := s.part, otp := s.otp, flash := s.flash, sfdp := s.sfdp,
                     pwr := { straps := straps, gpin := s.pwr.gpin, banks := banks } }
  let r := r.setReg Reg.shgDid (straps.setWidth 32)
  if banks.getLsbD 0 && banks.getLsbD 2 then r else (r.orReg Reg.pwrStat 8).report 0x22 0x1980

/-- Meaning of WARM_RESET (R408): an accepted low pulse of RST_N, at whose rise the device ID is sampled (log 5). -/
def warmReset (straps : BitVec 14) (s : State) : State := { s with pwr.straps := straps }.warmReset 2

/-- Meaning of SOFTWARE_RESET, a write of PWR_SWRST (R409). -/
def softwareReset (d : Word) (s : State) : State :=
  if d.bits 31 16 = 0x4B5A ∧ d.bit 0 = true then s.ok.warmReset 16 else s.ok

/-- Meaning of BOOT_OK_WATCHDOG (R322): the watchdog expires. -/
def bootOkWatchdog (s : State) : State :=
  if s.boot.wdog = 0 then s
  else
    let s := { s with boot.wdog := 0, boot.counted := false }.setReg Reg.devWdog 0#32
    ((s.pushCause 9 (s.regF Reg.devStatus 5 4) 9).failStart).warmReset 4

/-- Meaning of RETRY, a write of LDR_CMD (R324): it clears the count and begins a new start. -/
def retryStart (d : Word) (s : State) : State :=
  if d.bits 31 16 = 0x4B5A ∧ d.bit 0 = true then { s.ok with boot.count := 0 }.warmReset 8 else s.ok

/-- Meaning of NEW_START (R323): 100 ms after a failed start. -/
def newStart (s : State) : State :=
  match s.boot.stage with
  | .failed => { s with boot := { s.boot with stage := .due, counted := false, tried := [], powered := false } }
  | _ => s

/-! ## Primer mode (R324) -/

/-- Domain states of Primer mode: all off, but for PD_LG0 with PRIMER_LANE_EN. -/
def State.primerDomains (s : State) : State :=
  let s := (List.range 11).foldl (fun s d => s.setReg (Reg.pwrDomctl d) 0#32) s
  let s := (List.range 2).foldl (fun s m =>
    ((s.wipeStack m).setPhase m 4).setReg (Reg.memStat m) (if s.hasStack m then 8#32 else 0#32)) s
  if s.otp.plane && s.hasLg 0 then
    let s := s.setReg (Reg.pwrDomctl 4) 0xA#32
    let s := s.setReg (Reg.spgGcfg 0) 1#32
    let s := s.setReg (Reg.lnCfg 0 0) 0x4061#32
    s.setReg (Reg.chCfg 0 0) 0x40001#32
  else s

/-- Enters Primer mode. -/
def State.enterPrimer (s : State) : State :=
  let s := { s with boot.stage := .primer }.primerDomains
  let s := s.setReg Reg.devStatus ((s.reg Reg.devStatus &&& 1#32) ||| 8#32)
  (s.setReg Reg.ldrStat ((s.reg Reg.ldrStat &&& 0x3000#32) ||| 0xA#32)).orReg Reg.mgtIrq 8

/-- What follows a failed start: a new start, or Primer mode at a count of 3 (R323). -/
def State.afterFail (s : State) : State :=
  if s.boot.count = 3 then s.enterPrimer else { s with boot.stage := .failed }

/-! ## BOOT_OK and the OTP (R314 to R316, R322) -/

/-- Meaning of BOOT_OK, a write of DEV_BOOT_OK (R322) (log 50). -/
def bootOk (d : Word) (s : State) : State :=
  let s := s.ok
  if d.bits 31 16 ≠ 0x4B5A ∨ d.bit 0 = false ∨ s.released = false ∨ s.primer = true ∨ s.regB Reg.devStatus 2 = true then s
  else
    let s := s.stopWdog.orReg Reg.devStatus 4
    let i := s.boot.image
    { s with boot.count := 0, otp.roll := if i.adv && decide (s.otp.roll < i.roll) then i.roll else s.otp.roll }

/-- The 32 bytes of SEC_BUF or of the nonce, by their registers. -/
def State.bytesOf (s : State) (a : Nat → Nat) : List Byte := (List.range 8).flatMap (fun i => leBytes (s.reg (a i)).toNat 4)

/-- The keyed write of SEC_CMD. -/
def secKey (d : Word) : Bool := d.bits 31 16 == 0x4B5A

/-- Meaning of PROGCUST, a write of SEC_CMD with PROGCUST = 1 (R315). -/
def progcust (p : Path) (d : Word) (s : State) : State :=
  if !secKey d || !d.bit 0 then s.ok
  else if s.otp.cust ≠ 0#256 ∨ s.primer = false ∨ p ≠ .mgmt then s.err
  else { s.ok with otp.cust := digAt (s.bytesOf Reg.secBuf) 0 }

/-- Meaning of READCUST, a write of SEC_CMD with READCUST = 1 (Tables BS-7 and BS-13). -/
def readcust (d : Word) (s : State) : State :=
  if !secKey d || !d.bit 2 then s.ok else s.ok.setDigest Reg.secBuf s.otp.cust

/-! ## Attestation (R328) -/

/-- The unsigned record of Table BS-10. -/
def State.attRecord (s : State) : List Byte :=
  let pr := s.primer
  let i := s.boot.image
  let bay := s.regF Reg.devStatus 5 4
  let flags := 1 + (if pr then 65536 else 0) + (if bay = 2 then 131072 else 0) + (if s.regB Reg.devStatus 2 then 262144 else 0)
  let dg (d : BitVec 256) : List Byte := digBytes (if pr then 0#256 else d)
  leBytes 0x4B5A4154 4 ++ leBytes flags 4 ++ leBytes s.otp.serial.toNat 8 ++ leBytes (s.did + s.part.rev * 65536) 4
    ++ leBytes i.build.toNat 4 ++ leBytes (i.roll + s.otp.roll * 256) 4 ++ leBytes i.digs.length 4
    ++ s.bytesOf Reg.secAttNonce ++ dg i.head ++ leBytes s.sec.reloads 4 ++ List.replicate 28 0#8 ++ dg s.sec.prdig
    ++ i.digs.flatMap dg

/-- Meaning of ATTGO, a write of SEC_CMD with ATTGO = 1 (log 50). -/
def attgo (d : Word) (s : State) : State :=
  let s := s.ok
  if !secKey d || !d.bit 1 || s.sec.attReq.isSome then s
  else { s with sec.att := [], sec.attReq := some s.attRecord }

/-- Meaning of ATTESTATION_DONE: the record is signed and readable. -/
def attestationDone (s : State) : State :=
  match s.sec.attReq with
  | none => s
  | some r => { s with sec.att := r ++ Config.sm2Sign r, sec.attReq := none }.orReg Reg.secStat 4

/-- Reads a byte string through a pointer register that advances by four (log 41). -/
def State.ptrRead (s : State) (ptr mask : Nat) (l : List Byte) : State :=
  let i := s.regF ptr 11 0
  (s.ok (word (leAt l i 4))).setReg ptr (word ((i + 4) % mask))

/-- Meaning of ATT_DATA_READ. -/
def attDataRead (s : State) : State := s.ptrRead Reg.secAttPtr 4096 s.sec.att

/-- Meaning of CERT_DATA_READ. -/
def certDataRead (s : State) : State := s.ptrRead Reg.secCertPtr 4096 s.otp.cert

/-! ## The update path (R325 to R327) -/

def State.updState (s : State) : Nat := s.regF Reg.ldrUpdStatus 3 0
def State.updBay (s : State) : Nat := s.regF Reg.ldrUpdStatus 16 16
def State.setUpd (s : State) (st step cause bay : Nat) : State :=
  s.setReg Reg.ldrUpdStatus (word (st + step * 16 + cause * 256 + bay * 65536))

/-- Programs progress byte `i` of Bay `b`. -/
def State.progress (s : State) (b i : Nat) : State := s.flashProg (bayBase b + 0x100 + i) [0#8]

/-- Whether an update runs. -/
def State.updBusy (s : State) : Bool := decide (1 ≤ s.updState ∧ s.updState ≤ 4)

/-- Meaning of BEGIN, a write of LDR_UPD_CMD with OP = 1 (log 50). -/
def beginUpdate (s : State) : State :=
  let b := s.regF Reg.ldrUpdCtrl 0 0
  let len := (s.reg Reg.ldrUpdLen).toNat
  if s.regF Reg.devStatus 5 4 = b + 1 ∨ s.updBusy = true ∨ bayCap b < len then s.err
  else
    let s := (s.ok.flashErase (bayBase b) 4096).progress b 0
    { (s.setUpd 1 1 0 b).setReg Reg.ldrUpdOff 0#32 with boot.page := [], boot.updLen := len }

/-- Meaning of ERASE_DONE: the sectors of the image are erased and PROGRAM begins. -/
def eraseDone (s : State) : State :=
  if s.updState ≠ 1 then s
  else
    let b := s.updBay
    ((s.flashErase (imgBase b) s.boot.updLen).progress b 1).setUpd 2 2 0 b

/-- Programs the page in the buffer. -/
def State.flushPage (s : State) : State :=
  let off := (s.reg Reg.ldrUpdOff).toNat - s.boot.page.length
  { s.flashProg (imgBase s.updBay + off) s.boot.page with boot.page := [] }

/-- Meaning of UPDATE_DATA, a write of LDR_UPD_DATA. -/
def updateData (d : Word) (s : State) : State :=
  let off := (s.reg Reg.ldrUpdOff).toNat
  if s.updState ≠ 2 ∨ s.boot.updLen < off + 4 then s.err
  else
    let s : State := { s.ok.setReg Reg.ldrUpdOff (word (off + 4)) with boot.page := s.boot.page ++ leBytes d.toNat 4 }
    if 256 ≤ s.boot.page.length then s.flushPage else s

/-- Meaning of FINISH, a write of LDR_UPD_CMD with OP = 2 (log 50). -/
def finishUpdate (s : State) : State :=
  if s.updState ≠ 2 then s.ok
  else
    let b := s.updBay
    (s.ok.flushPage.progress b 2).setUpd 3 3 0 b

/-- The directory update of R327. Whether SLOW is carried over is not stated (log 8). -/
def State.updateDir (s : State) (pref : Nat) : State :=
  let c := match s.dirUse with | some u => 1 - u | none => 0
  let old := match s.dirUse with | some u => s.dirBytes u | none => List.replicate 64 0#8
  let seq := match s.dirUse with | some u => s.dirSeq u + 1 | none => 1
  let (slow, s) := s.freeChoice 2
  let b := leBytes 0x4B5A4449 4 ++ leBytes 1 4 ++ leBytes seq 4 ++ leBytes (pref + 2 * slow) 4 ++ (old.drop 0x10).take 12
    ++ List.replicate 32 0#8
  (s.flashErase (dirAt c) 4096).flashProg (dirAt c) (b ++ leBytes (crc32 b) 4)

/-- Meaning of VERIFY_DONE: the checks of steps 4 and 6 of Table BS-8 on the image as written, then the commit. -/
def verifyDone (s : State) : State :=
  if s.updState ≠ 3 then s
  else
    let b := s.updBay
    let c := s.checkHeader b none
    let c := if c = 0 then s.checkDigests b else c
    if c ≠ 0 then s.setUpd 6 3 c b
    else
      let s := s.progress b 3
      let seq := 1 + Nat.max (s.cseq 0) (s.cseq 1)
      let h := s.header b
      let r := leBytes 0x4B5A434D 4 ++ leBytes s.boot.updLen 4 ++ leBytes seq 4 ++ (h.drop 0x14).take 4 ++ digBytes (Config.sm3 h)
      let s := s.flashProg (bayBase b) (r ++ leBytes (crc32 r) 4)
      let s := if s.regB Reg.ldrUpdCtrl 1 then s.updateDir b else s
      s.setUpd 5 4 0 b

/-- Meaning of ABORT, a write of LDR_UPD_CMD with OP = 3 (log 50). -/
def abortUpdate (s : State) : State :=
  if s.updBusy then { s.ok.setUpd 6 (s.regF Reg.ldrUpdStatus 7 4) 0 s.updBay with boot.page := [] } else s.ok

/-! ## Reads (Tables BS-11 to BS-13) -/

/-- The commit sectors have been read: step 3 of a start has passed (log 50). -/
def State.baysRead (s : State) : Bool := decide (3 ≤ s.regF Reg.ldrStat 3 0)

/-- Whether Bay `b` shows INTR (R326). -/
def State.bayIntr (s : State) (b : Nat) : Bool :=
  s.baysRead && !s.committed b && (List.range 4).any (fun i => s.progByte b i == 0)

def State.bayStatRead (s : State) (b : Nat) : Word :=
  if !s.baysRead then 0#32
  else
    let com := s.committed b
    let blank := !(s.flash.any (fun p => decide (bayBase b ≤ p.1 ∧ p.1 < bayBase b + 4096)))
    Word.flag com 0 ||| Word.flag blank 1 ||| Word.flag (s.bayIntr b) 2 ||| word (s.bayStep b * 8)
      ||| word (if com then imgRoll (s.header b) * 256 else 0)

/-- LDR_BAYx_BUILD, _SEQ and _LEN: fields 0x0C, 0x08 and 0x04 of the commit record. -/
def State.bayField (s : State) (b i : Nat) : Word :=
  if s.baysRead && s.committed b then word (le32 (s.commit b) i) else 0#32

def State.updStatusRead (s : State) : Word :=
  if s.updState ≠ 0 then s.reg Reg.ldrUpdStatus
  else if s.bayIntr 0 then word (7 + s.bayStep 0 * 16)
  else if s.bayIntr 1 then word (7 + s.bayStep 1 * 16 + 65536)
  else 0#32

def State.secStatRead (s : State) : Word :=
  (s.reg Reg.secStat &&& 4#32) ||| Word.flag (s.otp.cust != 0#256) 0 ||| Word.flag s.sec.attReq.isSome 1
    ||| Word.flag s.otp.plane 3 ||| word (s.openSessions * 16) ||| word (s.otp.roll * 256)

/-- DEV_IDCODE (R391). -/
def State.idcodeOf (s : State) : Word := word (s.part.rev * 268435456 + 0xB064DA7)

end Sys2Proof.Machine
end

