-- ==== Sys2Proof/Machine/Schedule.lean ====
section
/-! DEFINITION. Sys2Proof/Machine/Schedule.lean: schedule entries, their actions, the output pins and the side tables of
the Easel (03_easel_schedule.md, R66 to R89, R427). -/
namespace Sys2Proof.Machine

/-! ## Pin output (R74 to R78) -/

/-- An edge of pin `n` to level `lvl` at time `t`, in units of 100 ps; it is placed at least 0.8 ns after the edge before
it (R76). -/
def State.pinEdge (s : State) (n : Nat) (lvl : Bool) (t : Nat) : State :=
  let x := s.pin n
  let u := match x.lastEdge with
    | some l => Nat.max t (l + 8)
    | none => t
  let s := if u = t then s else s.orReg Reg.easStat 0x80
  s.setPin n { x with active := lvl, lastEdge := some u }

/-- The four pin operations (R74, R77). -/
def State.pinOp (s : State) (n op len tap : Nat) : State :=
  let t := s.cyc * 8 + tap
  let stop (s : State) : State := s.setPin n { s.pin n with pulse := none }
  let go (s : State) (lvl : Bool) : State := if (s.pin n).active = lvl then s else s.pinEdge n lvl t
  if op = 0 then
    let s := go s true
    s.setPin n { s.pin n with pulse := some (s.cyc + len, tap) }
  else if op = 1 then go (stop s) true
  else if op = 2 then go (stop s) false
  else go (stop s) (!(s.pin n).active)

/-- Meaning of PULSE_END (R74): the timer of the pin has expired (log 15). -/
def pulseEnd (n : Nat) (s : State) : State :=
  match (s.pin n).pulse with
  | none => s
  | some (c, tap) =>
    if c ≤ s.cyc then
      let s := s.setPin n { s.pin n with pulse := none }
      if (s.pin n).active then s.pinEdge n false (c * 8 + tap) else s
    else s

/-! ## Actions (R72, R78 to R84) -/

/-- An action that is not performed: EAS_DROP, with bit `m` of EAS_STAT. -/
def State.easDrop (s : State) (m : Nat) : State := (s.bump Reg.easDrop 1).orReg Reg.easStat m

def State.acted (s : State) (act target : Nat) : Bool := s.eas.fired.contains { act := act, target := target }
def State.act (s : State) (act target : Nat) : State :=
  { s with eas.fired := { act := act, target := target } :: s.eas.fired }

/-- A second PIN or SWAP action on one target in one cycle (R72) (log 18). -/
def State.collide (s : State) : State := ((s.bump Reg.easColl 1).orReg Reg.easStat 1).report 0x0C 0x1100

/-- PIN (R74 to R78). -/
def State.actPin (s : State) (w3 : Word) (tap : Nat) : State :=
  let n := w3.bits 5 0
  if s.acted 0 n then s.collide
  else
    let s := s.act 0 n
    let cfg := s.reg (Reg.tpCfg n)
    if !cfg.bit 0 then s.easDrop 0x40
    else
      let len := (if w3.bit 8 then w3.bits 31 12 else cfg.bits 31 12) + 1
      s.pinOp n (w3.bits 7 6) len tap

/-- PALETTE (R79): the stored command as it stands. -/
def State.actPalette (s : State) (i : Nat) (w3 : Word) : State :=
  let k := w3.bits 8 0
  let (u, s) := s.consult 8 (8256 + k)
  if u then s.deliver i (s.eas.pcmd.get k 0#64) false else s.bump Reg.easDrop 1

/-- MARKER (R80). -/
def State.actMarker (s : State) (w3 : Word) : State :=
  match s.easelMarker (w3.bits 9 0) (w3.bits 31 16) with
  | (true, s) => s
  | (false, s) => s.easDrop 0x10

/-- The value of a token (Table ES-3). -/
def tokenValue (p : Pos) (i act : Nat) (late : Bool) (w3 : Word) : Word :=
  match w3.bits 13 12 with
  | 0 => p.extractLsb' 16 32
  | 1 => p.extractLsb' 0 32
  | 2 => word (w3.bits 31 14)
  | _ => word (i + act * 4096) ||| Word.flag late 31

/-- TOKEN (R81). -/
def State.actToken (s : State) (p : Pos) (i : Nat) (late : Bool) (w3 : Word) : State :=
  if 64 ≤ s.eas.tokFifo.length then (s.easDrop 8).breach 40 0
  else
    let tk : Token := { tid := w3.bits 9 0, slot := w3.bits 11 10, val := tokenValue p i 3 late w3 }
    { s with eas.tokFifo := s.eas.tokFifo ++ [tk] }

/-- Meaning of EASEL_TOKEN_SEND (R81). -/
def easelTokenSend (s : State) : State :=
  match s.eas.tokFifo with
  | [] => s
  | tk :: r => if s.maySend 4 then { s with eas.tokFifo := r }.sendToken 4 tk else s

/-- SWAP (R82). -/
def State.actSwap (s : State) (w3 : Word) : State :=
  let t := w3.bits 5 0
  if s.acted 4 t then s.collide
  else
    let s := s.act 4 t
    if s.hasTable then { s with tbl.swaps := s.tbl.swaps ++ [t] } else s.easDrop 0x20

/-- SKETCH (R72, R83): all entries of a cycle together raise one trigger, which is the system latch's when any of them
sets SYS (R257), and else the device's own, raised when the cycle ends. -/
def State.actSketch (s : State) (i : Nat) (w3 : Word) : State :=
  let s := { s with eas.sketch := some (match s.eas.sketch with | some j => Nat.min i j | none => i) }
  if w3.bit 0 && s.hasShaga && !s.acted 5 1 then (s.act 5 1).systemSketch else s

/-- BEACON (R72, R84). A link that is not UP, and an axis that cannot be exported, such as a lost remote axis, count as not
exporting (log 65). -/
def State.actBeacon (s : State) (w3 : Word) : State :=
  let n := w3.bits 3 0
  let out := s.hasShaga && s.exportable n && (List.range 32).any (fun l => s.linkUpQ l && s.regB (Reg.shgLxp l) n)
  if !out then s.easDrop 0x20
  else if s.acted 6 n then s
  else (s.act 6 n).queueBeacons n

/-- The action of entry `i`. -/
def State.action (s : State) (i : Nat) (e : Entry) (late : Bool) (tap : Nat) : State :=
  match e.act with
  | 0 => s.actPin e.w3 tap
  | 1 => s.actPalette i e.w3
  | 2 => s.actMarker e.w3
  | 3 => s.actToken (s.axPos e.axis) i late e.w3
  | 4 => s.actSwap e.w3
  | 5 => s.actSketch i e.w3
  | 6 => s.actBeacon e.w3
  | _ => s

/-! ## Firing, skipping and recurrence (R70, R71, R75) -/

/-- The fine tap of a normal firing of entry `e` (R75). -/
def State.fineTap (s : State) (e : Entry) : Nat :=
  let x := s.axis e.axis
  let m := (s.reg (Reg.axMod e.axis)).toNat
  let cfg := s.reg (Reg.tpCfg (e.w3.bits 5 0))
  if cfg.bit 8 then cfg.bits 11 9
  else
    let p := s.axPos e.axis
    let delta := halfDiff m x.prev p
    if x.edge || x.jump || delta = 0 then 0 else 7 - 8 * halfDiff m p e.pos / delta

def State.easLast (s : State) (i act : Nat) (late skipped : Bool) : State :=
  s.setReg Reg.easLast (word (i + act * 4096 + 131072) ||| Word.flag late 15 ||| Word.flag skipped 16)

/-- Recurrence of entry `i` after a firing or a skip (R71) (log 18). -/
def State.recur (s : State) (i : Nat) (e : Entry) : State :=
  if e.rcnt = 0 then s.setEntry i { e with w2 := e.w2 &&& ~~~ 0x80#32 }
  else
    let n := if e.rcnt = 0x3FFF then 0x3FFF else e.rcnt - 1
    let e := { e with w2 := putBits e.w2 31 18 n }
    let (u, s) := s.consult 8 (8192 + e.rsel)
    if !u then (s.setEntry i e).bump Reg.easDrop 1
    else
      let st := s.eas.rstep.get e.rsel 0#64
      if st = 0#64 then s.setEntry i e
      else
        let p := reducePos (s.reg (Reg.axMod e.axis)).toNat (e.pos.toInt + st.toInt)
        s.setEntry i { e with w0 := p.extractLsb' 0 32, w1 := p.extractLsb' 32 32, fresh := true, notBefore := s.cyc + 1 }

/-- A firing of entry `i`, normal or late (log 18). -/
def State.fireEntry (s : State) (i : Nat) (e : Entry) (late : Bool) : State :=
  let tap := if late then 0 else s.fineTap e
  let s := if late then (s.bump Reg.easLate 1).orReg Reg.easStat 2 else s
  let s := (s.easLast i e.act late false).action i e late tap
  ((s.releasePending i).reloadEvent i)

/-- Staging operations that follow an evaluation of entry `i` act on what it leaves (R86). -/
def State.unstage (s : State) (i : Nat) : State :=
  { s with eas.staged := s.eas.staged.filter (fun r => r.idx != i) }

/-- Meaning of ENTRY_CROSSING (R68 to R71): entry `i` is evaluated at the position of the present EKL cycle (log
3, 18). -/
def entryCrossing (i : Nat) (s : State) : State :=
  let s := s.unstage i
  let e := s.entry i
  if !(s.released && s.regB Reg.easCtrl 0 && e.armed && decide (e.notBefore ≤ s.cyc)) then s
  else
    let (u, s) := s.consult 8 (2 * i)
    let (v, s) := s.consult 8 (2 * i + 1)
    if !(u && v) then s.setEntry i { e with w2 := e.w2 &&& ~~~ 0x80#32 }
    else
      let (e', hit, late) := evalEntry (s.reg (Reg.axMod e.axis)).toNat (s.axPos e.axis) (s.axis e.axis).jump e
      if !hit then s.setEntry i e'
      else
        let s := s.recur i e'
        if !late then s.fireEntry i e false
        else if e.miss then s.fireEntry i e true
        else ((s.bump Reg.easSkip 1).orReg Reg.easStat 4).easLast i e.act false true

/-! ## Staging and side tables (R85 to R87, R427) -/

/-- A register command of the Easel: an error before release (R373), else `k`. -/
def State.gateEasel (s : State) (k : State → State) : State := if s.released then k s.ok else s.err

/-- EAS_SCMDk keeps its IDX. -/
def State.scmd (s : State) (k idx : Nat) : State := s.setReg (Reg.easScmd k) (word idx)

/-- The words of entry `idx` are written anew. -/
def State.freshEntry (s : State) (idx : Nat) : State := (s.setWordEcc 8 (2 * idx) .ok).setWordEcc 8 (2 * idx + 1) .ok

/-- ARM of a word W2, which ACT 7 keeps at 0 (R67). -/
def armWord (w2 : Word) (arm : Bool) : Word :=
  if arm && w2.bits 6 4 != 7 then w2 ||| 0x80#32 else w2 &&& ~~~ 0x80#32

/-- The entry after a staging operation. W2[11] is reserved and stays 0 (R12); the unused bits of TARGET are kept as
written (R87, log 65). -/
def StageOp.act (o : StageOp) (e : Entry) : Entry :=
  match o.op with
  | 1 => { w0 := o.w0, w1 := o.w1, w2 := armWord o.w2 (o.w2.bit 7) &&& ~~~ 0x800#32, w3 := o.w3, fresh := true }
  | 3 => { e with w2 := armWord e.w2 true, fresh := true, notBefore := 0 }
  | _ => { e with w2 := armWord e.w2 false }

/-- Operation `o` acts on entry `idx` in the present EKL cycle, with the others of the cycle in ascending staging set
(R86) (log 3). -/
def State.stage (s : State) (idx : Nat) (o : StageOp) : State :=
  let r : Staged := (s.eas.staged.find? (fun r => r.idx == idx)).getD { idx := idx, base := s.entry idx, ops := [] }
  let ops := r.ops.filter (fun p => decide (p.k ≤ o.k)) ++ o :: r.ops.filter (fun p => decide (o.k < p.k))
  let s := s.setEntry idx (ops.foldl (fun e p => p.act e) r.base)
  { s with eas.staged := { r with ops := ops } :: s.eas.staged.filter (fun r => r.idx != idx) }

/-- Meaning of STAGE_WRITE (R86). -/
def stageWrite (k idx : Nat) (s : State) : State := s.gateEasel (fun s =>
  let w (j : Nat) : Word := s.reg (Reg.easSw k j)
  ((s.scmd k idx).freshEntry idx).stage idx { k := k, op := 1, w0 := w 0, w1 := w 1, w2 := w 2, w3 := w 3 })

/-- Word `j` of an entry. -/
def Entry.word (e : Entry) : Nat → Word
  | 0 => e.w0
  | 1 => e.w1
  | 2 => e.w2
  | _ => e.w3

/-- Copies words `js` of entry `idx` into staging set `k`. -/
def State.copyEntry (s : State) (k idx : Nat) (js : List Nat) : State :=
  js.foldl (fun s j => s.setReg (Reg.easSw k j) ((s.entry idx).word j)) s

/-- Meaning of STAGE_READ (R86): the words show the entry now, and as it stands when the EKL cycle ends (log 3). -/
def stageRead (k idx : Nat) (s : State) : State := s.gateEasel (fun s =>
  let s := (s.scmd k idx).copyEntry k idx [0, 1, 2, 3]
  { s with eas.reads := s.eas.reads.filter (fun r => r.1 != k) ++ [(k, idx, [0, 1, 2, 3])] })

/-- A write of staging word `j` of set `k` comes after the READ operations before it (R86). -/
def State.swWritten (s : State) (k j : Nat) : State :=
  { s with eas.reads := s.eas.reads.map (fun r => if r.1 = k then (k, r.2.1, r.2.2.filter (· != j)) else r) }

/-- Meaning of STAGE_ARM (R86). -/
def stageArm (k idx : Nat) (s : State) : State := s.gateEasel (fun s => (s.scmd k idx).stage idx { k := k, op := 3 })

/-- Meaning of STAGE_DISARM (R86). -/
def stageDisarm (k idx : Nat) (s : State) : State := s.gateEasel (fun s => (s.scmd k idx).stage idx { k := k, op := 4 })

/-- The Easel's part of the end of an EKL cycle: READ operations take the entry as it stands, and the SKETCH actions of the
cycle raise the device's trigger unless one of them raised the system-wide one (R72, R86, R257). -/
def State.easelEnd (s : State) : State :=
  let s := s.eas.reads.foldl (fun s r => s.copyEntry r.1 r.2.1 r.2.2) s
  let s := match s.eas.sketch with
    | some i => if s.acted 5 1 then s else s.sketchAction i
    | none => s
  { s with eas.reads := [], eas.staged := [], eas.sketch := none }

/-- A write of EAS_SCMDk: one operation of the staging set; other codes do nothing (R86). -/
def scmdWrite (k : Nat) (d : Word) (s : State) : State :=
  let i := d.bits 11 0
  match d.bits 14 12 with
  | 1 => stageWrite k i s
  | 2 => stageRead k i s
  | 3 => stageArm k i s
  | 4 => stageDisarm k i s
  | _ => s.gateEasel (fun s => s.scmd k i)

/-- Meaning of RSTEP_HI_WRITE (R87): the pair applies (log 56). -/
def rstepHiWrite (j : Nat) (d : Word) (s : State) : State := s.gateEasel (fun s =>
  { s.setWordEcc 8 (8192 + j) .ok with eas.rstep := s.eas.rstep.set j (BitVec.append d s.eas.pairLatch) 0#64 })

/-- Meaning of PCMD_HI_WRITE (R87) (log 56). -/
def pcmdHiWrite (i : Nat) (d : Word) (s : State) : State := s.gateEasel (fun s =>
  { s.setWordEcc 8 (8256 + i) .ok with eas.pcmd := s.eas.pcmd.set i (BitVec.append d s.eas.pairLatch) 0#64 })

/-- A write of a _LO register of a pair is held in the shared latch (R87). -/
def pairLoWrite (d : Word) (s : State) : State := s.gateEasel (fun s => { s with eas.pairLatch := d })

/-- SCHED_EN (R69, R427): every armed entry is fresh when it is set. -/
def State.setSched (s : State) (en : Bool) : State :=
  let was := s.regB Reg.easCtrl 0
  let s := s.setRegF Reg.easCtrl 0 0 (if en then 1 else 0)
  if en && !was then
    { s with eas.entries := s.eas.entries.map (fun p =>
        if p.2.armed then (p.1, { p.2 with fresh := true, notBefore := 0 }) else p) }
  else s

/-- Meaning of SCHED_EN_WRITE (R427). -/
def schedEnWrite (en : Bool) (s : State) : State := s.gateEasel (fun s => s.setSched en)

/-- EAS_CTRL.SAFE (R78). -/
def State.setSafe (s : State) (on : Bool) : State := s.setRegF Reg.easCtrl 1 1 (if on then 1 else 0)

/-- Meaning of SAFE_WRITE (R78). -/
def safeWrite (on : Bool) (s : State) : State := s.gateEasel (fun s => s.setSafe on)

/-- A write of EAS_CTRL. -/
def easCtrlWrite (d : Word) (s : State) : State := s.gateEasel (fun s => (s.setSched (d.bit 0)).setSafe (d.bit 1))

/-- TPn_CFG: a pin that becomes an output starts at its idle level (R74). -/
def State.setTpCfg (s : State) (n : Nat) (d : Word) : State :=
  let was := s.regB (Reg.tpCfg n) 0
  let s := s.plainWrite (Reg.tpCfg n) d
  if d.bit 0 && !was then s.setPin n { s.pin n with active := false, pulse := none } else s

/-- Meaning of TP_CFG_WRITE (R427). -/
def tpCfgWrite (n : Nat) (d : Word) (s : State) : State := s.gateEasel (fun s => s.setTpCfg n d)

end Sys2Proof.Machine
end

