-- ==== Sys2Proof/Machine/Power.lean ====
section
/-! DEFINITION. Sys2Proof/Machine/Power.lean: power domains, clocks, monitors, the safe profile and the user pins
(19_power_clock_pins.md; R394, R395 of 18_management_observation.md). -/
namespace Sys2Proof.Machine

/-! ## Power domains (R404 to R407) -/

/-- Removes the registers with addresses in `[lo, hi)`, which then read their reset values. -/
def State.dropRegs (s : State) (lo hi : Nat) : State :=
  { s with regs := s.regs.filter (fun p => decide (p.1 < lo) || decide (hi ≤ p.1)) }

/-- Panels of quadrant `q`. -/
def quadPanels (q : Nat) : List Nat := (List.range 64).filter (fun p => quadOfPanel p == q)

/-- The lanes of group `g` go down as for lost alignment (R181, R242). -/
def State.groupDown (s : State) (g : Nat) : State :=
  (List.range 8).foldl (fun s k => linkDown (8 * g + k) s) (s.channelsDown g)

/-- The joints from other quadrants into quadrant `q` keep the enrolment they have (R124). -/
def State.keepJoints (s : State) (q : Nat) : State :=
  let js := ((s.can.tiles.map Prod.fst).filter (fun t => quadOf t == q)).flatMap (fun t => (List.range 8).filterMap (fun j =>
    match prevPos j (segPos t j) with
    | some pp =>
      let k := jointKey j (segLine t j) pp
      if segTile j (segLine t j) (segPos t j) (entryIdx j) == t && s.drive t j == 1 && jointCrosses q k then some k else none
    | none => none))
  { s with can.heldJ := (s.can.heldJ ++ js).eraseDups }

/-- Quadrant `q` is released: it is powered and no longer fenced. Joints into it follow their entry tiles again, unless
a Panel keeps them; those of a quadrant that lost its contents are empty (R124) (log 33). -/
def State.releaseQuad (s : State) (q : Nat) : State :=
  let gone := s.can.lostQ.getLsbD q
  let heldAt (k : Nat) : Bool :=
    match nextPos (k / 512) (k % 8) with
    | some np => (s.heldOf (segTile (k / 512) (k / 8 % 64) np (entryIdx (k / 512)))).isSome
    | none => false
  { s with
    can.heldJ := s.can.heldJ.filter (fun k => !jointCrosses q k || heldAt k),
    can.joints := s.can.joints.filter (fun p => !gone || !jointCrosses q p.1),
    can.lostQ := s.can.lostQ &&& ~~~ (BitVec.ofNat 4 (2 ^ q)) }

/-- Quadrant `q` loses every content; a joint into it from another quadrant returns no credit until the release
(R124). -/
def State.loseQuad (s : State) (q : Nat) : State :=
  let s := s.keepJoints q
  let s := { s with
    can.lostQ := s.can.lostQ ||| BitVec.ofNat 4 (2 ^ q),
    can.joints := s.can.joints.filter (fun p => jointQuad p.1 != some q || jointCrosses q p.1),
    can.tiles := s.can.tiles.filter (fun p => quadOf p.1 != q),
    can.pbx := s.can.pbx.filter (fun p => quadOfPanel p.1 != q),
    can.tokLast := s.can.tokLast.drop q,
    pal.heldP := s.pal.heldP.filter (fun p => quadOfPanel p.1 != q),
    regs := s.regs.filter (fun p => decide (p.1 < 0x1000000) || decide (0x2000000 ≤ p.1)
      || quadOf ((p.1 - 0x1000000) / 4096) != q) }
  let s := match s.pal.reload with
    | some r => if quadOfPanel r.panel = q then s.pnlFail r 1 else s
    | none => s
  s.trackCheck

/-- Lane group `g` loses every content. -/
def State.loseGroup (s : State) (g : Nat) : State :=
  let s := (List.range 8).foldl (fun s k => s.dropIngress (8 * g + k)) (s.groupDown g)
  let s := { s with str.chans := s.str.chans.filter (fun p => p.1 / 8 != g),
                    shg.links := s.shg.links.filter (fun p => p.1 / 8 != g) }
  s.dropRegs (0x140000 + g * 0x4000) (0x140000 + (g + 1) * 0x4000)

/-- PD_CND loses every content: conductors, their memories and the Dispatcher. -/
def State.loseCnd (s : State) : State :=
  let s := { s with cnd := {}, dis := {}, int.eccs := s.int.eccs.filter (fun p => p.1 / 4294967296 != 6) }
  (s.dropRegs 0x200000 0x280000).dropRegs 0x1C0000 0x1E0000

/-- Power is removed from domain `d` (R404). PD_Ms follows MEMs_PWR (R208). -/
def State.loseDomain (s : State) (d : Nat) : State :=
  if d < 4 then s.loseQuad d else if d < 8 then s.loseGroup (d - 4) else if d = 10 then s.loseCnd else s

/-- A domain that reached ON from state `from_` (R404, R406, R407). From OFF after the release cycle it is as R407
says; a Canvas quadrant that is not fenced is released (R124); the landing buffers and the credits of the Dispatcher
channels start afresh with PD_CND (R423). -/
def State.riseDomain (s : State) (d from_ : Nat) : State :=
  let s := if from_ != 0 || !s.released then s
    else if d < 4 then (quadPanels d).foldl (fun s p => s.stopPanel p) s
    else if d = 10 then
      { (List.range 8).foldl (fun s c => s.setCore c { s.core c with held := false }) s with relCyc := s.cyc }
    else s
  if d < 4 && !s.regB Reg.nocFreq d then s.releaseQuad d
  else if d = 10 then s.landAfresh
  else s

/-- REQ of domain `d` as it acts (R404, Table PW-15). -/
def domTarget (d req : Nat) : Nat := if req = 3 then 2 else if 4 ≤ d ∧ d < 8 ∧ req = 1 then 0 else req

def State.setDomState (s : State) (d st : Nat) : State := s.setRegF (Reg.pwrDomctl d) 3 2 st

/-- The controller takes the pending request with the lowest `d`, one change at a time (R405) (log 53). -/
def State.serveDomains (s : State) : State :=
  if s.pwr.change.isSome then s
  else
    match (List.range 11).find? (fun d => s.pwr.asked.getLsbD d) with
    | none => s
    | some d =>
      let s := { s with pwr.asked := s.pwr.asked &&& ~~~ (BitVec.ofNat 11 (2 ^ d)) }
      let t := domTarget d (s.regF (Reg.pwrDomctl d) 1 0)
      let cur := s.domState d
      if t = cur then s else { s with pwr.change := some (d, cur, t) }.setDomState d 3

/-- Meaning of DOMAIN_REQUEST, a write of PWR_DOMCTLd (R404, R405) (log 57). -/
def domainRequest (d : Nat) (w : Word) (s : State) : State :=
  if !s.hasDom d then s.ok
  else if d = 8 ∨ d = 9 then s.ok.plainWrite (Reg.pwrDomctl d) (putBits w 1 0 (s.regF (Reg.pwrDomctl d) 1 0))
  else
    let t := domTarget d (w.bits 1 0)
    let cur := match s.pwr.change with
      | some (k, _, u) => if k = d then u else s.domState d
      | none => s.domState d
    if t < cur ∧ s.regB Reg.nocFack d = false then (s.err.bump Reg.pwrRefuse 1).orReg Reg.pwrStat 1
    else
      let s := s.ok.plainWrite (Reg.pwrDomctl d) w
      { s with pwr.asked := s.pwr.asked ||| BitVec.ofNat 11 (2 ^ d) }.serveDomains

/-- Meaning of DOMAIN_CHANGE_DONE (R407): the domain that changes reaches its state. -/
def domainChangeDone (s : State) : State :=
  match s.pwr.change with
  | none => s
  | some (d, from_, t) =>
    let s := { s with pwr.change := none }.setDomState d t
    let s := if t = 0 then s.loseDomain d else if t = 2 then s.riseDomain d from_ else s
    s.serveDomains

/-- Meaning of DOM_FAIL (R405): a domain that has not reached ON within 1 ms returns to OFF. -/
def domFail (s : State) : State :=
  match s.pwr.change with
  | some (d, _, 2) =>
    let s := ({ s with pwr.change := none }.setDomState d 0).loseDomain d
    (((s.orReg (Reg.pwrDomctl d) 16).orReg Reg.pwrStat 2).report 0x21 0x1980).serveDomains
  | _ => s

/-- PWR_DOMCTLd as read: PD_Ms shows the request made through MEMs_PWR and the state reached (R404) (log 57). -/
def State.domctlRead (s : State) (d : Nat) : Word :=
  let w := s.reg (Reg.pwrDomctl d)
  if !s.hasDom d then 0#32
  else if d = 8 ∨ d = 9 then
    let req := match s.regF (Reg.memPwr (d - 8)) 1 0 with | 1 => 1 | 2 => 0 | _ => 2
    let up := w.bits 3 2 == 2
    let ph := s.mem.phase.get (d - 8) 0
    let back := s.regF (Reg.memStat (d - 8)) 3 2 == 2 && (ph == 1 || ph == 2)
    putBits (putBits w 1 0 (if up then req else 0)) 3 2 (if up && back then 3 else s.domState d)
  else w

/-! ## Clocks (R403, R410) -/

/-- Meaning of CLOCK_LOSS: a warm reset, held until REFCLK has been valid again. -/
def clockLoss (s : State) : State := { s with pwr.holdC := true }.warmReset 64

/-- Meaning of CLOCK_RECOVERY. -/
def clockRecovery (s : State) : State := { s with pwr.holdC := false }

/-- Meaning of PLL_UNLOCK (R403): PLL4 + `g` loses lock. -/
def pllUnlock (g : Nat) (s : State) : State :=
  if !s.hasLg g then s
  else
    let s := { s with pwr.unl := s.pwr.unl ||| BitVec.ofNat 4 (2 ^ g) }.groupDown g
    (s.orReg Reg.pwrStat 4).report 0x20 0x1980

/-- A link of group `g` that comes up shows its PLL locked. -/
def State.pllSeen (s : State) (g : Nat) : State := { s with pwr.unl := s.pwr.unl &&& ~~~ (BitVec.ofNat 4 (2 ^ g)) }

/-- PWR_PLLSTAT as read: PLL0 to PLL3 and the AON PLL while the device runs or starts, PLL4 + g while group g has
a mode (log 53). -/
def State.pllRead (s : State) : Word :=
  let core := decide (1 ≤ s.regF Reg.ldrStat 3 0) && !s.pwr.holdC
  let lg := (List.range 4).foldl (fun m g =>
    if s.hasLg g && s.domOn (4 + g) && s.gmode g != 0 && !s.pwr.unl.getLsbD g then m + 2 ^ (4 + g) else m) 0
  if core then word (0x10F + lg) else 0x100#32

/-! ## Monitors (R394, R395, R410, R417) -/

/-- The domain that holds sensor `n`. -/
def sensorDom (n : Nat) : Option Nat :=
  if n < 8 then some (n / 2) else if n < 12 then some (n - 4) else if n = 12 then some 10 else none

/-- Whether sensor `n` is in a unit that is present and powered. -/
def State.sensorOn (s : State) (n : Nat) : Bool :=
  match sensorDom n with
  | some d => s.hasDom d && s.domState d != 0
  | none => true

/-- A reading `t` of sensor `n` against the limit in field `[hi:lo]` of MGT_TLIM: whether it rises above, and the set of
sensors above. -/
def limitStep (set : BitVec 16) (n : Nat) (t lim : Int) : Bool × BitVec 16 :=
  let b := BitVec.ofNat 16 (2 ^ n)
  if 4 * lim < t then (!set.getLsbD n, set ||| b)
  else if t ≤ 4 * (lim - 3) then (false, set &&& ~~~ b)
  else (false, set)

/-- Meaning of TEMPERATURE_CONVERSION: sensor `n` reads `temp`, signed, in units of 0.25 °C (log 53). A thermal trip ends
once no valid sensor reads above 110 °C; one whose unit the warm reset has powered down is not valid (R394, R410). -/
def temperatureConversion (n : Nat) (temp : BitVec 10) (s : State) : State :=
  if !s.sensorOn n then s
  else
    let t := temp.toInt
    let lim := s.reg Reg.mgtTlim
    let s := s.setReg (Reg.mgtTs n) (temp.setWidth 32 ||| 0x8000#32)
    let (w, warm) := limitStep s.mgt.warm n t (sextN (lim.bits 7 0) 8)
    let (c, hot) := limitStep s.mgt.hot n t (sextN (lim.bits 15 8) 8)
    let s := { s with mgt.warm := warm, mgt.hot := hot }
    let s := if w then ((s.orReg Reg.mgtStat 0x10).orReg Reg.mgtIrq 0x20).report 0x18 0x1900 else s
    let s := if c then
        let s := ((s.orReg Reg.mgtStat 0x20).orReg Reg.mgtIrq 0x20).report 0x19 0x1900
        if s.regB Reg.pwrThctrl 0 then (s.setSafe true |>.orReg Reg.pwrStat 0x10).report 0x23 0x1980 else s
      else s
    let b := BitVec.ofNat 16 (2 ^ n)
    let s := { s with pwr.above := if 440 < t then s.pwr.above ||| b else s.pwr.above &&& ~~~ b }
    if 480 ≤ t && !s.pwr.holdT then { s with pwr.holdT := true }.warmReset 32
    else if (List.range 16).all (fun k => !s.pwr.above.getLsbD k || !s.sensorOn k) then { s with pwr.holdT := false }
    else s

/-- Whether monitor `k` measures a rail of present and powered units (R395). -/
def State.monitorOn (s : State) (k : Nat) : Bool :=
  if k = 4 ∨ k = 5 then s.hasStack (k - 4) && s.domState (4 + k) != 0 else true

/-- Meaning of VOLTAGE_CONVERSION: monitor `k` reads `mv` millivolts (log 53). -/
def voltageConversion (k : Nat) (mv : BitVec 13) (s : State) : State :=
  if !s.monitorOn k then s
  else
    let lim := s.reg (Reg.mgtVmLim k)
    let s := s.setReg (Reg.mgtVm k) (mv.setWidth 32 ||| 0x8000#32)
    let s := if mv.toNat < lim.bits 12 0 then ((s.orReg Reg.mgtStat 0x40).orReg Reg.mgtIrq 0x40).report 0x1A 0x1900 else s
    if lim.bits 28 16 < mv.toNat then ((s.orReg Reg.mgtStat 0x80).orReg Reg.mgtIrq 0x40).report 0x1B 0x1900 else s

/-- MGT_TSn and MGT_VMk as read: VALID is 0 for an absent or powered-down unit. -/
def State.tsRead (s : State) (n : Nat) : Word := if s.sensorOn n then s.reg (Reg.mgtTs n) else 0#32
def State.vmRead (s : State) (k : Nat) : Word := if s.monitorOn k then s.reg (Reg.mgtVm k) else 0#32

/-! ## General I/O and the safe profile (R412 to R414) -/

/-- Meaning of GP_INPUT (R412). -/
def gpInput (n : Nat) (b : Bool) (s : State) : State :=
  let m := BitVec.ofNat 96 (2 ^ n)
  { s with pwr.gpin := if b then s.pwr.gpin ||| m else s.pwr.gpin &&& ~~~ m }

def State.safeOtp (s : State) (w : Nat) : Word := s.otp.safe.get w 0#32

/-- The buffer word `w`, of which word 17 holds six pins. -/
def State.safeBuf (s : State) (w : Nat) : Word := s.reg (Reg.pwrSafebuf w) &&& (if w = 17 then 0x3FFFF#32 else 0x3FFFFFFF#32)

/-- Whether a nonzero field of `b` meets a nonzero and different field of `o`. -/
def fieldClash (b o : Word) : Bool :=
  (List.range 10).any (fun i =>
    let x := b.bits (3 * i + 2) (3 * i)
    let y := o.bits (3 * i + 2) (3 * i)
    x != 0 && y != 0 && x != y)

/-- Meaning of SAFE_PROG, a write of PWR_SAFECMD (R414) (log 53). -/
def safeProg (p : Path) (d : Word) (s : State) : State :=
  if d.bits 31 16 ≠ 0x4B5A ∨ d.bit 0 = false then s.ok
  else
    let old : SMap Word := s.pwr.prog.getD s.otp.safe
    let clash := (List.range 18).any (fun w => fieldClash (s.safeBuf w) (old.get w 0#32))
    if s.primer = false ∨ p ≠ .mgmt ∨ clash = true then s.err
    else
      let new : SMap Word := (List.range 18).foldl (fun m w => SMap.set m w (old.get w 0#32 ||| s.safeBuf w) 0#32) old
      { s.ok with pwr.prog := some new }

/-- Meaning of SAFE_PROG_DONE. -/
def safeProgDone (s : State) : State :=
  match s.pwr.prog with
  | none => s
  | some m => { s with otp.safe := m, pwr.prog := none }

/-- Step 2 of a start: the profile is read into the latch (R414). -/
def State.latchSafe (s : State) : State := (List.range 18).foldl (fun s w => s.setReg (Reg.pwrSafe w) (s.safeOtp w)) s

/-! ## The user pins (R74, R78, R319, R388, R392, R411 to R415) -/

/-- What a pin does: it drives a level, or it is high impedance with the pull of Table PW-7. -/
inductive Pad where
  | drive (level : Bool)
  | float (pull : Nat)
  deriving DecidableEq, Repr

/-- A safe profile code (Table PW-8) (log 53). -/
def safePad : Nat → Pad
  | 1 => .float 0
  | 2 => .float 2
  | 3 => .drive false
  | 4 => .drive true
  | _ => .float 1

/-- The pin of a function that drives `level`, or none (R411). -/
def cellPad (cfg : Word) (drv : Option Bool) : Pad :=
  match drv with
  | some b => if cfg.bit 6 && b then .float (cfg.bits 1 0) else .drive b
  | none => .float (cfg.bits 1 0)

/-- Bit `b` of the word that output or driver `n` sent: 0 to 31 data, 32 and 33 the tag, 34 that a word was sent. -/
def ProbeRec.wordBit (r : ProbeRec) (n b : Nat) : Bool :=
  match r.words.find? (fun p => p.1 == n) with
  | some p => if b < 32 then p.2.data.bit b else if b < 34 then Nat.testBit p.2.tag (b - 32) else b == 34
  | none => false

/-- Probe line `j` of Panel `p` in this CCLK cycle (R387). A SIG above 19 names no signal (log 26). -/
def State.probeLine (s : State) (p j : Nat) : Bool :=
  let w := s.reg (Reg.mgtPsel p j)
  let t := tileAt p (w.bits 5 0)
  let r := s.can.probe.get t {}
  let sig := w.bits 10 6
  if !s.quadOpen (quadOfPanel p) || (s.heldOf t).isSome then false
  else if sig < 16 then r.wordBit sig (w.bits 16 11)
  else decide (sig < 20) && Nat.testBit r.bits (sig - 16)

/-- The source of probe pin `k` in this CCLK cycle (R388). -/
def State.probeSrc (s : State) (k : Nat) : Bool :=
  let w := s.reg (Reg.mgtPb k)
  match w.bits 3 1 with
  | 0 => s.probeLine (w.bits 9 4) (w.bits 11 10)
  | 1 => s.pinLevel (w.bits 9 4)
  | 2 => (s.pin (w.bits 9 4)).active
  | 3 => s.sk.last == some (s.cyc - 16) && decide (16 ≤ s.cyc)
  | 4 => s.faultN
  | _ => false

/-- The end of a CCLK cycle at an enabled probe pin whose source was `v`, in the first (`odd` false) or second cycle of a
DBG cycle: MODE combines the two, INV inverts what the pin takes (R388) (log 26). -/
def ProbePin.sample (x : ProbePin) (mode : Nat) (inv odd v : Bool) : ProbePin :=
  if !odd then { x with half := v }
  else
    let tog := (x.tog != x.half) != v
    let r := match mode with
      | 0 => x.half
      | 1 => v
      | 2 => x.half || v
      | _ => tog
    { x with tog := if mode = 3 then tog else r, line := ((r != inv) :: x.line).take 12 }

/-- The end of a CCLK cycle at the probe pins; what the tiles did in it is forgotten (R387, R388). -/
def State.probeCycle (s : State) : State :=
  let odd := s.eklc % 2 == 1
  let pbs := (List.range 16).foldl (fun (m : SMap ProbePin) k =>
    let w := s.reg (Reg.mgtPb k)
    if w.bit 0 then m.set k ((m.get k {}).sample (w.bits 13 12) (w.bit 14) odd (s.probeSrc k)) {} else m.drop k) s.mgt.pbs
  { s with mgt.pbs := pbs, can.probe := [] }

/-- The level probe pin `k` drives: that of the DBG cycle twelve before (R388); low until there is one (log 26). -/
def State.probeLevel (s : State) (k : Nat) : Bool := (s.mgt.pbs.get k {}).line.getD 11 false

/-- Whether a JTAG boundary instruction acts: reset is held or Primer mode (R392) (log 54). -/
def State.boundaryActs (s : State) : Bool :=
  (s.primer || s.pwr.holdT || s.pwr.holdC || s.boot.stage == .due) && decide (3 ≤ s.mgt.jir ∧ s.mgt.jir ≤ 7)

/-- The state of the user pin with index `i`: TPn is n, GPn is 64 + n, PBn is 160 + n (log 26). -/
def State.pad (s : State) (i : Nat) : Pad :=
  let dead := (decide (i < 64) && !s.pwr.banks.getLsbD 0) || (decide (64 ≤ i ∧ i < 160) && !s.pwr.banks.getLsbD 2)
  let cfg := s.reg (Reg.pwrIocfg i)
  if dead then .float 0
  else if s.boundaryActs then (if s.mgt.jir = 7 then .float 0 else .drive (s.mgt.bsr.getLsbD i))
  else if !s.pwr.pinsOn then safePad (s.safeCode i)
  else if i < 64 then
    if !s.regB (Reg.tpCfg i) 0 then cellPad cfg none
    else if s.regB Reg.easCtrl 1 then safePad (s.safeCode i)
    else cellPad cfg (s.pinWants i)
  else if i < 160 then
    let n := i - 64
    cellPad cfg (if s.regB (Reg.pwrGpoe (n / 32)) (n % 32) then some (s.regB (Reg.pwrGpout (n / 32)) (n % 32)) else none)
  else cellPad cfg (if s.regB (Reg.mgtPb (i - 160)) 0 then some (s.probeLevel (i - 160)) else none)

/-- The level at GPn: the one it drives, else the one from outside (R412). -/
def State.gpLevel (s : State) (n : Nat) : Bool :=
  match s.pad (64 + n) with
  | .drive b => b
  | .float _ => s.pwr.gpin.getLsbD n

/-- PWR_GPINw as read (R412). -/
def State.gpinRead (s : State) (w : Nat) : Word :=
  word ((List.range 32).foldl (fun a i => if s.gpLevel (32 * w + i) then a + 2 ^ i else a) 0)

/-! ## The lane pins (R182, Table SP-3) -/

/-- What the transmitter of a lane does: electrical idle, AN pages and training, or data. Its receiver is terminated unless
the transmitter is idle. -/
inductive LaneTx where
  | idle
  | bringUp
  | data
  deriving DecidableEq, Repr

/-- The transmitter of lane `k` of group `g` (Table SP-3): the lane is enabled, in a listed configuration, in a group that
runs; in Primer mode lane 0 of LG0 alone (R324). -/
def State.laneTx (s : State) (g k : Nat) : LaneTx :=
  let on :=
    if s.primer then s.primerLane g && k == 0
    else s.groupRuns g && s.gmode g != 0 && s.regB (Reg.lnCfg g k) 0 && laneCfgOk (s.gmode g) (s.reg (Reg.lnCfg g k))
  if !on then .idle else if s.regB (Reg.lnStat g k) 6 then .data else .bringUp

/-- Whether the receiver of a lane is terminated, with 100 Ω differential (Table SP-3). -/
def State.laneTerminated (s : State) (g k : Nat) : Bool := s.laneTx g k != .idle

/-! ## The dedicated outputs (R363, R374, R385, Table PW-9) -/

/-- An open-drain pin: driven low, or floating under the external pull-up (R411). -/
def openDrain (low : Bool) : Pad := if low then .drive false else .float 0

/-- MSP_IRQ_N (R374). PORST_N is low within POWER_ON_RESET alone (log 5). -/
def State.mspIrqN (s : State) : Pad := openDrain (s.reg Reg.mgtIrq &&& s.reg Reg.mgtIrqen != 0#32)

/-- FAULT_N (R363). -/
def State.faultPad (s : State) : Pad := openDrain s.faultN

/-- PRIMER_N: low in Primer mode (R324). -/
def State.primerPad (s : State) : Pad := openDrain s.primer

/-- SKETCH_OUT (R385). -/
def State.sketchPad (s : State) : Pad := .drive s.sketchOut

end Sys2Proof.Machine
end

