-- ==== Sys2Proof/Machine/Fence.lean ====
section
/-! DEFINITION. Sys2Proof/Machine/Fence.lean: the fence of a domain (R30 of 01_architecture.md; R236, R237 and Table NC-4 of
11_noc.md). -/
namespace Sys2Proof.Machine

/-- Meaning of FENCE_REQ (Table NC-4, step 1): the NIs of domain `d` answer FENCED from now on, and what a fence ends at
once ends; the lanes of a fenced lane group are idle (Table SP-3). -/
def fenceReq (d : Nat) (s : State) : State :=
  let s := (s.ok.orReg Reg.nocFreq (2 ^ d)).purgeStreams.purgeEgress.dropStopped
  if 4 ≤ d ∧ d < 8 then s.channelsDown (d - 4) else s

/-- Whether every NI of domain `d` has drained (Table NC-4, step 3): no accepted request, no outstanding request and no
packet queued for injection. -/
def State.drained (s : State) (d : Nat) : Bool :=
  (List.range 48).all (fun n =>
    niDomain n != some d ||
      ((s.ni n).outst.isEmpty && (s.ni n).queue.isEmpty
        && s.noc.flights.all (fun f => !f.atNi n || Packet.kind f.pk != .request)))
    && (d != 10 || (s.dis.injWait.isEmpty
      && (List.range 8).all (fun c => (s.core c).bus.isEmpty && (s.core c).posts.isEmpty)))

/-- Meaning of FENCE_ACK (Table NC-4, step 3); the Canvas channels and joints that face a quadrant are as R121 and R124
say from then on. -/
def fenceAck (d : Nat) (s : State) : State :=
  if s.regB Reg.nocFreq d && s.drained d then
    let s := s.orReg Reg.nocFack (2 ^ d)
    if d < 4 then (s.keepJoints d).cutInputs d else s
  else s

/-- Meaning of FENCE_RELEASE (R237 and Table NC-4, step 5). -/
def fenceRelease (d : Nat) (s : State) : State :=
  let s := (s.ok.clrReg Reg.nocFreq (2 ^ d)).clrReg Reg.nocFack (2 ^ d)
  if d < 4 && s.domOn d then s.releaseQuad d else s

end Sys2Proof.Machine
end

