-- ==== Sys2Proof/Machine/Access.lean ====
section
/-! DEFINITION. Sys2Proof/Machine/Access.lean: accesses of the register space and of the global space, and the windows
(R4, R5, R16 to R19, R425 of 00_scope.md and 01_architecture.md; R27, R373 to R377 of 18_management_observation.md; the
register tables of every chapter). -/
namespace Sys2Proof.Machine

/-! ## Single registers -/

/-- A plain read and a plain write under the masks of Table SC-4; an unmapped offset reads zero and ignores the write (R18). -/
def State.rd (s : State) (a : Nat) : State := (s.ok (s.reg a)).plainRead a
def State.wr (s : State) (a : Nat) (d : Word) : State := (s.plainWrite a d).ok

/-- Low or high word of a 64-bit value. -/
def half64 (v : BitVec 64) (hi : Bool) : Word := if hi then v.extractLsb' 32 32 else v.extractLsb' 0 32

/-- Index of address `a` in an array of `n` elements `stride` apart from `base`, with the offset inside the element. -/
def arrayAt (a base stride n : Nat) : Option (Nat × Nat) :=
  if base ≤ a ∧ a < base + stride * n then some ((a - base) / stride, (a - base) % stride) else none

/-- DEV as read (Table BS-11). -/
def State.readDev (s : State) (a : Nat) : State :=
  if a = Reg.devIdcode then s.ok s.idcodeOf
  else if a = Reg.devUnits then s.ok (word (devUnits s.part.variant))
  else if a = Reg.devPrimerReason then s.ok s.primerReason
  else if a = Reg.devSerialLo then s.ok (half64 s.otp.serial false)
  else if a = Reg.devSerialHi then s.ok (half64 s.otp.serial true)
  else if a = Reg.devWdog then s.ok s.wdogRead
  else s.rd a

def State.writeDev (s : State) (a : Nat) (d : Word) : State :=
  if a = Reg.devBootOk then bootOk d s else s.wr a d

/-- Writes that window `k` has accepted and not completed. -/
def Win.writes (x : Win) : Nat := ((x.issued ++ x.wait).filter (fun a => a.write && a.who.isNone)).length

def State.win (s : State) (k : Nat) : Win := s.mgt.wins.get k {}
def State.setWin (s : State) (k : Nat) (x : Win) : State := { s with mgt.wins := s.mgt.wins.set k x {} }

/-- MGT as read, without the window data registers (Table MO-10). -/
def State.readMgt (s : State) (a : Nat) : State :=
  if a = Reg.mgtEklcLo then
    { s with mgt.eklcHi := word (s.eklc / 4294967296) }.ok (word s.eklc)
  else if a = Reg.mgtEklcHi then s.ok s.mgt.eklcHi
  else if a = Reg.mgtSkstat then s.ok s.skstatRead
  else if a = Reg.mgtSkrecData then skrecDataRead s
  else if a = Reg.mgtRbData then rbDataRead s
  else match arrayAt a (Reg.mgtWaddrLo 0) 0x20 8 with
    | some (k, 0xC) => s.ok (s.reg a ||| word ((s.win k).writes % 8 * 16))
    | some _ => s.rd a
    | none => match arrayAt a (Reg.mgtTs 0) 4 16 with
      | some (n, _) => s.ok (s.tsRead n)
      | none => match arrayAt a (Reg.mgtVm 0) 8 8 with
        | some (k, 0) => s.ok (s.vmRead k)
        | _ => s.rd a

/-- Meaning of MGT_DBG_WRITE (R393): only MGTACC and the image's CFG records may write MGT_DBG. -/
def mgtDbgWrite (p : Path) (d : Word) (s : State) : State :=
  if p = .jtag ∨ p = .loader then s.ok.setReg Reg.mgtDbg (d &&& 1#32) else s.err

def State.writeMgt (s : State) (p : Path) (a : Nat) (d : Word) : State :=
  if a = Reg.mgtDbg then mgtDbgWrite p d s
  else if a = Reg.mgtSkcmd then
    let s := if d.bit 0 then trig s else s.ok
    if d.bit 1 then rearm s else s
  else if a = Reg.mgtRbCtrl then readbackGo d s
  else s.wr a d

/-- LDR and SEC as read (Tables BS-12, BS-13 and PR-3). -/
def State.readLdr (s : State) (a : Nat) : State :=
  if a = Reg.ldrUpdStatus then s.ok s.updStatusRead
  else if a = Reg.ldrScrPendLo then s.ok (half64 s.pal.pendP false)
  else if a = Reg.ldrScrPendHi then s.ok (half64 s.pal.pendP true)
  else if a = Reg.ldrScrStopLo then s.ok (half64 s.pal.stopped false)
  else if a = Reg.ldrScrStopHi then s.ok (half64 s.pal.stopped true)
  else if a = Reg.secStat then s.ok s.secStatRead
  else if a = Reg.secAttData then attDataRead s
  else if a = Reg.secAttLen then s.ok (word s.sec.att.length)
  else if a = Reg.secCertData then certDataRead s
  else if a = Reg.secCertLen then s.ok (word s.otp.cert.length)
  else match arrayAt a (Reg.ldrBayStat 0) 0x10 2 with
    | some (b, 0) => s.ok (s.bayStatRead b)
    | some (b, 4) => s.ok (s.bayField b 0x0C)
    | some (b, 8) => s.ok (s.bayField b 8)
    | some (b, 0xC) => s.ok (s.bayField b 4)
    | _ => s.rd a

/-- A write of SEC_CMD: each of its three actions whose bit is set. A refused PROGCUST performs nothing. -/
def State.writeSecCmd (s : State) (p : Path) (d : Word) : State :=
  let s := progcust p d s
  if s.resp.status ≠ 0 then s else readcust d (attgo d s)

def State.writeLdr (s : State) (p : Path) (a : Nat) (d : Word) : State :=
  if a = Reg.ldrCmd then retryStart d s.ok
  else if a = Reg.ldrUpdCmd then
    match d.bits 1 0 with
    | 1 => beginUpdate s.ok
    | 2 => finishUpdate s.ok
    | 3 => abortUpdate s.ok
    | _ => s.ok
  else if a = Reg.ldrUpdData then updateData d s.ok
  else if a = Reg.secCmd then s.writeSecCmd p d
  else if p = .loader ∧ (arrayAt a (Reg.secMkey 0 0) 0x20 4).isSome then s.ok.setReg a d
  else s.wr a d

/-- PWR as read (Table PW-15). -/
def State.readPwr (s : State) (a : Nat) : State :=
  if a = Reg.pwrStat then s.ok (s.reg a ||| Word.flag s.pwr.prog.isSome 5)
  else if a = Reg.pwrPllstat then s.ok s.pllRead
  else if a = Reg.pwrBank then s.ok (s.pwr.banks.setWidth 32)
  else match arrayAt a (Reg.pwrDomctl 0) 4 11 with
    | some (d, _) => s.ok (s.domctlRead d)
    | none => match arrayAt a (Reg.pwrGpin 0) 4 3 with
      | some (w, _) => s.ok (s.gpinRead w)
      | none => s.rd a

def State.writePwr (s : State) (p : Path) (a : Nat) (d : Word) : State :=
  if a = Reg.pwrSwrst then softwareReset d s.ok
  else if a = Reg.pwrSafecmd then safeProg p d s
  else match arrayAt a (Reg.pwrDomctl 0) 4 11 with
    | some (n, _) => domainRequest n d s
    | none => s.wr a d

/-- INT as read (Table IN-4). -/
def State.readInt (s : State) (a : Nat) : State :=
  if a = Reg.fltValid then s.ok (word s.fltValid)
  else if a = Reg.fltTimeLo then { s with int.timeHi := word (s.fltTime / 4294967296) }.ok (word s.fltTime)
  else if a = Reg.fltTimeHi then s.ok s.int.timeHi
  else match arrayAt a (Reg.fltE 0) 0x20 256 with
    | some (i, o) => s.ok ((s.fentry i).words.getD (o / 4) 0#32)
    | none => match arrayAt a (Reg.intPtAddr 0 0) 0x100 11 with
      | some (c, o) =>
        let t := s.track (32 * c + o / 8)
        if o % 8 = 0 then s.ok (if t.state = 0 then 0#32 else word t.addr)
        else s.ok (if t.state = 0 then 0#32 else word (t.state + t.l % 65536 * 65536))
      | none => s.rd a

def State.writeInt (s : State) (a : Nat) (d : Word) : State :=
  if a = Reg.fltAck then fltAck d s
  else if a = Reg.intPassCmd then
    if d.bit 8 then passGo d s
    else
      let s := s.wr a d
      if d.bit 9 then passAbort s else s
  else match arrayAt a (Reg.intPtAddr 0 0) 0x100 11 with
    | some (c, o) => if o % 8 = 4 && d.bit 2 then trackerClr c (o / 8) s else s.ok
    | none => s.wr a d

/-- EAS as read (Tables EA-4, EA-8 and ES-6 to ES-9). -/
def State.readEas (s : State) (a : Nat) : State :=
  if a = Reg.easArmcnt then s.ok (word s.armCount)
  else if a = Reg.easTpinLo then s.ok (s.tpIn 0)
  else if a = Reg.easTpinHi then s.ok (s.tpIn 32)
  else if a = Reg.easTpoutLo then s.ok (s.tpOut 0)
  else if a = Reg.easTpoutHi then s.ok (s.tpOut 32)
  else match arrayAt a (Reg.axCfg 0) 0x40 16 with
    | some (n, 0x08) => axisPosLoRead n s
    | some (n, 0x0C) => s.ok (s.axis n).posHi
    | some (n, 0x30) => s.ok (s.axStatus n)
    | some _ => s.rd a
    | none => match arrayAt a (Reg.easRstepLo 0) 8 64 with
      | some (j, o) => s.ok (half64 (s.eas.rstep.get j 0#64) (o == 4))
      | none => match arrayAt a (Reg.easPcmdLo 0) 8 512 with
        | some (i, o) => s.ok (half64 (s.eas.pcmd.get i 0#64) (o == 4))
        | none => s.rd a

/-- A write of AXn_PIN or AXn_MOD of an enabled axis is ignored (R39). -/
def State.writeAxis (s : State) (n o a : Nat) (d : Word) : State :=
  match o with
  | 0x00 => axisCfgWrite n d s
  | 0x18 => axisCmdWrite n d s
  | 0x2C => axisRateWrite n d s
  | 0x04 => if axEn (s.reg (Reg.axCfg n)) then s.ok else s.wr a d
  | 0x1C => if axEn (s.reg (Reg.axCfg n)) then s.ok else s.wr a d
  | _ => s.wr a d

def State.writeEas (s : State) (a : Nat) (d : Word) : State :=
  if a = Reg.easCtrl then easCtrlWrite d s
  else match arrayAt a (Reg.axCfg 0) 0x40 16 with
    | some (n, o) => s.ok.writeAxis n o a d
    | none => match arrayAt a (Reg.tpCfg 0) 4 64 with
      | some (n, _) => tpCfgWrite n d s
      | none => match arrayAt a (Reg.easSw 0 0) 0x20 8 with
        | some (k, 0x10) => scmdWrite k d s
        | some (k, o) => (s.wr a d).swWritten k (o / 4)
        | none => match arrayAt a (Reg.easRstepLo 0) 8 64 with
          | some (j, o) => if o = 4 then rstepHiWrite j d s else pairLoWrite d s
          | none => match arrayAt a (Reg.easPcmdLo 0) 8 512 with
            | some (i, o) => if o = 4 then pcmdHiWrite i d s else pairLoWrite d s
            | none => s.wr a d

/-- PAL as read (Tables PS-3 to PS-6 and PR-2). -/
def State.readPal (s : State) (a : Nat) : State :=
  let pend (i : Nat) : BitVec 64 := match s.pal.pendT.get i none with | some p => p.cmd | none => 0#64
  if a = Reg.palCmdLo then s.ok s.pal.lastPlaced
  else if a = Reg.palPendv then
    s.ok (word ((List.range 16).foldl (fun n i => if (s.pal.pendT.get i none).isSome then n + 2 ^ i else n) 0))
  else match arrayAt a (Reg.palGroupLo 0) 8 16 with
    | some (g, o) => s.ok (half64 (s.pal.groups.get g 0#64) (o == 4))
    | none => match arrayAt a (Reg.palPendLo 0) 8 16 with
      | some (i, o) => s.ok (half64 (pend i) (o == 4))
      | none => s.rd a

def State.writePal (s : State) (w : Asker) (a : Nat) (d : Word) : State :=
  if a = Reg.palCmdLo then { s.ok with pal.cmdLatch := d }
  else if a = Reg.palCmdHi then s.palCmdHi w d
  else if a = Reg.palPendClr then palPendClr (d.bits 15 0) s.ok
  else if a = Reg.palPnlCmd then
    let s := if d.bit 0 then pnlGo s.ok else s.ok
    if d.bit 1 && s.resp.status == 0 then pnlAbort s else s
  else match arrayAt a (Reg.palGroupLo 0) 8 16 with
    | some (g, o) => if o = 4 then palGroupHiWrite g d s.ok else { s.ok with pal.groupLatch := d }
    | none => s.wr a d

/-- NOC as read (Tables NC-5 to NC-8). -/
def State.readNoc (s : State) (a : Nat) : State :=
  match arrayAt a (Reg.niStat 0) 0x100 48 with
  | some (n, 0x00) => s.ok (s.niStatRead n)
  | some (n, 0x34) => statLoRead n false s
  | some (n, 0x38) => s.ok (s.ni n).bytesHi
  | some (n, 0x48) => statLoRead n true s
  | some (n, 0x4C) => s.ok (s.ni n).sumHi
  | some _ => s.rd a
  | none => match arrayAt a (Reg.niRtLo 0 0) 0x200 48 with
    | some (n, o) => s.ok (s.routeRead n (o / 8) (o % 8 == 4))
    | none => s.rd a

/-- A write of NOC_FREQ: each bit that changes begins or ends a fence (Table NC-4). -/
def State.writeFreq (s : State) (d : Word) : State :=
  (List.range 11).foldl (fun s i =>
    if d.bit i && !s.regB Reg.nocFreq i then fenceReq i s
    else if !d.bit i && s.regB Reg.nocFreq i then fenceRelease i s
    else s) s.ok

def State.writeNoc (s : State) (a : Nat) (d : Word) : State :=
  if a = Reg.nocFreq then s.writeFreq d
  else match arrayAt a (Reg.drtCfg 0) 0x10 24 with
    | some (r, 8) => if d.bit 0 then routerApply .d r s.ok else s.ok
    | some _ => s.wr a d
    | none => match arrayAt a (Reg.crtCfg 0) 0x10 24 with
      | some (r, 8) => if d.bit 0 then routerApply .c r s.ok else s.ok
      | some _ => s.wr a d
      | none => match arrayAt a (Reg.niStat 0) 0x100 48 with
        | some (n, 0x10) => tbWrite n 0 d s
        | some (n, 0x14) => tbWrite n 1 d s
        | some (n, 0x18) => tbWrite n 2 d s
        | some (n, 0x1C) => tbWrite n 3 d s
        | some (n, 0x30) => sctlWrite n d s
        | some _ => s.wr a d
        | none => match arrayAt a (Reg.niRtLo 0 0) 0x200 48 with
          | some (n, o) => if o % 8 = 4 then routeWrite n (o / 8) d s else routeLoWrite n (o / 8) d s
          | none => s.wr a d

/-- SPG as read (Tables SP-10 to SP-14). The registers of a channel that the group's mode does not form read zero and
ignore writes (R179). -/
def State.readSpg (s : State) (g a : Nat) : State :=
  if a = Reg.spgGstat g then s.ok (s.gstatRead g)
  else match arrayAt a (Reg.lnCfg g 0) 0x20 8 with
    | some (k, 4) => s.ok (s.lnStatRead g k)
    | some _ => s.rd a
    | none => match arrayAt a (Reg.chCfg g 0) 0x100 8 with
      | some (k, o) =>
        let ch := 8 * g + k
        if !s.chFormed ch then s.ok
        else match o with
          | 0x04 => s.ok (s.chStatRead ch)
          | 0x44 => bytesLoRead ch false s
          | 0x48 => s.ok (s.mac ch).rxHi
          | 0x6C => bytesLoRead ch true s
          | 0x70 => s.ok (s.mac ch).txHi
          | 0xC0 => tsInfoRead ch false s
          | 0xC4 => s.ok (half64 (s.mac ch).rxtsL false)
          | 0xC8 => s.ok (half64 (s.mac ch).rxtsL true)
          | 0xD0 => tsInfoRead ch true s
          | 0xD4 => s.ok (half64 (s.mac ch).txtsL false)
          | 0xD8 => s.ok (half64 (s.mac ch).txtsL true)
          | _ => s.rd a
      | none => s.rd a

/-- A write of LNk_CFG: a lane whose EN is cleared, or whose SPEED and PMD its mode does not list, loses its link
(Tables SP-3, SP-12). -/
def State.writeLane (s : State) (g k a : Nat) (d : Word) : State :=
  let was := s.regB (Reg.lnCfg g k) 0
  let s := s.wr a d
  if was && !(d.bit 0 && laneCfgOk (s.gmode g) d) then (linkdown (8 * g + k) s).ok else s

/-- A write of SPG_GCFG: the links of Shaga that the mode no longer forms drop (R178, R242). -/
def State.writeMode (s : State) (g : Nat) (d : Word) : State := (spgModeWrite g d s).dropStopped

def State.writeSpg (s : State) (g a : Nat) (d : Word) : State :=
  if a = Reg.spgGcfg g then s.writeMode g d
  else match arrayAt a (Reg.lnCfg g 0) 0x20 8 with
    | some (k, 0) => s.writeLane g k a d
    | some _ => s.wr a d
    | none => match arrayAt a (Reg.chCfg g 0) 0x100 8 with
      | some (k, o) =>
        if !s.chFormed (8 * g + k) then s.ok
        else if o = 8 then (s.wr a d).pfcCheck (8 * g + k)
        else s.wr a d
      | none => s.wr a d

def State.writeSpx (s : State) (a : Nat) (d : Word) : State :=
  match arrayAt a (Reg.spxEgr0 0) 8 64 with
  | some (e, o) => streamEntryWrite true e (o / 4) d s
  | none => match arrayAt a (Reg.spxIng0 0) 8 1024 with
    | some (i, o) => streamEntryWrite false i (o / 4) d s
    | none => s.wr a d

/-- SHG as read (Table SH-5). A link that is not formed reads zero and ignores writes (log 42). -/
def State.readShg (s : State) (a : Nat) : State :=
  match arrayAt a (Reg.shgLcfg 0) 0x40 32 with
  | some (l, o) =>
    if !s.linkFormed l then s.ok else if o = 4 then s.ok (s.lstatRead l) else s.rd a
  | none => s.rd a

def State.writeShg (s : State) (a : Nat) (d : Word) : State :=
  if a = Reg.shgCfg then shgEnWrite a d s
  else if a = Reg.shgRtcmd then
    match d.bits 1 0 with
    | 1 => rtcmdWrite s
    | 2 => rtcmdRead s
    | _ => s.ok
  else match arrayAt a (Reg.shgLcfg 0) 0x40 32 with
    | some (l, o) => if !s.linkFormed l then s.ok else if o = 0 then shgEnWrite a d s else s.wr a d
    | none => match arrayAt a (Reg.shgProxyLo 0) 8 128 with
      | some (i, o) => (if o = 4 then proxyHiWrite i d s.ok else proxyLoWrite i d s.ok)
      | none => s.wr a d

/-- TBL as read (Table MT-8). -/
def State.readTbl (s : State) (a : Nat) : State :=
  if a = Reg.tblLkpLo then lkpLoRead s
  else if a = Reg.tblLkpHi then s.ok s.tbl.lkpHi
  else match arrayAt a (Reg.tblPort 0) 4 64 with
    | some (p, _) => s.ok (s.tblPortRead p)
    | none => s.rd a

def State.writeTbl (s : State) (a : Nat) (d : Word) : State :=
  if a = Reg.tblSwapReg then tblSwap (d.bits 5 0) s
  else match arrayAt a (Reg.tblD 0 0) 0x40 64 with
    | some (t, o) => descriptorWrite t (o / 4) d s
    | none => s.wr a d

/-- Whether the registers of stack `st` answer: present, and its domain not off. They answer while fenced, because MEMs_PWR
is written under the fence (Table MT-2) (log 16). -/
def State.memGate (s : State) (a : Nat) (k : State → State) : State :=
  match arrayAt a 0x1A0000 0x100 2 with
  | some (st, _) =>
    if !s.hasStack st then s.absent
    else if s.regF (Reg.pwrDomctl (8 + st)) 3 2 ≠ 2 then s.respond 2 0#32
    else k s
  | none => if s.hasStack 0 || s.hasStack 1 then k s else s.absent

def State.writeMem (s : State) (a : Nat) (d : Word) : State :=
  if a = Reg.memSclrHi then sectorClear d s
  else match arrayAt a 0x1A0000 0x100 2 with
    | some (st, 0x04) => stackPowerRequest st d s
    | some (st, 0x28) => if d.bit 0 then pprGo st (d.bit 1) s else s.wr a d
    | _ => s.wr a d

/-- DIS as read (Tables DI-5 to DI-7). -/
def State.readDis (s : State) (a : Nat) : State :=
  if a = Reg.disStat then s.ok s.disStatRead
  else if a = Reg.disQmax then
    let (w, s) := s.disQmaxRead
    s.ok w
  else match arrayAt a (Reg.disCpri 0) 4 8 with
    | some (c, _) => s.ok (s.disCpriRead c)
    | none => match arrayAt a (Reg.disRdy 0) 4 16 with
      | some (p, _) => s.ok (word (s.readyList p).length)
      | none => match arrayAt a (Reg.disTcfg 0) 0x10 1024 with
        | some (t, o) => s.ok (s.disTdescRead t (o / 4))
        | none => match arrayAt a (Reg.disTst 0) 4 1024 with
          | some (t, _) => s.ok (s.disTstRead t)
          | none => match arrayAt a (Reg.disTval 0 0) 0x10 1024 with
            | some (t, o) => s.ok (s.disTvalRead t (o / 4))
            | none => s.rd a

def State.writeDis (s : State) (w : Asker) (a : Nat) (d : Word) : State :=
  if a = Reg.disCore then disCoreWrite d s
  else if a = Reg.disCancel then disCancel (d.bits 9 0) s
  else if a = Reg.disInj then s.inject w d
  else match arrayAt a (Reg.disTcfg 0) 0x10 1024 with
    | some (t, o) => threadCfgWrite t (o / 4) d s
    | none => s.wr a d

/-- CND as read (Table CO-13). -/
def State.readCnd (s : State) (c a : Nat) : State :=
  match a - Reg.cndCtrl c with
  | 0x04 => s.ok (s.cndStatRead c)
  | 0x1C => s.ok (word (s.core c).xown)
  | 0x24 =>
    let k := s.kcyc
    (s.setCore c { s.core c with cycHi := word (k / 4294967296) }).ok (word k)
  | 0x28 => s.ok (s.core c).cycHi
  | o => match arrayAt o 0x40 4 8 with
    | some (b, _) => s.ok (s.cndBankRead c b)
    | none => match arrayAt o 0x60 4 8 with
      | some (b, _) => s.ok (s.bank c b).xarea
      | none => s.rd a

/-- Meaning of CRST, a write of CNDc_CTRL.CRST (R284). -/
def coreReset (c : Nat) (s : State) : State := crst c (s.threadsLost c)

def State.writeCnd (s : State) (c a : Nat) (d : Word) : State :=
  match a - Reg.cndCtrl c with
  | 0x00 =>
    let s := if d.bit 0 then coreReset c s else s
    let s := coreHalt c (d.bit 2) (s.setRegF a 1 1 (if d.bit 1 then 1 else 0))
    (if d.bit 3 then stepCore semDone c s else s).ok
  | 0x04 =>
    let s := s.wr a d
    if d.bit 9 then s.setCore c { s.core c with syncErr := false } else s
  | _ => s.wr a d

/-- A tile register as read (Tables CT-10 to CT-14, RT-4, MA-4, MA-5, PS-7). -/
def State.readTile (s : State) (t a : Nat) : State :=
  let o := a % 0x1000
  let x := s.tile t
  match o with
  | 0x200 => s.ok (s.tileStatRead t)
  | 0x208 => s.ok (s.tileFlagsRead t)
  | 0x230 => s.ok (word x.ovfStep)
  | 0x234 => s.ok (word x.mstep)
  | 0x238 => s.ok (s.tileBufRead t)
  | 0x23C => s.ok (s.tileCredRead t)
  | 0x248 => s.ok (s.tileXstatRead t)
  | 0x25C => s.ok (s.tileParmRead t)
  | 0x350 => s.ok (Ctx.k0 x.act)
  | 0x354 => s.ok (wordI x.acc)
  | 0x358 => s.ok (word (lowBits x.acc 64 / 4294967296))
  | 0x35C => s.ok (word x.slot)
  | 0x360 => s.ok x.prev
  | 0x364 => s.ok (s.tileMacRead t)
  | 0x368 => s.ok (s.tilePbxRead t)
  | _ =>
    if o < 0x200 then s.ctxReadGo t (o / 64) (o % 64 / 4)
    else match arrayAt o 0x300 0x10 4 with
      | some (k, 0) => s.ok (x.gen k).cfg
      | some (k, 4) => s.ok (word (x.gen k).ptr)
      | some (k, 8) => s.ok (x.gen k).stg
      | some _ => s.rd a
      | none => match arrayAt o 0x340 4 4 with
        | some (k, _) => s.ok (x.treg k).val
        | none => s.rd a

def State.writeTileReg (s : State) (t a : Nat) (d : Word) : State :=
  let o := a % 0x1000
  match o with
  | 0x204 => tileCtrlWrite t d s.ok
  | 0x354 => accloWrite t d s.ok
  | 0x358 => acchiWrite t d s.ok
  | 0x368 => pbxWrite t d s.ok
  | _ =>
    if o < 0x200 then
      let v := o % 64 / 8
      if o % 8 = 0 then ctxEvenWrite t (o / 64) v d s else ctxOddWrite t (o / 64) v d s
    else match arrayAt o 0x300 0x10 4 with
      | some (k, 0) => agCfgWrite t k d s.ok
      | some (k, 4) => agPtrWrite t k d s.ok
      | some (k, 8) => if d.bit 21 then agApply t k s.ok else s.ok
      | some _ => s.wr a d
      | none => match arrayAt o 0x340 4 4 with
        | some (k, _) => tileTWrite t k d s.ok
        | none => s.wr a d

/-! ## The register space (R16, R18) -/

/-- Blocks that answer before release (R324, R373) (log 16). -/
def Block.always : Block → Bool
  | .dev => true
  | .mgt => true
  | .ldr => true
  | .pwr => true
  | .int => true
  | _ => false

/-- Whether the unit of a block is present (R4). -/
def State.blockHere (s : State) : Block → Bool
  | .spg g => s.hasLg g
  | .shg => s.hasShaga
  | .tbl => s.hasTable
  | .cnd c => s.hasCore c
  | .can t => s.hasQuad (quadOf t)
  | _ => true

/-- Whether the NI of a block answers FENCED (R236, R406). MEM gates itself (log 57). -/
def State.blockFenced (s : State) : Block → Bool
  | .spg g => s.domFenced (4 + g)
  | .dis => s.domFenced 10
  | .cnd _ => s.domFenced 10
  | .can t => s.domFenced (quadOf t)
  | _ => false

/-- What the NI of a block answers in its place: none when it carries the access to the block. Before release and in Primer
mode the blocks that do not answer give an error, those of absent units too, which is the model's choice between R373,
R324 and R4 (log 16). -/
def State.blockGate (s : State) (b : Block) : Option State :=
  if !s.released && !b.always then some (s.early (s.blockHere b && s.blockFenced b))
  else if !s.blockHere b then some s.absent
  else if s.blockFenced b then some (s.respond 2 0#32)
  else none

/-- Whether a write at register address `a` is one of SPG_GCFG of a group that is powered: R178 has it performed while the
group is fenced, where the NI answers every other access FENCED (log 16). -/
def State.modePasses (s : State) (a : Nat) : Bool :=
  s.released && (List.range 4).any (fun g => a == Reg.spgGcfg g && s.hasLg g && s.domOn (4 + g))

/-- A read of block `b` (log 59). -/
def State.blockRead (s : State) (b : Block) (a : Nat) : State :=
  match b with
  | .dev => s.readDev a
  | .mgt => s.readMgt a
  | .ldr => s.readLdr a
  | .pwr => s.readPwr a
  | .int => s.readInt a
  | .eas => s.readEas a
  | .pal => s.readPal a
  | .noc => s.readNoc a
  | .spg g => s.readSpg g a
  | .spx => s.rd a
  | .shg => s.readShg a
  | .tbl => s.readTbl a
  | .mem => s.memGate a (fun s => s.rd a)
  | .dis => s.readDis a
  | .cnd c => s.readCnd c a
  | .can t => s.readTile t a

/-- A write of block `b` by `w`, which came over path `p`. Tiles of a held Panel refuse it (R337) (log 59). -/
def State.blockWrite (s : State) (p : Path) (w : Asker) (b : Block) (a : Nat) (d : Word) : State :=
  match b with
  | .dev => s.writeDev a d
  | .mgt => s.writeMgt p a d
  | .ldr => s.writeLdr p a d
  | .pwr => s.writePwr p a d
  | .int => s.writeInt a d
  | .eas => s.writeEas a d
  | .pal => s.writePal w a d
  | .noc => s.writeNoc a d
  | .spg g => s.writeSpg g a d
  | .spx => s.writeSpx a d
  | .shg => s.writeShg a d
  | .tbl => s.writeTbl a d
  | .mem => s.memGate a (fun s => s.writeMem a d)
  | .dis => s.writeDis w a d
  | .cnd c => s.writeCnd c a d
  | .can t => if (s.heldOf t).isSome then s.err else s.writeTileReg t a d

/-- The path over which an access of `w` came (log 7). -/
def Asker.path : Asker → Path
  | .direct p => p
  | .msp => .mgmt
  | .jtag => .jtag
  | .window k _ => .window (Fin.ofNat 8 k)
  | .load c _ => .cond (Fin.ofNat 8 c)
  | .store c => .cond (Fin.ofNat 8 c)
  | .ib ch _ _ => .inband (Fin.ofNat 32 ch)
  | .flight _ pk => .ni (Fin.ofNat 48 (Packet.src pk))
  | .remote _ _ => .shaga
  | .gone n => .ni (Fin.ofNat 48 n)
  | .posted p _ => p

/-- The device whose initiator made the access, for one that came over Shaga (R221). -/
def Asker.devOf : Asker → Nat
  | .remote hdr _ => bitsOf hdr.toNat 37 24
  | .posted _ d => d
  | _ => 0

/-- The NI from which `w` made its access (log 7). -/
def Asker.niOf : Asker → Nat
  | .direct p => pathNi p
  | .load c _ => 36 + c / 4
  | .store c => 36 + c / 4
  | .flight _ pk => Packet.src pk
  | .remote _ _ => 34
  | .gone n => n
  | .posted p _ => pathNi p
  | _ => 42

/-- An access `k` that `w` makes in class `tc` without a packet of its own: its flit leaves the NI of `w`, and the time to
its response is measured (R233, R235, log 40). -/
def State.asNi (s : State) (w : Asker) (tc : Nat) (k : State → State) : State :=
  let n := w.niOf
  let t := k (s.wordSent n tc)
  match w with
  | .posted _ _ => t
  | .flight _ _ => t
  | _ =>
    if t.resp.status = 5 then { t with noc.asks := t.noc.asks ++ [(w, n, tc, t.cyc)] }
    else t.statLatency n tc 0 false

/-- The response with status `status` that `w` waited for has come (R235). -/
def State.asked (s : State) (w : Asker) (status : Nat) : State :=
  match s.noc.asks.find? (fun q => q.1 == w) with
  | none => s
  | some q =>
    { s with noc.asks := s.noc.asks.erase q }.statLatency q.2.1 q.2.2.1
      (if status = 4 then 15000 else (s.cyc - q.2.2.2) * 6 / 5) (status == 4)

/-- The class in which a unit of this device accesses a register (R271, R373, R375). -/
def regClass (other a : Nat) : Nat :=
  match blockOf a with
  | some .eas => 0
  | some .pal => 0
  | _ => other

/-- An access of the register space that is not a window data register: `size` bytes at address `a` (R16, R18). -/
def State.regAccess0 (s : State) (w : Asker) (write : Bool) (a size : Nat) (d : Word) : State :=
  if size ≠ 4 ∨ a % 4 ≠ 0 then s.err
  else match blockOf a with
    | none => s.err
    | some b => match if write && s.modePasses a then none else s.blockGate b with
      | some t => t
      | none => if write then s.blockWrite w.path w b a d else s.blockRead b a

/-! ## The global space (R19, R111, R205, R206, R221, R249, R264) -/

/-- Core and own data address of offset `o` of the conductor memories (R264); the core is none for cluster memory. -/
def condAt (o : Nat) : Option (Option Nat × Nat) :=
  if 0x200000 ≤ o then some (none, o - 0x200000 + 0x100000)
  else match o % 0x40000 / 0x10000 with
    | 0 => some (some (o / 0x40000), 0x20000 + o % 0x10000)
    | 1 => some (some (o / 0x40000), o % 0x10000)
    | 2 => some (some (o / 0x40000), 0x10000 + o % 0x10000)
    | _ => none

/-- An access at `a` waits: the Panel of the tile memory is held by a reload or a stop (R337, R348, log 51), the active
context of the tile leaves no memory slot (R27, R111), the stack has not been initialised (R204), or an RPT holds the X or Y
memory of its core (R278). -/
def State.memWaits (s : State) (a : Nat) : Bool :=
  match spaceOf a with
  | .tile =>
    let t := (a - tileBase) / 4096
    (s.quadOpen (quadOf t) && (s.heldOf t).isSome
        && (s.pal.stopped.getLsbD (panelOf t) || (match s.pal.reload with | some r => r.panel == panelOf t | none => false)))
      || s.slotsTaken t
  | .stack => s.stackGate a == .wait
  | .table =>
    let t := a % 0x1000000000 / 0x40000000
    let b := a % 0x40000000
    s.hasTable && decide (b < s.tCount t * s.tSize t) && s.stackGate (s.tBase t (s.tStandby t) + b) == .wait
  | .cond => match condAt (a - 0x110000000000) with
    | some (some c, b) => s.auxHeld c b
    | _ => false
  | _ => false

/-- A word of tile memory. A frozen Panel takes no write (R389), and where an access of a stopped one does not wait it errs
(R348). -/
def State.tileMem (s : State) (write : Bool) (a : Nat) (d : Word) : State :=
  let t := (a - tileBase) / 4096
  let i := a / 4 % 1024
  if !s.hasQuad (quadOf t) then s.absent
  else if s.domFenced (quadOf t) then s.respond 2 0#32
  else if (s.heldOf t).isSome && (write || s.pal.stopped.getLsbD (panelOf t)) then s.err
  else if write then s.ok.memWrite t i { w := d }
  else
    let (v, s) := s.memRead t i
    if v.p then s.err else s.ok v.w

/-- A word of the conductor memories. -/
def State.condMem (s : State) (write : Bool) (a : Nat) (d : Word) : State :=
  match condAt (a - 0x110000000000) with
  | none => s.err
  | some (c, b) =>
    if !(s.hasCore (c.getD 0)) then s.absent
    else if s.domFenced 10 then s.respond 2 0#32
    else if write then
      let (ok, s) := s.cWrite (c.getD 0) b d 15
      if ok then s.ok else s.err
    else
      let (v, s) := s.cRead (c.getD 0) b
      match v with
      | some w => s.ok w
      | none => s.err

/-- Device and address that an address of a remote aperture stands for, when the aperture is valid (R249). -/
def State.apertureOf (s : State) (a : Nat) : Option (Nat × Nat) :=
  let w := s.reg (Reg.shgRwin (a / 0x10000000000 % 16))
  if w.bit 31 then some (w.bits 13 0, w.bits 21 14 * 0x10000000000 + a % 0x10000000000) else none

/-- Whether a global address names a register of the EAS or PAL block (R375). -/
def fastTarget (a : Nat) : Bool := decide (0x200000100000 ≤ a ∧ a < 0x200000120000)

/-- Requests for other devices not yet answered. -/
def State.outgoing (s : State) : Nat :=
  s.shg.outst.length + (s.shg.outq.filter (fun o => match o with | .req _ => true | _ => false)).length

/-- Hands a request for another device to the Shaga engine (R247, R249); the 257th is answered ERROR. -/
def State.sendRemote (s : State) (r : OutReq) : State :=
  if !s.hasShaga then s.absent
  else if 256 ≤ s.outgoing then ((s.bump Reg.shgRref 1).orReg Reg.shgStat 4).err
  else { s.respond 5 0#32 with shg.outq := s.shg.outq ++ [.req r] }

/-- An access of one word of the device's own global space, other than a window data register, in class `tc`. An address
that is not a multiple of 4 gets an error response (log 45), counted for the table aperture (R221). -/
def State.globalAccess0 (s : State) (w : Asker) (write : Bool) (tc a : Nat) (d : Word) : State :=
  if a % 4 ≠ 0 then (if spaceOf a = .table && s.hasTable then s.apBad else s.err)
  else match spaceOf a with
    | .stack => if write then stackWrite a d s else stackRead a s
    | .table => if write then s.apWrite (pathNi w.path) w.devOf (a % 0x1000000000) d else s.apRead (a % 0x1000000000)
    | .tile => s.tileMem write a d
    | .cond => s.condMem write a d
    | .regs => s.regAccess0 w write (a - 0x200000000000) 4 d
    | .aperture =>
      if !s.hasShaga then s.absent
      else match s.apertureOf a with
        | some (dev, b) =>
          s.sendRemote { dev := dev, lay := .c, opc := if write then 2 else 1, tc := tc, addr := b, data := d, who := w }
        | none => s.err
    | .hole => s.err

/-! ## The windows (R375 to R377) -/

/-- The device, if not the own one, and the address that a window access names. -/
def State.winTarget (s : State) (x : WinAcc) : Option Nat × Nat :=
  if x.remote then (some x.dev, x.addr)
  else if spaceOf x.addr = .aperture then
    match s.apertureOf x.addr with
    | some (dev, b) => (some dev, b)
    | none => (none, x.addr)
  else (none, x.addr)

/-- Whether an address lies in the MGT window registers (R377). -/
def inWindows (a : Nat) : Bool := decide (0x200000010100 ≤ a ∧ a ≤ 0x2000000101FF)

/-- Whether the next access of a window may be issued: after every access of another class or another destination, and not
while the memory it names cannot answer or NI 42 holds its class (R27, R204, R233, R337, R376). -/
def State.winReady (s : State) (x : Win) (y : WinAcc) : Bool :=
  let (dev, a) := s.winTarget y
  x.issued.all (fun z => z.tc == y.tc && dev.isSome && (s.winTarget z).1 == dev) && !(dev.isNone && s.memWaits a)
    && s.conforms 42 y.tc

/-- Issues an access of window `k`; what it answers at once becomes its result. -/
def State.winIssue (s : State) (k : Nat) (y : WinAcc) : State :=
  let keep := s.resp
  let (_, a) := s.winTarget y
  let w : Asker := .window k y.no
  let s :=
    if inWindows a then s.err
    else s.asNi w y.tc (fun s =>
      if y.remote then
        s.sendRemote { dev := y.dev, lay := .c, opc := if y.write then 2 else 1, tc := y.tc, addr := y.addr, data := y.data,
                       who := w }
      else s.globalAccess0 w y.write y.tc y.addr y.data)
  let r := s.resp
  let x := s.win k
  let y := if r.status = 5 then y else { y with res := some (r.status, r.data) }
  { s.setWin k { x with issued := x.issued ++ [y] } with resp := keep }

/-- The oldest write of a window that still waits to be accepted is accepted (R376). -/
def acceptWrite : List WinAcc → List WinAcc × Option Asker
  | [] => ([], none)
  | y :: r =>
    match y.write, y.who with
    | true, some w => ({ y with who := none } :: r, some w)
    | _, _ =>
      let (r, w) := acceptWrite r
      (y :: r, w)

/-- Completes the oldest access of window `k` with its result (R376) (log 41). -/
def State.winComplete (s : State) (k : Nat) (y : WinAcc) (status : Nat) (d : Word) : State :=
  let x := s.win k
  let s := s.setWin k { x with issued := x.issued.drop 1 }
  let st := Reg.mgtWstat k
  let s :=
    if status = 0 then s
    else
      let s := if s.regB st 3 then s
        else (s.setReg (Reg.mgtWerrLo k) (word y.addr)).setReg (Reg.mgtWerrHi k) (word (y.addr / 4294967296 % 65536))
      s.orReg st 8
  let s := s.setRegF st 2 0 status
  if y.write then
    let x := s.win k
    let (l, w) := acceptWrite x.wait
    match w with
    | some w => (s.setWin k { x with wait := l }).answer w 0 0#32
    | none => s
  else match y.who with
    | some w => s.answer w status (if status = 0 then d else 0#32)
    | none => s

/-- Completes and issues what a window can, at most `n` times (log 41). -/
def State.winPump (s : State) (k : Nat) : Nat → State
  | 0 => s
  | n + 1 =>
    let x := s.win k
    match x.issued with
    | y :: _ =>
      match y.res with
      | some (st, d) => (s.winComplete k y st d).winPump k n
      | none => match x.wait with
        | z :: r => if s.winReady x z then ((s.setWin k { x with wait := r }).winIssue k z).winPump k n else s
        | [] => s
    | [] => match x.wait with
      | z :: r => if s.winReady x z then ((s.setWin k { x with wait := r }).winIssue k z).winPump k n else s
      | [] => s

/-- Steps that empty any window the block can hold. -/
def Win.fuel (x : Win) : Nat := 2 * (x.issued.length + x.wait.length) + 1

def State.winRun (s : State) (k : Nat) : State := s.winPump k (s.win k).fuel

/-- Every window goes on, after an event that may have unblocked one. -/
def State.winAll (s : State) : State := (List.range 8).foldl (fun s k => s.winRun k) s

/-- A read or write of MGT_WDATAk by `w` (R375, R376) (log 41). -/
def State.winAccess (s : State) (w : Asker) (k : Nat) (write : Bool) (d : Word) : State :=
  let hi := s.reg (Reg.mgtWaddrHi k)
  let a := hi.bits 15 0 * 4294967296 + (s.reg (Reg.mgtWaddrLo k)).toNat
  let remote := hi.bit 30
  let ctl := s.reg (Reg.mgtWctl k)
  let s := if ctl.bit 0 then
      let b := (a + 4) % 0x1000000000000
      (s.setReg (Reg.mgtWaddrLo k) (word b)).setRegF (Reg.mgtWaddrHi k) 15 0 (b / 4294967296)
    else s
  let x := s.win k
  let free := write && decide (x.writes < 4)
  let y : WinAcc := { no := x.next, who := if free then none else some w, write := write, data := d, addr := a,
                      dev := hi.bits 29 16, tc := 3, remote := remote }
  let tc := if fastTarget (s.winTarget y).2 then 0 else if ctl.bit 1 then 2 else 3
  let s := s.setWin k { x with wait := x.wait ++ [{ y with tc := tc }], next := x.next + 1 }
  (if free then s.ok else s.respond 5 0#32).winRun k

/-! ## The whole register space -/

/-- An access of the register space by `w`: the response is in `resp`, with status 5 while it waits. -/
def State.regAccess (s : State) (w : Asker) (write : Bool) (a size : Nat) (d : Word) : State :=
  match arrayAt a (Reg.mgtWaddrLo 0) 0x20 8 with
  | some (k, 8) => if size = 4 then s.winAccess w k write d else s.err
  | _ => s.regAccess0 w write a size d

/-- An access of the device's own global space by `w`. -/
def State.globalAccess (s : State) (w : Asker) (write : Bool) (tc a : Nat) (d : Word) : State :=
  if spaceOf a = .regs then s.regAccess w write (a - 0x200000000000) 4 d else s.globalAccess0 w write tc a d

/-- A command that is an access of block `b`: what the block's NI answers in its place, or `k` (log 16, 59). -/
def State.viaBlock (s : State) (b : Block) (k : State → State) : State :=
  match s.blockGate b with
  | some t => t
  | none => k s.ok

/-- A command that is a write of the stacks' register at `a`. -/
def State.viaMem (s : State) (a : Nat) (k : State → State) : State := s.viaBlock .mem (fun s => s.memGate a k)

/-- The low halves of the 64-bit counters (R202, R235, Table MT-8) (log 55). -/
def isCounterLo (a : Nat) : Bool :=
  a == Reg.tblLkpLo
    || (match arrayAt a (Reg.niStat 0) 0x100 48 with
      | some (_, o) => o == 0x34 || o == 0x48
      | none => false)
    || (match blockOf a with
      | some (.spg g) => (match arrayAt a (Reg.chCfg g 0) 0x100 8 with
        | some (_, o) => o == 0x44 || o == 0x6C
        | none => false)
      | _ => false)

/-- Meaning of COUNTER_LO_READ (R202) (log 55). -/
def counterLoRead (a : Nat) (s : State) : State :=
  if isCounterLo a then s.regAccess (.direct .mgmt) false a 4 0#32 else s

/-- TILE_CTRL.HOLD as a command (R116) (log 35). -/
def tileHold (t : Nat) (on : Bool) (s : State) : State :=
  tileCtrlWrite t ((s.reg (Reg.tileCtrl t) &&& 4#32) ||| Word.flag on 0) s

/-- TILE_CTRL.FIRE_ONE as a command (R116) (log 35). -/
def fireOne (t : Nat) (s : State) : State :=
  tileCtrlWrite t ((s.reg (Reg.tileCtrl t) &&& 5#32) ||| 2#32) s

/-- Sends the response of an access that has one on its way to `w`. -/
def State.finish (s : State) (w : Asker) : State := if s.resp.status = 5 then s else s.answer w s.resp.status s.resp.data

end Sys2Proof.Machine
end

