-- ==== Sys2Proof/Machine/Start.lean ====
section
/-! DEFINITION. Sys2Proof/Machine/Start.lean: the start sequence and the release stage (R159, R204, R244, R288, R303, R312,
R313, R317 to R321 of 15_boot_security.md and the chapters it names). -/
namespace Sys2Proof.Machine

/-! ## Record lists (R313) -/

/-- The records of a section body: address and value. -/
def records (b : List Byte) : List (Nat × Word) :=
  (List.range (b.length / 8)).map (fun i => (le32 b (8 * i), word (le32 b (8 * i + 4))))

/-- Blocks a record list of a kind may reach (Table BS-6, R419): CFG reaches NOC, SPG, SPX, PWR, MGT and SEC_MKEY, and not
PWR_SWRST, PWR_SAFEBUF or PWR_SAFECMD. -/
def recordAllowed (kind a : Nat) : Bool :=
  match kind with
  | 5 => blockOf a == some .eas
  | 6 => match blockOf a with
    | some .noc => true
    | some (.spg _) => true
    | some .spx => true
    | some .mgt => true
    | some .pwr => a != Reg.pwrSwrst && a != Reg.pwrSafecmd && (arrayAt a (Reg.pwrSafebuf 0) 4 18).isNone
    | some .ldr => (arrayAt a (Reg.secMkey 0 0) 0x20 4).isSome
    | _ => false
  | 8 => blockOf a == some .shg
  | _ => blockOf a == some .dis

/-- Writes held until the release cycle. -/
def recordHeld (a : Nat) : Bool :=
  a == Reg.easCtrl || a == Reg.disCtrl || a == Reg.disCore || (arrayAt a (Reg.tpCfg 0) 4 64).isSome

/-- One record, as the loader writes it (log 46). -/
def State.loadRecord (s : State) (r : Nat × Word) : State := s.regAccess (.direct .loader) true r.1 4 r.2

/-- Applies the lists of one kind in table order; records out of their blocks are counted. -/
def State.applyKind (s : State) (b kind : Nat) : State :=
  ((s.sections b).filter (fun x => x.kind == kind)).foldl (fun s x =>
    (records (s.bodyBytes b x)).foldl (fun s r =>
      if !recordAllowed kind r.1 then s.bump Reg.ldrRecskip 1
      else if recordHeld r.1 then s
      else s.loadRecord r) s) s

/-- Applies the held records of the EAS and DIS lists (log 46). -/
def State.applyHeld (s : State) (b : Nat) : State :=
  ((s.sections b).filter (fun x => x.kind == 9 || x.kind == 5)).foldl (fun s x =>
    (records (s.bodyBytes b x)).foldl (fun s r =>
      if recordAllowed x.kind r.1 && recordHeld r.1 then s.loadRecord r else s) s) s

/-! ## The checks of step 7 (R125, R178, R230) -/

/-- Whether a record of the lane configuration breaks R178 by itself: a mode or a lane of an absent group, or a Shaga mode
without the Shaga engine (log 49). -/
def State.laneRecordBad (s : State) (r : Nat × Word) : Bool :=
  (List.range 4).any (fun g =>
    let m := r.2.bits 2 0
    (r.1 == Reg.spgGcfg g && ((!s.hasLg g && m != 0 && m != 7) || (!s.hasShaga && decide (4 ≤ m ∧ m ≤ 6))))
      || (!s.hasLg g && (arrayAt r.1 (Reg.lnCfg g 0) 0x20 8).any (fun p => p.2 == 0)))

/-- Whether a lane that the records configure ends with a SPEED and PMD that Table SP-2 does not list in its group's mode, or,
in MODE 0, in any. -/
def State.laneCfgBad (s : State) (rs : List (Nat × Word)) : Bool :=
  (List.range 32).any (fun n =>
    let g := n / 8
    let k := n % 8
    let c := s.reg (Reg.lnCfg g k)
    s.hasLg g && rs.any (fun r => r.1 == Reg.lnCfg g k) &&
      !(if s.gmode g = 0 then laneCfgOk 1 c || laneCfgOk 2 c || laneCfgOk 3 c else laneCfgOk (s.gmode g) c))

/-- Whether the records, applied to a scratch copy, meet a refused stream entry (0x0B) and an illegal route (0x0C). -/
def State.scratchBad (s : State) (rs : List (Nat × Word)) : Bool × Bool × State :=
  rs.foldl (fun (q : Bool × Bool × State) r =>
    let (x, y, s) := q
    if !recordAllowed 6 r.1 then q
    else
      let t := s.loadRecord r
      let e := t.resp.status == 1
      let stream := (arrayAt r.1 (Reg.spxEgr0 0) 8 64).isSome || (arrayAt r.1 (Reg.spxIng0 0) 8 1024).isSome
      let route := (arrayAt r.1 (Reg.niRtLo 0 0) 0x200 48).isSome
      (x || (e && stream), y || (e && route), t)) (false, false, s)

/-- The whole-image checks of step 7 after the stacks: 0, or the first cause (log 49). -/
def State.imageChecks (s : State) (b : Nat) : Nat :=
  let xs := s.sections b
  let rs := (xs.filter (fun x => x.kind == 6)).flatMap (fun x => records (s.bodyBytes b x))
  let (bad, route, sc) := (s.orReg Reg.devStatus 2).scratchBad rs
  if bad || rs.any s.laneRecordBad || sc.laneCfgBad rs then 0x0B
  else if route then 0x0C
  else if xs.any (fun x => x.kind == 1 && driverConflict (imgCtx (s.bodyBytes b x))) then 0x0D
  else if stencilsBad xs then 0x0E
  else 0

/-! ## Domains (step 5; R404, R407) -/

/-- Domains that REQ_UNITS requires, other than the stacks. -/
def requiredDoms (units : Nat) : List Nat :=
  (List.range 8).filter (fun d => Nat.testBit units d) ++ (if bitsOf units 17 10 = 0 then [] else [10])

/-- Step 5: every present stack once per start, and the domains required. -/
def State.powerUp (s : State) (units : Nat) : State :=
  let s := if s.boot.powered then s else
    (List.range 2).foldl (fun s m =>
      if s.hasStack m then
        ((s.wipeStack m).setReg (Reg.memStat m) 8#32).setPhase m 0 |>.setReg (Reg.pwrDomctl (8 + m)) 0xA#32
      else s) { s with boot.powered := true }
  (requiredDoms units).foldl (fun s d => if s.hasDom d then s.setReg (Reg.pwrDomctl d) 0xA#32 else s) s

/-! ## The bodies (R312) -/

/-- The Panels whose quadrant is on. -/
def State.livePanels (s : State) : List Nat :=
  (List.range 64).filter (fun p => s.hasQuad (quadOfPanel p) && s.domOn (quadOfPanel p))

/-- Writes the words `ws` of core `c` from its own data address `a`. -/
def State.loadWords (s : State) (c a : Nat) (ws : List Word) : State :=
  (ws.zip (List.range ws.length)).foldl (fun s q => (s.cWrite c (a + 4 * q.2) q.1 15).2) s

/-- A conductor section (Table BS-6). -/
def State.loadCnd (s : State) (inst : Nat) (b : List Byte) : State :=
  if !s.domOn 10 then s
  else if inst = 8 then s.loadWords 0 0x100000 (wordsOf (b.take 0x200000))
  else if !s.hasCore inst then s
  else
    let i := le32 b 4
    let x := le32 b 8
    let y := le32 b 12
    let s := s.plainWrite (Reg.cndTvec inst) (word (le32 b 0))
    let s := s.loadWords inst 0x20000 (wordsOf ((b.drop 16).take (Nat.min i 65536)))
    let s := s.loadWords inst 0 (wordsOf ((b.drop (16 + i)).take (Nat.min x 65536)))
    s.loadWords inst 0x10000 (wordsOf ((b.drop (16 + i + x)).take (Nat.min y 65536)))

/-- A table section: descriptor words 1 to 15, then D0, then generation 0 from entry 0, unless R211 refused the descriptor
(R210) (log 39). -/
def State.loadTable (s : State) (t : Nat) (b : List Byte) : State :=
  if !s.hasTable then s
  else
    let s := ((List.range 15).map (· + 1) ++ [0]).foldl (fun s w => s.putDesc t w (word (le32 b (4 * w)))) s
    let size := s.tSize t
    let body := b.drop 64
    if Nat.testBit (le32 b 0) 0 && !s.tV t then s
    else (List.range (Nat.min (body.length / size) (s.tCount t))).foldl (fun s e =>
      if s.stackGate (s.tBase t 0 + e * size) = .go then (s.writeEntry t 0 e (wordsOf ((body.drop (e * size)).take size))).2
      else s) s

/-- A section body into its target (log 29). -/
def State.loadBody (s : State) (b : Nat) (x : Section) : State :=
  let d := s.bodyBytes b x
  let live := s.livePanels.contains x.inst
  match x.kind with
  | 1 => if live then s.writeSlots x.inst (sparse 0 (d.take 32768)) else s
  | 2 => if live then
      ((wordsOf (d.take 0x40000)).zip (List.range 0x10000)).foldl (fun s q =>
        s.memWrite (tileAt x.inst (q.2 / 1024)) (q.2 % 1024) { w := q.1 }) s
    else s
  | 3 => s.loadCnd x.inst d
  | 4 => if x.inst < 64 then s.loadTable x.inst d else s
  | 7 => if x.inst < 64 then s.setStencil x.inst (fun i => byteAt d i) else s
  | _ => s

/-! ## The release stage (R320) -/

/-- The device ID of the per-device flash record, when it applies (R244, R308). -/
def State.flashDid (s : State) : Option Nat :=
  match s.dirUse with
  | some c =>
    let d := s.dirBytes c
    if Nat.testBit (le32 d 0x10) 15 && leAt d 0x14 8 == s.otp.serial.toNat then some (bitsOf (le32 d 0x10) 13 0) else none
  | none => none

/-- What is kept of the loaded image. -/
def State.imageOf (s : State) (b : Nat) : Loaded :=
  let h := s.header b
  { bay := b, build := word (le32 h 0x14), roll := imgRoll h, adv := Nat.testBit (le32 h 0x10) 8,
    head := Config.sm3 (h.take 0x100 ++ s.tableBytes b h), digs := (s.sections b).map (·.dig) }

/-- The watchdog period of an image, in ms. -/
def wdogMs (h : List Byte) : Nat :=
  let w := le32 h 0x20
  if w = 0 then 2000 else Nat.min w 60000

/-- The release cycle: tiles into slot 0, axes and conductors released, held writes applied, watchdog started (log
46, 49). -/
def State.releaseCycle (s : State) (b : Nat) : State :=
  let xs := s.sections b
  let s : State := { s with
    relCyc := s.cyc, pwr.pinsOn := true, boot.stage := .running, boot.image := s.imageOf b, boot.wdog := wdogMs (s.header b),
    boot.wdogAt := s.cyc, sec.prdig := 0#256, sec.reloads := 0, pal.lapStart := s.cyc, pal.scrNext := 0,
    pal.noCtx := BitVec.ofNat 64 ((List.range 64).foldl (fun n p =>
      if xs.any (fun x => x.kind == 1 && x.inst == p) then n else n + 2 ^ p) 0),
    pal.srcs := ((List.range 64).filter (fun p => xs.any (fun x => x.kind == 1 && x.inst == p))).map
      (fun p => (p, PanelSrc.bay b)) }
  let s := (s.livePanels.flatMap panelTiles).foldl (fun s t => s.applySlot t 0 0) s
  let cores := (List.range 8).filter (fun c => s.hasCore c && s.domOn 10)
  let s := cores.foldl (fun s c => s.setCore c { s.core c with held := false }) s
  let s := if cores.isEmpty then s else s.setReg Reg.disCore (word (cores.foldl (fun n c => n + 2 ^ c) 0))
  let s := s.applyHeld b
  s.setReg Reg.devStatus ((s.reg Reg.devStatus &&& 1#32) ||| word (2 + (b + 1) * 16 + 64))

/-- Steps 6 and 8: bodies, descriptors, record lists, device ID, LDR_TIME, and the release cycle. RELEASED is set while the
records are applied, so that they reach their blocks (log 46). -/
def State.release (s : State) (b : Nat) : State :=
  let s := (s.sections b).foldl (fun s x => s.loadBody b x) s
  let s := s.orReg Reg.devStatus 2
  let s := [6, 8, 9, 5].foldl (fun s k => s.applyKind b k) s
  let s := match s.flashDid with
    | some d => s.setReg Reg.shgDid (word (d + 0x4000))
    | none => s
  let s := s.setReg Reg.ldrTime (word ((s.cyc - s.rstCyc) / 1250))
  let s := s.releaseCycle b
  (s.setRegF Reg.ldrStat 3 0 9).orReg Reg.mgtIrq 4

/-! ## Attempts (R317, R318) -/

/-- A failed attempt of Bay `b`: the cause is pushed, the start counts as failed, and the domains it required go off. -/
def State.attemptFails (s : State) (b cause step : Nat) : State :=
  let s := (s.pushCause cause (b + 1) step).failStart
  (requiredDoms (imgUnits (s.header b))).foldl (fun s d => s.setReg (Reg.pwrDomctl d) 0#32) s

/-- Phase and Bay shown in LDR_STAT. -/
def State.setPhaseBay (s : State) (phase bay : Nat) : State := s.setRegF Reg.ldrStat 5 0 (phase + bay * 16)

/-- Steps 7 and 8 of an attempt: `none` when it goes on waiting, a cause, or 0 when the image was released (log 49). -/
def State.lastSteps (s : State) (b : Nat) : Option Nat :=
  let units := imgUnits (s.header b)
  let need := (List.range 2).filter (fun m => Nat.testBit units (8 + m))
  if need.any (fun m => s.regB (Reg.memStat m) 1) then some 0x0A
  else if need.any (fun m => !s.regB (Reg.memStat m) 4) then none
  else some (s.imageChecks b)

/-- Tries the Bays of a list in order (log 49). -/
def State.attempts (s : State) : List Nat → State
  | [] =>
    if s.boot.tried.isEmpty then ((s.pushCause 2 0 3).failStart).afterFail else s.afterFail
  | b :: r =>
    if !s.committed b then s.attempts r
    else
      let s := { s with boot.tried := s.boot.tried ++ [b] }.setPhaseBay 4 (b + 1)
      let c := s.checkHeader b (some (digAt (s.commit b) 0x10))
      if c ≠ 0 then (s.attemptFails b c 4).attempts r
      else
        let s := (s.powerUp (imgUnits (s.header b))).setPhaseBay 6 (b + 1)
        let c := s.checkDigests b
        if c ≠ 0 then (s.attemptFails b c 6).attempts r
        else
          let s := s.setPhaseBay 7 (b + 1)
          match s.lastSteps b with
          | none => { s with boot.stage := .waiting b }
          | some 0 => s.release b
          | some c => (s.attemptFails b c 7).attempts r

/-- Meaning of START (R317 to R321): the start that is due runs, or the attempt that waits for its stacks goes on
(log 29, 49). -/
def startImage (s : State) : State :=
  match s.boot.stage with
  | .due =>
    if s.pwr.holdT || s.pwr.holdC then s
    else if s.boot.count = 3 then s.enterPrimer
    else
      let s := s.latchSafe
      let s := s.setReg Reg.ldrStat (3#32 ||| Word.flag (s.dirValid 0) 12 ||| Word.flag (s.dirValid 1) 13)
      if !s.sfdp then ((s.pushCause 1 0 3).failStart).afterFail else s.attempts s.bayOrder
  | .waiting b =>
    match s.lastSteps b with
    | none => s
    | some 0 => s.release b
    | some c => (s.attemptFails b c 7).attempts (s.bayOrder.filter (fun k => !s.boot.tried.contains k))
  | _ => s

end Sys2Proof.Machine
end

