-- ==== Sys2Proof/Machine/Requests.lean ====
section
/-! DEFINITION. Sys2Proof/Machine/Requests.lean: requests and their responses: the ports that make them, the responses on
their way, the network's C-layer requests, and the requests that cross Shaga (R226, R227 of 11_noc.md; R246 to R252 of
12_shaga_link.md; R271 of 13_conductor_cores.md; R369 to R373, R380, R393 of 18_management_observation.md). -/
namespace Sys2Proof.Machine

/-! ## NIs of addresses and of initiators (Table NC-1) -/

/-- The NI that serves a register address. -/
def regNi (a : Nat) : Nat :=
  match blockOf a with
  | some .dev => 46
  | some .mgt => 42
  | some .ldr => if a < 0x28000 then 43 else 44
  | some .pwr => 46
  | some .int => 45
  | some .eas => 40
  | some .pal => 41
  | some .noc => 47
  | some (.spg g) => 30 + g
  | some .spx => 30
  | some .shg => 34
  | some .tbl => 24
  | some .mem => 8
  | some .dis => 38
  | some (.cnd c) => 36 + c / 4
  | some (.can t) => 2 * quadOf t
  | none => 47

/-- The NI that serves a global address. -/
def homeNi (a : Nat) : Nat :=
  match spaceOf a with
  | .stack => 8 + 8 * (a / 0x400000000) + a / 256 % 8
  | .table => 24
  | .tile => 2 * quadOf ((a - tileBase) / 4096)
  | .cond => match condAt (a - 0x110000000000) with
    | some (some c, _) => 36 + c / 4
    | _ => 39
  | .regs => regNi (a - 0x200000000000)
  | .aperture => 34
  | .hole => 47

/-- Whether NI `n` serves a global address; the table engine, the Shaga engine and the stacks' registers answer at any of
their NIs. -/
def serves (n a : Nat) : Bool :=
  n == homeNi a
    || (match spaceOf a with
      | .table => decide (24 ≤ n ∧ n ≤ 29)
      | .aperture => n == 35
      | .regs => decide (8 ≤ n ∧ n < 24) && blockOf (a - 0x200000000000) == some .mem
      | _ => false)

/-- Whether an address is a register of SPX, which NI 30 carries in every state of PD_LG0 (R236). -/
def spxAddr (a : Nat) : Bool := spaceOf a == .regs && blockOf (a - 0x200000000000) == some .spx

/-! ## Register-space accesses of a core (R269, R271) -/

/-- The pointer update of a P-format load, made in the registers or in the save area of the bank's extended state
(log 43). -/
def State.latePtr (s : State) (c b : Nat) (u : Option (Nat × Word)) : State :=
  match u with
  | none => s
  | some (p, v) =>
    let x := s.core c
    if x.xown = b ∧ (x.bank b).xst = 1 then s.setPtr c u
    else if (x.bank b).xst = 2 then (s.cWrite c ((x.bank b).xarea.toNat + 4 * p) v 15).2
    else s

/-- The response to the load of bank `b` of core `c`. -/
def State.loadDone (s : State) (c b status : Nat) (d : Word) : State :=
  let x := s.core c
  match x.bus.find? (fun q => q.load && q.bank == b) with
  | none => s
  | some q =>
    let s := s.setCore c { x with bus := x.bus.erase q }
    let k := s.bank c b
    if status = 0 then
      (s.setBank c b { k with load := false, pc := k.pc + 4#32, g := k.g.set q.rd d 0#32 }).latePtr c b q.ptr
    else if x.active = some b then (s.setBank c b { k with load := false }).trap c 3 q.addr
    else s.setBank c b { k with load := false, loadErr := some q.addr }

/-- The response to the oldest store of core `c`; the stores to cluster memory behind it follow. -/
def State.storeDone (s : State) (c status : Nat) : State :=
  let x := s.core c
  match x.bus.find? (fun q => !q.load) with
  | none => s
  | some q =>
    let s := s.setCore c { x with bus := x.bus.erase q }
    (if status = 0 then s else s.storeFailed c q.addr).bufDrain c 8

/-- The class in which a core accesses a register (R271). -/
def BusReq.tc (q : BusReq) : Nat := regClass 2 (q.addr.toNat - 0x40000000)

/-- Whether access `q` of core `c` may be performed: every older one to the same destination is answered, and the NI of the
core does not hold its class (R227, R233, R271). -/
def State.busReady (s : State) (c : Nat) (q : BusReq) : Bool :=
  let dest (x : BusReq) : Nat := regNi (x.addr.toNat - 0x40000000)
  ((s.core c).bus.takeWhile (· != q)).all (fun x => regionOf x.addr.toNat != .reg || dest x != dest q) && s.conforms (36 + c / 4) q.tc

/-- Performs access `q` of core `c` for `w`; the NI of a fenced core answers in its place (R236). -/
def State.busAccess (s : State) (c : Nat) (w : Asker) (q : BusReq) : State :=
  let x := s.core c
  let s := s.setCore c { x with bus := x.bus.map (fun y => if y = q then { y with sent := true } else y) }
  if s.domFenced 10 then s.answer w 2 0#32
  else (s.asNi w q.tc (fun s => s.regAccess w (!q.load) (q.addr.toNat - 0x40000000) (szBytes q.size) q.data)).finish w

/-- Meaning of REGISTER_LOAD_RESPONSE (R271): the oldest load of core `c` that may be performed is performed, and its
response returns (log 43). -/
def registerLoadResponse (c : Nat) (s : State) : State :=
  match (s.core c).bus.find? (fun q => q.load && !q.sent && s.busReady c q) with
  | some q => s.busAccess c (.load c q.bank) q
  | none => s

/-- Meaning of STORE_RESPONSE (R271): the oldest store of core `c` is performed when it may be, and its response returns
(log 43). -/
def storeResponse (c : Nat) (s : State) : State :=
  match (s.core c).bus.find? (fun q => !q.load) with
  | some q => if q.sent || !s.busReady c q then s else s.busAccess c (.store c) q
  | none => s

/-! ## The management port and MGTACC (R369 to R373, R393) -/

def State.host (s : State) (jtag : Bool) : HostPort := if jtag then s.mgt.jtag else s.mgt.msp
def State.setHost (s : State) (jtag : Bool) (v : HostPort) : State :=
  if jtag then { s with mgt.jtag := v } else { s with mgt.msp := v }
def hostAsker (jtag : Bool) : Asker := if jtag then .jtag else .msp

/-- CRC of the management port (R370). -/
def mspCrc (b : List Byte) : Byte := BitVec.ofNat 8 (b.foldl (crc8Byte 7) 0)

/-- READY and a response (Table MO-1). -/
def hostBytes (status tag : Nat) (d : Word) : List Byte :=
  let b := [BitVec.ofNat 8 status, BitVec.ofNat 8 tag] ++ leBytes d.toNat 4
  0xA5#8 :: b ++ [mspCrc b]

/-- Returns a response, which LAST can return again. -/
def State.hostStore (s : State) (jtag : Bool) (status tag : Nat) (d : Word) : State :=
  s.setHost jtag { s.host jtag with
    stored := some { status := status, tag := tag, data := d }, busy := none, out := hostBytes status tag d }

/-- The response of the access a port waits for. -/
def State.hostDone (s : State) (jtag : Bool) (status : Nat) (d : Word) : State :=
  match (s.host jtag).busy with
  | none => s
  | some tag => s.hostStore jtag status tag d

/-- Whether NI 42 holds the request of a frame (R233, R373). -/
def State.hostHeld (s : State) (cmd addr : Nat) : Bool :=
  decide (cmd = 1 ∨ cmd = 2) && !s.conforms 42 (regClass 3 addr)

/-- Performs one frame (R371, R372). -/
def State.hostStart (s : State) (jtag : Bool) (cmd tag : Nat) (addr d : Word) : State :=
  let p := s.host jtag
  let w := hostAsker jtag
  if cmd = 1 ∨ cmd = 2 then
    ((s.setHost jtag { p with busy := some tag, out := [] }).asNi w (regClass 3 addr.toNat) (fun s =>
      s.regAccess w (cmd == 2) addr.toNat 4 d)).finish w
  else if cmd = 4 then
    let (st, v) := match p.stored with
      | some r => (r.status, r.data)
      | none => (1, 0#32)
    s.setHost jtag { p with out := hostBytes st tag v }
  else if cmd = 5 then s.hostStore jtag 0 tag s.primerReason
  else s.setHost jtag { p with out := hostBytes 0x11 tag 0#32 }

/-- A frame of eleven bytes reaches the management port or MGTACC (log 41). -/
def hostFrame (jtag : Bool) (cmd tag : Byte) (addr d : Word) (crc : Byte) (s : State) : State :=
  let p := s.host jtag
  if crc ≠ mspCrc ([cmd, tag] ++ leBytes addr.toNat 4 ++ leBytes d.toNat 4) then
    (((s.setHost jtag { p with out := hostBytes 0x10 tag.toNat 0#32 }).bump Reg.mgtMcrcerr 1).orReg Reg.mgtStat 1).report
      0x1C 0x1900
  else if p.busy.isSome || !p.wait.isEmpty || s.hostHeld cmd.toNat addr.toNat then s.setHost jtag { p with wait := p.wait ++ [(cmd, tag, addr, d)] }
  else s.hostStart jtag cmd.toNat tag.toNat addr d

/-- The next frame that waits is performed. -/
def State.hostNext (s : State) (jtag : Bool) : Option State :=
  let p := s.host jtag
  match p.busy, p.wait with
  | none, (cmd, tag, addr, d) :: r =>
    if s.hostHeld cmd.toNat addr.toNat then none
    else some ((s.setHost jtag { p with wait := r }).hostStart jtag cmd.toNat tag.toNat addr d)
  | _, _ => none

/-- Meaning of MSP_SHORT (R372). -/
def mspShort (bytes : Nat) (s : State) : State :=
  if bytes < 11 then (s.bump Reg.mgtMshort 1).orReg Reg.mgtStat 2 else s

/-! ## In-band requests (R380) -/

/-- A write that no response follows: an aperture address goes to its device as a WRP (R249); one that meets a fence is
dropped and counted (R30). -/
def State.postedWrite (s : State) (p : Path) (dev tc a : Nat) (d : Word) : State :=
  let keep := s.resp
  let w : Asker := .posted p dev
  let s :=
    if spaceOf a = .aperture then
      if !s.hasShaga then s.absent
      else match s.apertureOf a with
        | some (dev, b) => s.sendRemote { dev := dev, lay := .c, opc := 3, tc := tc, addr := b, data := d, who := w }
        | none => s.err
    else s.globalAccess w true tc a d
  let s := if s.resp.status = 2 then s.fenceDrop else s
  { s with resp := keep }

/-- The class in which NI 42 injects a flit (R380): TC0 for a register of the EAS or PAL block, of this device or of the
device an aperture names (R23). -/
def State.ibClass (s : State) (a : Nat) : Nat :=
  let b := match (if spaceOf a = .aperture then s.apertureOf a else none) with
    | some (_, b) => b
    | none => a
  if fastTarget b then 0 else 3

/-- The response flit of flit `hdr`, `a` being its address (Table NC-2) (log 42). -/
def State.rspFlit (s : State) (hdr : BitVec 64) (a status : Nat) : BitVec 64 :=
  hdrPut (hdrPut (hdrPut (hdrPut (hdrPut hdr 63 48 status) 47 44 8) 37 32 (homeNi a)) 31 30 (s.ibClass a)) 29 0 0x3FFFFFFF

/-- The first flit of a frame not yet injected, when every earlier one has been answered or is of its class. -/
def ibReady (s : State) : Nat → List IbFlit → List Nat → Option Nat
  | _, [], _ => none
  | i, .todo hdr pay :: _, busy =>
    let a := flitAddr hdr.toNat pay.toNat
    if busy.all (· == s.ibClass a) && !s.memWaits a && s.conforms 42 (s.ibClass a) then some i else none
  | i, .sent tc _ :: r, busy => ibReady s (i + 1) r (tc :: busy)
  | i, .done _ _ :: r, busy => ibReady s (i + 1) r busy

/-- The frame and flit that NI 42 injects next. -/
def State.ibPick (s : State) : Option (IbReq × Nat) :=
  s.sec.reqs.findSome? (fun q => (ibReady s 0 q.flits []).map (fun i => (q, i)))

/-- Replaces flit `i` of REQ frame `no`. -/
def State.setFlit (s : State) (no i : Nat) (f : IbFlit) : State :=
  { s with sec.reqs := s.sec.reqs.map (fun q => if q.no = no then { q with flits := q.flits.set i f } else q) }

/-- Injects flit `i` of REQ frame `q`. -/
def State.ibInject (s : State) (q : IbReq) (i : Nat) : State :=
  match q.flits[i]? with
  | some (.todo hdr pay) =>
    let a := flitAddr hdr.toNat pay.toNat
    let d := word (pay.toNat / 4294967296)
    let op := bitsOf hdr.toNat 47 44
    let ch := match s.session q.sess with
      | some x => x.chan
      | none => 0
    if op = 1 ∨ op = 2 then
      let w : Asker := .ib ch q.no i
      let keep := s.resp
      let s := ((s.setFlit q.no i (.sent (s.ibClass a) (s.rspFlit hdr a 0))).asNi w (s.ibClass a) (fun s =>
        s.globalAccess w (op == 2) (s.ibClass a) a d)).finish w
      { s with resp := keep }
    else if op = 3 then
      ((s.setFlit q.no i (.done (s.rspFlit hdr a 0) 0#64)).wordSent 42 (s.ibClass a)).postedWrite (.inband (Fin.ofNat 32 ch)) 0
        (s.ibClass a) a d
    else s.setFlit q.no i (.done (s.rspFlit hdr a 1) 0#64)
  | _ => s

/-- The response to flit `i` of REQ frame `no`. -/
def State.ibAnswer (s : State) (no i status : Nat) (d : Word) : State :=
  match s.sec.reqs.find? (fun q => q.no == no) with
  | none => s
  | some q =>
    match q.flits[i]? with
    | some (.sent _ rsp) =>
      s.setFlit no i (.done (hdrPut rsp 63 48 status) (BitVec.ofNat 64 (if status = 0 then d.toNat else 0)))
    | _ => s

/-- Meaning of REQ (R380): a session frame with N flits (log 44). -/
def reqFrame (ch : Nat) (b : List Byte) (s : State) : State :=
  if !s.ibTakes ch 0x10 b then s
  else
    let f := parseIb b
    match (s.ibGot ch b).ibAuth ch f with
    | (none, s) => s
    | (some i, s) =>
      if 8 ≤ s.sec.reqs.length ∨ 4 ≤ (s.sec.reqs.filter (fun q => q.sess == i)).length then s.ibDrop
      else
        let flits := (List.range (byteAt f.body 0)).map (fun k =>
          IbFlit.todo (BitVec.ofNat 64 (leAt f.body (4 + 16 * k) 8)) (BitVec.ofNat 64 (leAt f.body (12 + 16 * k) 8)))
        let q : IbReq := { no := s.sec.reqNo, sess := i, fid := f.body.getD 1 0#8, flits := flits }
        { s with sec.reqs := s.sec.reqs ++ [q], sec.reqNo := s.sec.reqNo + 1 }.bump Reg.mgtIbrx 1

/-- Header and payload of an answered flit. -/
def IbFlit.answer? : IbFlit → Option (BitVec 64 × BitVec 64)
  | .done hdr pay => some (hdr, pay)
  | _ => none

/-- Meaning of IB_RSP (R380): the oldest REQ whose flits are all answered gets its RSP (log 15). -/
def ibRsp (s : State) : State :=
  let up (q : IbReq) : Bool := match s.session q.sess with
    | some x => s.chRuns x.chan
    | none => false
  match s.sec.reqs.find? (fun q => q.flits.all (fun f => f.answer?.isSome) && up q) with
  | none => s
  | some q =>
    let body := q.flits.flatMap (fun f => match f.answer? with
      | some (h, p) => leBytes h.toNat 8 ++ leBytes p.toNat 8
      | none => [])
    let head : List Byte := [BitVec.ofNat 8 q.flits.length, q.fid, 0#8, 0#8]
    { s with sec.reqs := s.sec.reqs.erase q }.sessionSend q.sess 0x11 (head ++ body)

/-! ## Requests that cross Shaga (R246, R247, R249, R250) -/

/-- A response to a packet of the mesh that the Shaga engine or a register holds. -/
def State.flightAnswer (s : State) (n : Nat) (pk : Packet) (status : Nat) (d : Word) : State :=
  match pk.lay with
  | .c => s.reply n pk 8 status 0 [BitVec.ofNat 512 d.toNat]
  | .d =>
    let lines := bitsOf (pk.body.headD 0#512).toNat 49 48 + 1
    if Packet.opc pk = 1 then s.reply n pk 8 status 0 (List.replicate lines 0#512) else s.reply n pk 9 status 0 [0#512]

/-- Body `b` of a flit cell, in a flit of `lay`. -/
def cellType : Layer → Nat
  | .c => 1
  | .d => 2

/-- A response with status `status` and `flits` for the request of device `src` (Table NC-2). -/
def rspBodies (lay : Layer) (flit : BitVec 64) (status pmask : Nat) (flits : List (BitVec 512)) : List (BitVec 576) :=
  let h := match lay with
    | .c => hdrPut (hdrPut flit 63 48 status) 47 44 8
    | .d =>
      let op := if bitsOf flit.toNat 47 44 = 1 then 8 else 9
      hdrPut (hdrPut (hdrPut (hdrPut flit 60 58 status) 57 50 pmask) 49 48 (flits.length - 1)) 47 44 op
  flits.map (flitBody h)

/-- A response from device `src` reaches the engine; STRAY counts one whose request is no longer held. -/
def State.remoteDone (s : State) (src : Nat) (lay : Layer) (flit : BitVec 64) (flits : List (BitVec 512)) : State :=
  match s.shg.outst.find? (fun r => r.dev == src && r.tag == bitsOf flit.toNat 43 38 && r.lay == lay) with
  | none => s.bump Reg.shgStray 1
  | some r =>
    let s := { s with shg.outst := s.shg.outst.erase r }
    match lay with
    | .c => s.answer r.who (bitsOf flit.toNat 50 48) (word ((flits.headD 0#512).toNat % 4294967296))
    | .d =>
      match r.who with
      | .flight n pk =>
        let st := bitsOf flit.toNat 60 58
        if bitsOf flit.toNat 47 44 = 8 then s.reply n pk 8 st (bitsOf flit.toNat 57 50) flits
        else s.reply n pk 9 st 0 [0#512]
      | w => s.answer w (bitsOf flit.toNat 60 58) 0#32

/-- Sends the response of the request `flit` of device `src`, by the own table entry for `src` (R246). -/
def State.sendRsp (s : State) (src : Nat) (lay : Layer) (flit : BitVec 64) (status pmask : Nat)
    (flits : List (BitVec 512)) : State :=
  let bodies := rspBodies lay flit status pmask flits
  if src = s.did then s.remoteDone src lay (((bodies.headD 0#576).extractLsb' 0 64)) flits
  else (s.originate src (bitsOf flit.toNat 31 30) (cellType lay) bodies).2

/-- Answers the request `flit` of device `src` (R246): the response leaves at once, or the engine keeps it until
the link holds credits for it. -/
def State.respondTo (s : State) (src : Nat) (lay : Layer) (flit : BitVec 64) (status pmask : Nat)
    (flits : List (BitVec 512)) : State :=
  let tc := bitsOf flit.toNat 31 30
  if src = s.did then s.sendRsp src lay flit status pmask flits
  else if s.mayOriginate src tc flits.length
      && s.shg.outq.all (fun o => match o with | .rsp d _ f _ _ _ => d != src || bitsOf f.toNat 31 30 != tc | _ => true) then
    s.sendRsp src lay flit status pmask flits
  else { s with shg.outq := s.shg.outq ++ [.rsp src lay flit status pmask flits] }

/-- A request the engine refuses (R250). -/
def State.refusedIn (s : State) : State := (s.bump Reg.shgRref 1).orReg Reg.shgStat 4

/-- Incoming requests the engine holds (log 42). -/
def State.incoming (s : State) : Nat :=
  let rem (w : Asker) : Bool := match w with | .remote _ _ => true | _ => false
  (s.pal.waiting.filter (fun p => rem p.2)).length + (s.dis.injWait.filter (fun p => rem p.2.2)).length
    + (s.shg.outst.filter (fun r => rem r.who)).length
    + (s.shg.outq.filter (fun o => match o with | .req r => rem r.who | .rsp _ _ _ _ _ _ => true | _ => false)).length
    + (List.range 8).foldl (fun n k =>
        let x := s.win k
        n + ((x.issued ++ x.wait).filter (fun y => match y.who with | some w => rem w | none => false)).length) 0

/-- Delivers a C-layer flit of device `src` (R247, R250, R251). -/
def State.deliverC (s : State) (hdr : BitVec 128) (flit : BitVec 64) (pay : Nat) : State :=
  let src := hdr128 hdr 37 24
  let op := bitsOf flit.toNat 47 44
  let a := flitAddr flit.toNat pay
  let d := word (pay / 4294967296)
  let tc := bitsOf flit.toNat 31 30
  match op with
  | 1 | 2 =>
    if !s.regB Reg.shgCfg 1 || decide (256 ≤ s.incoming) then s.refusedIn.respondTo src .c flit 1 0 [0#512]
    else
      let w : Asker := .remote hdr flit
      (s.asNi w tc (fun s => s.globalAccess w (op == 2) tc a d)).finish w
  | 3 => if s.regB Reg.shgCfg 1 then (s.wordSent 34 tc).postedWrite .shaga src tc a d else s.refusedIn
  | 4 => s.shgTokenIn { tid := bitsOf pay 9 0, slot := bitsOf pay 11 10, val := d }
  | 5 => { s with int.inbox := s.int.inbox ++ [faultOf flit.toNat pay] }
  | 6 => if s.hasTable then { s with tbl.swaps := s.tbl.swaps ++ [bitsOf pay 5 0] } else s.orReg Reg.devStatus 1
  | 8 => s.remoteDone src .c flit [BitVec.ofNat 512 pay]
  | _ => (s.bump (Reg.niBadop 34) 1).orReg (Reg.niStat 34) 8

/-- Delivers a D-layer packet of device `src` (R247, R250, R252). -/
def State.deliverD (s : State) (hdr : BitVec 128) (flit : BitVec 64) (flits : List (BitVec 512)) : State :=
  let src := hdr128 hdr 37 24
  let f : Packet := { lay := .d, hdr := flit, body := flits }
  let refuse (s : State) : State := s.refusedIn
  let full : Bool := !s.regB Reg.shgCfg 2 || decide (256 ≤ s.incoming)
  match bitsOf flit.toNat 47 44 with
  | 1 =>
    if full then
      (refuse s).respondTo src .d flit 1 0 (List.replicate (bitsOf (flits.headD 0#512).toNat 49 48 + 1) 0#512)
    else
      let (st, m, fl, s) := s.lineRead f
      s.respondTo src .d flit st m fl
  | 2 =>
    if full then (refuse s).respondTo src .d flit 1 0 [0#512]
    else
      let (st, s) := s.lineStore f
      s.respondTo src .d flit st 0 [0#512]
  | 3 =>
    if !s.regB Reg.shgCfg 2 then refuse s
    else
      let (st, s) := s.lineStore f
      if st = 2 then s.fenceDrop else s
  | 8 => s.remoteDone src .d flit flits
  | 9 => s.remoteDone src .d flit flits
  | 12 => sdat src (flits.flatMap (fun x => leBytes x.toNat 64)) (bitsOf flit.toNat 57 50) s
  | _ => (s.bump (Reg.niBadop 34) 1).orReg (Reg.niStat 34) 8

/-- The memory a request names cannot answer yet: a held Panel (R337), or a stack (R204). -/
def State.cellWaits (s : State) (c : Cell) (flits : List (BitVec 512)) : Bool :=
  let flit := c.body.toNat % 2 ^ 64
  let op := bitsOf flit 47 44
  if cCtype c = 1 then decide (1 ≤ op ∧ op ≤ 3) && s.memWaits (flitAddr flit (c.body.toNat / 2 ^ 64 % 2 ^ 64))
  else decide (1 ≤ op ∧ op ≤ 3) && s.lineWaits { lay := .d, hdr := BitVec.ofNat 64 flit, body := flits }

/-- Delivers a flit cell whose DST is the own device; a D-layer packet is performed when its last flit is here. -/
def State.deliverCell (s : State) (c : Cell) : State :=
  if cCtype c = 1 then
    if s.cellWaits c [] then s else s.deliverC c.hdr (cellFlit c) (cellPay c).toNat
  else
    let mine (e : Nat × Nat × List Cell) : Bool := e.1 == cSrc c && e.2.1 == cTc c
    let got := match s.shg.dasm.find? mine with
      | some e => e.2.2 ++ [c]
      | none => [c]
    let rest := s.shg.dasm.filter (fun e => !mine e)
    let flits := got.map cellPay
    if got.length ≤ bitsOf (cellFlit c).toNat 49 48 then { s with shg.dasm := rest ++ [(cSrc c, cTc c, got)] }
    else if s.cellWaits c flits then s
    else { s with shg.dasm := rest }.deliverD c.hdr (cellFlit c) flits

/-- A flit cell for another device, received on link `from_` (R246, R259). -/
def State.relayCell (s : State) (from_ : Nat) (c : Cell) : State :=
  let t := s.cellFreed from_ (cTc c)
  if cHidx c = 15 then (((t.bump Reg.shgHopexc 1).orReg Reg.shgStat 1).shgRoute 0 (cDst c)).routeFail c
  else if cCtype c = 1 ∧ bitsOf (cellFlit c).toNat 47 44 = 5 then
    t.foldFault (cDst c) (faultOf (cellFlit c).toNat (cellPay c).toNat)
  else
    let l := hopCode (cRoute c) (cHidx c + 1)
    if s.linkUpQ l then
      s.relayTo from_ l { c with hdr := mkHdr (cCtype c) (cTc c) (cHidx c + 1) (cDst c) (cSrc c) (cRoute c) }
    else (t.downDrop (cDst c)).routeFail c

/-- Meaning of FLIT_CELL (R243, R245, R246). A cell that fails its check counts in every state from IDENT on (log 66). -/
def flitCell (l : Nat) (hdr : BitVec 128) (body : BitVec 576) (s : State) : State :=
  let c : Cell := { hdr := hdr, body := body }
  if s.linkState l < 2 then s
  else if !cellGood hdr then s.bump (Reg.shgLcrc l) 1
  else if !s.linkUpQ l then s
  else if cCtype c ≠ 1 ∧ cCtype c ≠ 2 then s
  else if cDst c = s.did ∧ s.cellWaits c [cellPay c] = true then s
  else if cDst c = s.did then (s.cellFreed l (cTc c)).deliverCell c
  else s.relayCell l c

/-- The smallest tag free toward a device (log 42). -/
def State.remoteTag (s : State) (dev : Nat) : Option Nat :=
  (List.range 64).find? (fun t => !s.shg.outst.any (fun r => r.dev == dev && r.tag == t))

/-- Header and flits of a request for another device. The header is the one with which the flit reached the engine, SRC
its initiator's NI and no hop left in ROUTE, with the engine's TAG (R227, R247) (log 42). -/
def OutReq.flits (r : OutReq) (tag : Nat) : BitVec 64 × List (BitVec 512) :=
  let h := match r.who with
    | .flight _ pk => pk.hdr
    | w => hdrPut 0#64 37 32 w.niOf
  let h := hdrPut (hdrPut h 29 0 0x3FFFFFFF) 43 38 tag
  match r.lay with
  | .c =>
    (hdrPut (hdrPut (hdrPut h 31 30 r.tc) 47 44 r.opc) 63 48 (r.addr / 4294967296),
      [BitVec.ofNat 512 (r.addr % 4294967296 + r.data.toNat * 4294967296)])
  | .d => (h, r.body)

/-- Link header of a cell of the own device to itself (R249). -/
def State.ownHdr (s : State) (lay : Layer) (tc : Nat) : BitVec 128 := mkHdr (cellType lay) tc 0 s.did s.did 0

/-- Sends a request for another device, or performs it when it names the own one (R247, R249) (log 42). -/
def State.sendReq (s : State) (r : OutReq) : State :=
  match s.remoteTag r.dev with
  | none => { s with shg.outq := .req r :: s.shg.outq }
  | some tag =>
    let posted := r.opc == 3
    let (h, fl) := r.flits tag
    let hold (s : State) : State := if posted then s else { s with shg.outst := s.shg.outst ++ [{ r with tag := tag }] }
    if r.dev = s.did then
      match r.lay with
      | .c => (hold s).deliverC (s.ownHdr .c r.tc) h (fl.headD 0#512).toNat
      | .d => (hold s).deliverD (s.ownHdr .d r.tc) h fl
    else
      match s.originate r.dev r.tc (cellType r.lay) (fl.map (flitBody h)) with
      | (.sent, s) => hold s
      | (_, s) => if posted then s else s.answer r.who 3 0#32

/-- Whether a request to the own device waits for memory that cannot answer yet. -/
def State.ownWaits (s : State) (r : OutReq) : Bool :=
  r.dev == s.did && (match r.lay with
    | .c => s.memWaits r.addr
    | .d => s.lineWaits { lay := .d, hdr := 0#64, body := r.body })

/-- Device, class and flit cells of something the engine is to send. -/
def OutItem.load : OutItem → Nat × Nat × Nat
  | .req r => (r.dev, r.tc, (r.flits 0).2.length)
  | .token dev _ => (dev, 2, 1)
  | .fault dev _ => (dev, 2, 1)
  | .sdat dev p _ => (dev, 1, (p.length + 63) / 64)
  | .rsp dev _ flit _ _ fl => (dev, bitsOf flit.toNat 31 30, fl.length)

/-- Whether the engine can send `o` now: its tags, the link's credits and the memory a request to the own device names
allow it. -/
def State.itemReady (s : State) (o : OutItem) : Bool :=
  let (dev, tc, n) := o.load
  (dev == s.did || s.mayOriginate dev tc n)
    && (match o with | .req r => !s.ownWaits r && (s.remoteTag r.dev).isSome | _ => true)

/-- The oldest thing that can be sent, behind none of the same device and class (R246). -/
def State.outPick (s : State) : List (Nat × Nat) → List OutItem → Option OutItem
  | _, [] => none
  | held, o :: r =>
    let key := (o.load.1, o.load.2.1)
    if !held.contains key && s.itemReady o then some o else s.outPick (key :: held) r

/-- The engine sends the oldest thing for another device that it can send. -/
def State.originateNext (s : State) : State :=
  match s.outPick [] s.shg.outq with
  | none => s
  | some o =>
    let t := { s with shg.outq := s.shg.outq.erase o }
    match o with
    | .req r => t.sendReq r
    | .rsp dev lay flit st pm fl => t.sendRsp dev lay flit st pm fl
    | .token dev tk => if dev = s.did then t.shgTokenIn tk else (t.originate dev 2 1 [tokenFlit tk]).2
    | .fault dev r =>
      if dev = s.did then { t with int.inbox := t.int.inbox ++ [r] } else (t.originate dev 2 1 [faultFlitBody r]).2
    | .sdat dev p m =>
      if dev = s.did then sdat s.did p m t
      else
        let n := (p.length + 63) / 64
        let h := hdrPut (hdrPut (hdrPut (hdrPut engineHdr 57 50 m) 49 48 (n - 1)) 47 44 12) 31 30 1
        let fl := (List.range n).map (fun i => BitVec.ofNat 512 (leAt ((p.drop (64 * i)).take 64) 0 64))
        (t.originate dev 1 2 (fl.map (flitBody h))).2

/-- Meaning of REMOTE_ORIGINATE (R247, R249, R251, R252): the engine sends the oldest thing for another device that it can
send; with none, it takes the complete frames of its tunnels and sends their first packet. -/
def remoteOriginate (s : State) : State :=
  if (s.outPick [] s.shg.outq).isSome then s.originateNext else s.packTunnels.originateNext

/-! ## Requests and posted packets of the mesh (Table NC-3, R226, R227) -/

/-- The common part of RD, WR and WRP at NI `n`. -/
def State.nocAccess (s : State) (n opc : Nat) : State :=
  let addr (f : Flight) : Nat := flitAddr f.pk.hdr.toNat ((f.pk.body.headD 0#512).toNat % 2 ^ 64)
  s.withEjected n .c opc (fun f => s.memWaits (addr f)) (fun f s =>
    let a := addr f
    let d := word ((f.pk.body.headD 0#512).toNat / 4294967296)
    let fenced := s.niFenced n && !(n == 30 && spxAddr a) && !(opc != 1 && s.modePasses (a - 0x200000000000))
    if opc = 3 then
      if fenced then s.fenceDrop
      else if serves n a then s.postedWrite (.ni (Fin.ofNat 48 (Packet.src f.pk))) 0 (Packet.tc f.pk) a d
      else s
    else
      let w : Asker := .flight n f.pk
      if fenced then s.answer w 2 0#32
      else if !serves n a then s.answer w 1 0#32
      else (s.globalAccess w (opc == 2) (Packet.tc f.pk) a d).finish w)

/-- Meaning of RD (Table NC-3). -/
def nocRd (n : Nat) (s : State) : State := s.nocAccess n 1

/-- Meaning of WR (Table NC-3). -/
def nocWr (n : Nat) (s : State) : State := s.nocAccess n 2

/-- Meaning of WRP (Table NC-3). -/
def nocWrp (n : Nat) (s : State) : State := s.nocAccess n 3

/-- A line request of the mesh for an aperture goes to the engine (R249), on a variant without the engine it falls under
R4; any other is `k`. -/
def State.lineRemote (s : State) (n opc : Nat) (k : State → State) : State :=
  match s.ejected n .d opc (fun f => s.lineWaits f.pk) with
  | none => s
  | some f0 =>
    let a := lineAddr f0.pk
    if (n = 34 ∨ n = 35) ∧ Packet.opc f0.pk = opc ∧ spaceOf a = .aperture then
      let keep := s.resp
      let t := s.dropFlight f0
      let t :=
        if !t.hasShaga then t.absent
        else match t.apertureOf a with
          | none => t.err
          | some (dev, b) =>
            let h := (f0.pk.body.headD 0#512).toNat
            t.sendRemote { dev := dev, lay := .d, opc := opc, tc := Packet.tc f0.pk, addr := b, who := .flight n f0.pk,
                           body := BitVec.ofNat 512 (h - bitsOf h 47 0 + b) :: f0.pk.body.drop 1 }
      let st := t.resp.status
      let t := { t with resp := keep }
      if st = 5 ∨ opc = 3 then t else t.flightAnswer n f0.pk st 0#32
    else k s

/-- The Dispatcher channel of a TOKEN packet of NI `src` (Table DI-2); which of its four cores a conductor NI speaks for
is not in the packet (log 8). -/
def State.tokenChannel (s : State) (src : Nat) : Option Nat × State :=
  if src < 8 ∧ src % 2 = 0 then (some (src / 2), s)
  else if src = 40 then (some 4, s)
  else if src = 41 then (some 5, s)
  else if src = 36 ∨ src = 37 then
    let (i, s) := s.freeChoice 4
    (some (6 + 4 * (src - 36) + i), s)
  else if src = 34 then (some 14, s)
  else if src = 45 then (some 15, s)
  else (none, s)

/-- A posted packet other than WRP and LWRP is taken by the unit of its NI (Table NC-3). -/
def State.takeOne (s : State) (f : Flight) (n : Nat) : State :=
  let pay := (f.pk.body.headD 0#512).toNat
  let word1 := word (pay / 4294967296)
  match f.pk.lay, Packet.opc f.pk with
  | .c, 4 =>
    if n = 38 then
      let (ch, t) := s.tokenChannel (Packet.src f.pk)
      match ch with
      | some ch =>
        if s.niFenced n then (s.dropFlight f).fenceDrop
        else if t.chanCredit ch then
          (t.dropFlight f).sendToken ch { tid := bitsOf pay 9 0, slot := bitsOf pay 11 10, val := word1 }
        else s
      | none => s.badOp n f
    else s.badOp n f
  | .c, 5 =>
    if n = 45 then { s.dropFlight f with int.inbox := s.int.inbox ++ [faultOf f.pk.hdr.toNat pay] } else s.badOp n f
  | .c, 6 => if n = 24 then { s.dropFlight f with tbl.swaps := s.tbl.swaps ++ [bitsOf pay 5 0] } else s.badOp n f
  | .d, 12 =>
    if n = 34 ∨ n = 35 then
      sdat s.did (f.pk.body.flatMap (fun x => leBytes x.toNat 64)) (Packet.f f.pk 57 50) (s.dropFlight f)
    else s.badOp n f
  | _, _ => s

/-- The packets at the heads of the classes of every NI that their units take by themselves: posted packets other than WRP
and LWRP, and packets with a reserved opcode, which are discarded (R226). -/
def State.takeHeads (s : State) : State :=
  (List.range 48).foldl (fun s n => [Layer.c, Layer.d].foldl (fun s lay => (List.range 4).foldl (fun s c =>
    match s.headAt n lay c with
    | some f => if Packet.kind f.pk = .reserved then s.badOp n f else s.takeOne f n
    | none => s) s) s) s

/-- They are taken while some are left, at most `k` times. -/
def State.takeN : Nat → State → State
  | 0, s => s
  | k + 1, s =>
    let t := s.takeHeads
    if t.noc.flights.length = s.noc.flights.length then t else t.takeN k

/-- Every packet that its unit takes by itself is taken. -/
def State.takePosted (s : State) : State := if s.noc.flights = [] then s else s.takeN s.noc.flights.length

/-! ## Responses on their way (log 7) -/

/-- The response to a request of another device. -/
def State.remoteAnswer (s : State) (hdr : BitVec 128) (flit : BitVec 64) (status : Nat) (d : Word) : State :=
  s.respondTo (hdr128 hdr 37 24) .c flit status 0 [BitVec.ofNat 512 d.toNat]

/-- A response reaches who waits for it (log 7). -/
def State.deliverAnswer (s : State) (w : Asker) (status : Nat) (d : Word) : State :=
  match w with
  | .direct _ => s.respond status d
  | .msp => s.hostDone false status d
  | .jtag => s.hostDone true status d
  | .window k no =>
    let x := s.win k
    (s.setWin k { x with issued := x.issued.map (fun y => if y.no = no then { y with res := some (status, d) } else y) }).winRun k
  | .load c b => s.loadDone c b status d
  | .store c => s.storeDone c status
  | .ib _ no i => s.ibAnswer no i status d
  | .flight n pk => s.flightAnswer n pk status d
  | .remote hdr flit => s.remoteAnswer hdr flit status d
  | .gone _ => (s.bump Reg.nocStray 1).orReg Reg.nocStat 2
  | .posted _ _ => s

/-- Whether nothing is on its way and nobody waits to make an access (log 7). -/
def State.quiet (s : State) : Bool :=
  s.answers.isEmpty && s.mgt.msp.wait.isEmpty && s.mgt.jtag.wait.isEmpty && s.sec.reqs.isEmpty
    && s.mgt.wins.all (fun p => p.2.issued.isEmpty && p.2.wait.isEmpty)

/-- Delivers responses, and lets the ports that wait make their next access, at most `n` times. -/
def State.settleN (s : State) : Nat → State
  | 0 => s
  | n + 1 =>
    match s.answers with
    | (w, st, d) :: r => (({ s with answers := r }.asked w st).deliverAnswer w st d).settleN n
    | [] =>
      match s.hostNext false with
      | some t => t.settleN n
      | none =>
        match s.hostNext true with
        | some t => t.settleN n
        | none =>
          match s.ibPick with
          | some (q, i) => (s.ibInject q i).settleN n
          | none => s

/-- After an event: windows go on, responses arrive, and the ports that wait go on (log 7). -/
def State.settle (s : State) : State := if s.quiet then s else s.winAll.settleN 1024

/-! ## Timeouts (R227) -/

/-- Those who wait for a response, oldest first in each place that holds requests (log 40). -/
def State.askers (s : State) : List Asker :=
  s.shg.outst.map (fun r => r.who)
    ++ s.shg.outq.filterMap (fun o => match o with | .req r => some r.who | _ => none)
    ++ s.pal.waiting.map Prod.snd
    ++ s.dis.injWait.map (fun p => p.2.2)
    ++ (List.range 8).flatMap (fun k =>
      let x := s.win k
      ((x.issued ++ x.wait).filterMap (fun y => y.who))
        ++ (match x.issued, x.wait with | [], y :: _ => [Asker.window k y.no] | _, _ => []))

/-- `w` no longer waits: a write of it that has not been performed is not performed (R27), a read goes to nobody, and the
Shaga engine forgets a request it has sent (log 62). -/
def State.forget (s : State) (w : Asker) : State :=
  let g : Asker := .gone w.niOf
  let sub (v : Asker) : Asker := if v = w then g else v
  let left (l : List WinAcc) : List WinAcc := l.filter (fun y => !(y.write && y.who == some w))
  let acc (l : List WinAcc) : List WinAcc := l.map (fun y => { y with who := y.who.map sub })
  let s := { s with
    shg.outst := s.shg.outst.filter (fun r => r.who != w)
    shg.outq := s.shg.outq.filter (fun o => match o with | .req r => r.who != w | _ => true)
    pal.waiting := s.pal.waiting.filter (fun p => p.2 != w)
    dis.injWait := s.dis.injWait.filter (fun p => p.2.2 != w) }
  (List.range 8).foldl (fun s k =>
    let x := s.win k
    let x := { x with issued := acc x.issued, wait := acc (left x.wait) }
    s.setWin k (match x.issued, x.wait with
      | [], y :: r => if w = .window k y.no then { x with issued := [y], wait := r } else x
      | _, _ => x)) s

/-- Meaning of REQUEST_TIMEOUT (R227): the packet with this tag, or else the access of that number among those NI `n`
waits for (log 15, 40). -/
def timeoutAt (n tag : Nat) (s : State) : State :=
  if (s.ni n).outst.any (fun o => o.tag == tag) then requestTimeout n tag s
  else
    match (s.askers.filter (fun w => w.niOf == n && (match w with | .gone _ => false | .flight _ _ => false | _ => true)))[tag]? with
    | some w => (((s.forget w).bump (Reg.niTmo n) 1).orReg (Reg.niStat n) 0x10).answer w 4 0#32
    | none => s

end Sys2Proof.Machine
end

