-- ==== Sys2Proof/Machine/CmdBoot.lean ====
section
/-! DEFINITION. Sys2Proof/Machine/CmdBoot.lean: the commands of start-up, resets, identity and update (15_boot_security.md, 19_power_clock_pins.md): one meaning for each. -/
namespace Sys2Proof.Machine

/-- POWER_ON_RESET (R409). -/
def execPowerOnReset (straps : BitVec 14) (banks : BitVec 4) (s : State) : Host.Outcome State Fault Refusal :=
  .next (powerOnReset straps banks s)

/-- WARM_RESET (R408). -/
def execWarmReset (straps : BitVec 14) (s : State) : Host.Outcome State Fault Refusal := .next (warmReset straps s)

/-- START (R317). -/
def execStartImage (s : State) : Host.Outcome State Fault Refusal := .next (startImage s)

/-- NEW_START (R323). -/
def execNewStart (s : State) : Host.Outcome State Fault Refusal := .next (newStart s)

/-- BOOT_OK (R322). -/
def execBootOk (_p : Path) (data : Word) (s : State) : Host.Outcome State Fault Refusal := .next (bootOk data s)

/-- BOOT_OK_WATCHDOG (R322). -/
def execBootOkWatchdog (s : State) : Host.Outcome State Fault Refusal := .next (bootOkWatchdog s)

/-- RETRY (R324). -/
def execRetryStart (data : Word) (s : State) : Host.Outcome State Fault Refusal := .next (retryStart data s)

/-- PROGCUST (R315). -/
def execProgcust (p : Path) (data : Word) (s : State) : Host.Outcome State Fault Refusal := .next (progcust p data s)

/-- ATTGO (R328). -/
def execAttgo (data : Word) (s : State) : Host.Outcome State Fault Refusal := .next (attgo data s)

/-- ATTESTATION_DONE (R328). -/
def execAttestationDone (s : State) : Host.Outcome State Fault Refusal := .next (attestationDone s)

/-- READCUST (R314). -/
def execReadcust (data : Word) (s : State) : Host.Outcome State Fault Refusal := .next (readcust data s)

/-- ATT_DATA_READ (R328). -/
def execAttDataRead (s : State) : Host.Outcome State Fault Refusal := .next (attDataRead s)

/-- CERT_DATA_READ (R328). -/
def execCertDataRead (s : State) : Host.Outcome State Fault Refusal := .next (certDataRead s)

/-- BEGIN (R325). -/
def execBeginUpdate (s : State) : Host.Outcome State Fault Refusal := .next (beginUpdate s.ok)

/-- UPDATE_DATA (R325). -/
def execUpdateData (data : Word) (s : State) : Host.Outcome State Fault Refusal := .next (updateData data s.ok)

/-- FINISH (R325). -/
def execFinishUpdate (s : State) : Host.Outcome State Fault Refusal := .next (finishUpdate s.ok)

/-- VERIFY_DONE (R325). -/
def execVerifyDone (s : State) : Host.Outcome State Fault Refusal := .next (verifyDone s)

/-- ABORT (R325). -/
def execAbortUpdate (s : State) : Host.Outcome State Fault Refusal := .next (abortUpdate s.ok)

/-- ERASE_DONE (R325). -/
def execEraseDone (s : State) : Host.Outcome State Fault Refusal := .next (eraseDone s)

/-- CLOCK_LOSS (R403). -/
def execClockLoss (s : State) : Host.Outcome State Fault Refusal := .next (clockLoss s)

/-- CLOCK_RECOVERY (R410). -/
def execClockRecovery (s : State) : Host.Outcome State Fault Refusal := .next (clockRecovery s)

/-- PLL_UNLOCK (R403). -/
def execPllUnlock (g : Fin 4) (s : State) : Host.Outcome State Fault Refusal := .next (pllUnlock g.val s)

/-- DOMAIN_REQUEST (R405). -/
def execDomainRequest (d : Fin 11) (data : Word) (s : State) : Host.Outcome State Fault Refusal :=
  .next (domainRequest d.val data s)

/-- DOMAIN_CHANGE_DONE (R407). -/
def execDomainChangeDone (s : State) : Host.Outcome State Fault Refusal := .next (domainChangeDone s)

/-- DOM_FAIL (R405). -/
def execDomFail (s : State) : Host.Outcome State Fault Refusal := .next (domFail s)

/-- SOFTWARE_RESET (R409). -/
def execSoftwareReset (data : Word) (s : State) : Host.Outcome State Fault Refusal := .next (softwareReset data s.ok)

/-- SAFE_PROG (R414). -/
def execSafeProg (p : Path) (data : Word) (s : State) : Host.Outcome State Fault Refusal := .next (safeProg p data s)

/-- SAFE_PROG_DONE (R414). -/
def execSafeProgDone (s : State) : Host.Outcome State Fault Refusal := .next (safeProgDone s)

/-- GP_INPUT (R412). -/
def execGpInput (n : Fin 96) (level : Bool) (s : State) : Host.Outcome State Fault Refusal :=
  .next (gpInput n.val level s)

end Sys2Proof.Machine
end

