-- ==== Sys2Proof/Machine/CmdCanvas.lean ====
section
/-! DEFINITION. Sys2Proof/Machine/CmdCanvas.lean: the commands of the Canvas tiles and their contexts (04_canvas_tile.md to 07_context_word.md): one meaning for each. -/
namespace Sys2Proof.Machine

/-- FIRING (R93). -/
def execFiring (t : Fin 4096) (s : State) : Host.Outcome State Fault Refusal := .next (firing t.val s)

/-- PBX_CLOSE (R140). -/
def execPbxClose (t : Fin 4096) (s : State) : Host.Outcome State Fault Refusal :=
  .next (s.gateTile t.val (pbxClose t.val))

/-- MARKER_FIRING (R108). -/
def execMarkerFiring (t : Fin 4096) (s : State) : Host.Outcome State Fault Refusal := .next (markerFiring t.val s)

/-- TOKEN_PATH_ACCEPT (R109). -/
def execTokenPathAccept (q : Fin 4) (s : State) : Host.Outcome State Fault Refusal := .next (tokenPathAccept q.val s)

/-- WRITE_BACK (R111). -/
def execWriteBack (t : Fin 4096) (s : State) : Host.Outcome State Fault Refusal := .next (writeBack t.val s)

/-- FORCED_WRITE_BACK (R111). -/
def execForcedWriteBack (t : Fin 4096) (s : State) : Host.Outcome State Fault Refusal := .next (forcedWriteBack t.val s)

/-- AG_CFG_WRITE (R115). -/
def execAgCfgWrite (t : Fin 4096) (k : Fin 4) (data : Word) (s : State) : Host.Outcome State Fault Refusal :=
  .next (s.gateTile t.val (agCfgWrite t.val k.val data))

/-- APPLY (R115). -/
def execApplyStg (t : Fin 4096) (k : Fin 4) (s : State) : Host.Outcome State Fault Refusal :=
  .next (s.gateTile t.val (agApply t.val k.val))

/-- HOLD (R116). -/
def execTileHold (t : Fin 4096) (on : Bool) (s : State) : Host.Outcome State Fault Refusal :=
  .next (s.gateTile t.val (tileHold t.val on))

/-- FIRE_ONE (R116). -/
def execFireOne (t : Fin 4096) (s : State) : Host.Outcome State Fault Refusal :=
  .next (s.gateTile t.val (fireOne t.val))

/-- ACCHI_WRITE (R136). -/
def execAcchiWrite (t : Fin 4096) (data : Word) (s : State) : Host.Outcome State Fault Refusal :=
  .next (s.gateTile t.val (acchiWrite t.val data))

/-- JOINT_PASS (R124). -/
def execJointPass (t : Fin 4096) (j : Fin 8) (s : State) : Host.Outcome State Fault Refusal :=
  .next (jointPass t.val j.val s)

/-- CTX_EVEN_WRITE (R153). -/
def execCtxEvenWrite (t : Fin 4096) (slot v : Fin 8) (data : Word) (s : State) : Host.Outcome State Fault Refusal :=
  .next (ctxEvenWrite t.val slot.val v.val data s)

/-- CTX_ODD_WRITE (R153). -/
def execCtxOddWrite (t : Fin 4096) (slot v : Fin 8) (data : Word) (s : State) : Host.Outcome State Fault Refusal :=
  .next (ctxOddWrite t.val slot.val v.val data s)

/-- CTX_READ (R155). -/
def execCtxRead (t : Fin 4096) (slot : Fin 8) (w : Fin 16) (s : State) : Host.Outcome State Fault Refusal :=
  .next (ctxRead t.val slot.val w.val s)

end Sys2Proof.Machine
end

