-- ==== Sys2Proof/Machine/CmdConductor.lean ====
section
/-! DEFINITION. Sys2Proof/Machine/CmdConductor.lean: the instructions of the conductors (13_conductor_cores.md): one meaning for each. -/
namespace Sys2Proof.Machine

/-- NOP (R267). -/
def execNopOp (c : Fin 8) (s : State) : Host.Outcome State Fault Refusal := .next (s.issue c.val .nop semNop)

/-- DONE (R281). -/
def execDoneOp (c : Fin 8) (s : State) : Host.Outcome State Fault Refusal := .next (s.issue c.val .done semDone)

/-- POST (R272). -/
def execPost (c : Fin 8) (s : State) : Host.Outcome State Fault Refusal := .next (s.issue c.val .post semPost)

/-- SYNC (R271). -/
def execSync (c : Fin 8) (s : State) : Host.Outcome State Fault Refusal := .next (s.issue c.val .sync semSync)

/-- RTT (R283). -/
def execRtt (c : Fin 8) (s : State) : Host.Outcome State Fault Refusal := .next (s.issue c.val .rtt (semRtt false))

/-- RTTN (R283). -/
def execRttn (c : Fin 8) (s : State) : Host.Outcome State Fault Refusal := .next (s.issue c.val .rttn (semRtt true))

/-- MFS (R266). -/
def execMfs (c : Fin 8) (s : State) : Host.Outcome State Fault Refusal := .next (s.issue c.val .mfs semMfs)

/-- MTS (R266). -/
def execMts (c : Fin 8) (s : State) : Host.Outcome State Fault Refusal := .next (s.issue c.val .mts semMts)

/-- BKRD (R283). -/
def execBkrd (c : Fin 8) (s : State) : Host.Outcome State Fault Refusal := .next (s.issue c.val .bkrd semBkrd)

/-- BKWR (R283). -/
def execBkwr (c : Fin 8) (s : State) : Host.Outcome State Fault Refusal := .next (s.issue c.val .bkwr semBkwr)

/-- SAVEL (R285). -/
def execSavel (c : Fin 8) (s : State) : Host.Outcome State Fault Refusal := .next (s.issue c.val .savel (semSave true))

/-- SAVEU (R285). -/
def execSaveu (c : Fin 8) (s : State) : Host.Outcome State Fault Refusal := .next (s.issue c.val .saveu (semSave false))

/-- RESTL (R285). -/
def execRestl (c : Fin 8) (s : State) : Host.Outcome State Fault Refusal :=
  .next (s.issue c.val .restl (semRest true false))

/-- RESTLJ (R285). -/
def execRestlj (c : Fin 8) (s : State) : Host.Outcome State Fault Refusal :=
  .next (s.issue c.val .restlj (semRest true true))

/-- RESTU (R285). -/
def execRestu (c : Fin 8) (s : State) : Host.Outcome State Fault Refusal :=
  .next (s.issue c.val .restu (semRest false false))

/-- ADD_OP (R268). -/
def execAddOp (c : Fin 8) (s : State) : Host.Outcome State Fault Refusal := .next (s.issue c.val .add (semAlu 0x01))

/-- ADDC (R268). -/
def execAddc (c : Fin 8) (s : State) : Host.Outcome State Fault Refusal := .next (s.issue c.val .addc (semAlu 0x02))

/-- SUB (R268). -/
def execSubOp (c : Fin 8) (s : State) : Host.Outcome State Fault Refusal := .next (s.issue c.val .sub (semAlu 0x03))

/-- SUBC (R268). -/
def execSubc (c : Fin 8) (s : State) : Host.Outcome State Fault Refusal := .next (s.issue c.val .subc (semAlu 0x04))

/-- ADDS (R268). -/
def execAdds (c : Fin 8) (s : State) : Host.Outcome State Fault Refusal := .next (s.issue c.val .adds (semAlu 0x05))

/-- SUBS (R268). -/
def execSubs (c : Fin 8) (s : State) : Host.Outcome State Fault Refusal := .next (s.issue c.val .subs (semAlu 0x06))

/-- AND (R268). -/
def execAndOp (c : Fin 8) (s : State) : Host.Outcome State Fault Refusal := .next (s.issue c.val .and (semAlu 0x07))

/-- OR (R268). -/
def execOrOp (c : Fin 8) (s : State) : Host.Outcome State Fault Refusal := .next (s.issue c.val .or (semAlu 0x08))

/-- XOR (R268). -/
def execXorOp (c : Fin 8) (s : State) : Host.Outcome State Fault Refusal := .next (s.issue c.val .xor (semAlu 0x09))

/-- ANDN (R268). -/
def execAndn (c : Fin 8) (s : State) : Host.Outcome State Fault Refusal := .next (s.issue c.val .andn (semAlu 0x0A))

/-- SHL (R268). -/
def execShl (c : Fin 8) (s : State) : Host.Outcome State Fault Refusal := .next (s.issue c.val .shl (semAlu 0x0B))

/-- SHR (R268). -/
def execShr (c : Fin 8) (s : State) : Host.Outcome State Fault Refusal := .next (s.issue c.val .shr (semAlu 0x0C))

/-- SAR (R268). -/
def execSar (c : Fin 8) (s : State) : Host.Outcome State Fault Refusal := .next (s.issue c.val .sar (semAlu 0x0D))

/-- ROL (R268). -/
def execRol (c : Fin 8) (s : State) : Host.Outcome State Fault Refusal := .next (s.issue c.val .rol (semAlu 0x0E))

/-- SHRR (R268). -/
def execShrr (c : Fin 8) (s : State) : Host.Outcome State Fault Refusal := .next (s.issue c.val .shrr semShrr)

/-- MIN (R268). -/
def execMinOp (c : Fin 8) (s : State) : Host.Outcome State Fault Refusal := .next (s.issue c.val .min (semAlu 0x0F))

/-- MAX (R268). -/
def execMaxOp (c : Fin 8) (s : State) : Host.Outcome State Fault Refusal := .next (s.issue c.val .max (semAlu 0x10))

/-- MINU (R268). -/
def execMinu (c : Fin 8) (s : State) : Host.Outcome State Fault Refusal := .next (s.issue c.val .minu (semAlu 0x11))

/-- MAXU (R268). -/
def execMaxu (c : Fin 8) (s : State) : Host.Outcome State Fault Refusal := .next (s.issue c.val .maxu (semAlu 0x12))

/-- SLT (R268). -/
def execSlt (c : Fin 8) (s : State) : Host.Outcome State Fault Refusal := .next (s.issue c.val .slt (semAlu 0x14))

/-- SLTU (R268). -/
def execSltu (c : Fin 8) (s : State) : Host.Outcome State Fault Refusal := .next (s.issue c.val .sltu (semAlu 0x15))

/-- SEQ (R268). -/
def execSeqOp (c : Fin 8) (s : State) : Host.Outcome State Fault Refusal := .next (s.issue c.val .seq (semAlu 0x16))

/-- CLZ (R268). -/
def execClz (c : Fin 8) (s : State) : Host.Outcome State Fault Refusal := .next (s.issue c.val .clz (semAlu 0x19))

/-- CLS (R268). -/
def execCls (c : Fin 8) (s : State) : Host.Outcome State Fault Refusal := .next (s.issue c.val .cls (semAlu 0x1A))

/-- POPC (R268). -/
def execPopc (c : Fin 8) (s : State) : Host.Outcome State Fault Refusal := .next (s.issue c.val .popc (semAlu 0x1B))

/-- MUL (R268). -/
def execMulOp (c : Fin 8) (s : State) : Host.Outcome State Fault Refusal := .next (s.issue c.val .mul semMul)

/-- MULH (R268). -/
def execMulh (c : Fin 8) (s : State) : Host.Outcome State Fault Refusal := .next (s.issue c.val .mulh semMulh)

/-- MULHU (R268). -/
def execMulhu (c : Fin 8) (s : State) : Host.Outcome State Fault Refusal := .next (s.issue c.val .mulhu semMulhu)

/-- DIV (R268). -/
def execDivOp (c : Fin 8) (s : State) : Host.Outcome State Fault Refusal := .next (s.issue c.val .div (semDiv divOut))

/-- DIVU (R268). -/
def execDivu (c : Fin 8) (s : State) : Host.Outcome State Fault Refusal := .next (s.issue c.val .divu (semDiv divuOut))

/-- REM (R268). -/
def execRem (c : Fin 8) (s : State) : Host.Outcome State Fault Refusal := .next (s.issue c.val .rem (semDiv remOut))

/-- REMU (R268). -/
def execRemu (c : Fin 8) (s : State) : Host.Outcome State Fault Refusal := .next (s.issue c.val .remu (semDiv remuOut))

/-- ADDI (R267). -/
def execAddi (c : Fin 8) (s : State) : Host.Outcome State Fault Refusal :=
  .next (s.issue c.val .addi (semImm 0x01 immS))

/-- ANDI (R267). -/
def execAndi (c : Fin 8) (s : State) : Host.Outcome State Fault Refusal :=
  .next (s.issue c.val .andi (semImm 0x07 immU))

/-- ORI (R267). -/
def execOri (c : Fin 8) (s : State) : Host.Outcome State Fault Refusal := .next (s.issue c.val .ori (semImm 0x08 immU))

/-- XORI (R267). -/
def execXori (c : Fin 8) (s : State) : Host.Outcome State Fault Refusal :=
  .next (s.issue c.val .xori (semImm 0x09 immU))

/-- SLTI (R267). -/
def execSlti (c : Fin 8) (s : State) : Host.Outcome State Fault Refusal :=
  .next (s.issue c.val .slti (semImm 0x14 immS))

/-- SLTIU (R267). -/
def execSltiu (c : Fin 8) (s : State) : Host.Outcome State Fault Refusal :=
  .next (s.issue c.val .sltiu (semImm 0x15 immU))

/-- SHLI (R267). -/
def execShli (c : Fin 8) (s : State) : Host.Outcome State Fault Refusal :=
  .next (s.issue c.val .shli (semImm 0x0B imm5))

/-- SHRI (R267). -/
def execShri (c : Fin 8) (s : State) : Host.Outcome State Fault Refusal :=
  .next (s.issue c.val .shri (semImm 0x0C imm5))

/-- SARI (R267). -/
def execSari (c : Fin 8) (s : State) : Host.Outcome State Fault Refusal :=
  .next (s.issue c.val .sari (semImm 0x0D imm5))

/-- LUI (R267). -/
def execLui (c : Fin 8) (s : State) : Host.Outcome State Fault Refusal := .next (s.issue c.val .lui semLui)

/-- LDB (R267). -/
def execLdb (c : Fin 8) (s : State) : Host.Outcome State Fault Refusal := .next (s.issue c.val .ldb (semLoad 0 false))

/-- LDBU (R267). -/
def execLdbu (c : Fin 8) (s : State) : Host.Outcome State Fault Refusal := .next (s.issue c.val .ldbu (semLoad 0 true))

/-- LDH (R267). -/
def execLdh (c : Fin 8) (s : State) : Host.Outcome State Fault Refusal := .next (s.issue c.val .ldh (semLoad 1 false))

/-- LDHU (R267). -/
def execLdhu (c : Fin 8) (s : State) : Host.Outcome State Fault Refusal := .next (s.issue c.val .ldhu (semLoad 1 true))

/-- LDW (R267). -/
def execLdw (c : Fin 8) (s : State) : Host.Outcome State Fault Refusal := .next (s.issue c.val .ldw (semLoad 2 false))

/-- LDD (R267). -/
def execLdd (c : Fin 8) (s : State) : Host.Outcome State Fault Refusal := .next (s.issue c.val .ldd (semLoad 3 false))

/-- STB (R267). -/
def execStb (c : Fin 8) (s : State) : Host.Outcome State Fault Refusal := .next (s.issue c.val .stb (semStore 0))

/-- STH (R267). -/
def execSth (c : Fin 8) (s : State) : Host.Outcome State Fault Refusal := .next (s.issue c.val .sth (semStore 1))

/-- STW (R267). -/
def execStw (c : Fin 8) (s : State) : Host.Outcome State Fault Refusal := .next (s.issue c.val .stw (semStore 2))

/-- STD (R267). -/
def execStd (c : Fin 8) (s : State) : Host.Outcome State Fault Refusal := .next (s.issue c.val .std (semStore 3))

/-- B (R267). -/
def execBranch (c : Fin 8) (s : State) : Host.Outcome State Fault Refusal := .next (s.issue c.val .b semB)

/-- CALL (R267). -/
def execCallOp (c : Fin 8) (s : State) : Host.Outcome State Fault Refusal := .next (s.issue c.val .call semCall)

/-- JALR (R267). -/
def execJalr (c : Fin 8) (s : State) : Host.Outcome State Fault Refusal := .next (s.issue c.val .jalr semJalr)

/-- JR (R267). -/
def execJr (c : Fin 8) (s : State) : Host.Outcome State Fault Refusal := .next (s.issue c.val .jr semJr)

/-- RPT (R278). -/
def execRpt (c : Fin 8) (s : State) : Host.Outcome State Fault Refusal := .next (s.issue c.val .rpt semRpt)

/-- TRAP (R282). -/
def execTrapOp (c : Fin 8) (s : State) : Host.Outcome State Fault Refusal := .next (s.issue c.val .trap semTrap)

/-- BREAK (R283). -/
def execBreakOp (c : Fin 8) (s : State) : Host.Outcome State Fault Refusal := .next (s.issue c.val .break semBreak)

/-- POINTER_ACCESS (R274). -/
def execPointerAccess (c : Fin 8) (s : State) : Host.Outcome State Fault Refusal :=
  .next (s.issue c.val .pointer semPointer)

/-- EXTR (R277). -/
def execExtr (c : Fin 8) (s : State) : Host.Outcome State Fault Refusal := .next (s.issue c.val .extr semExtr)

/-- EXPB (R277). -/
def execExpb (c : Fin 8) (s : State) : Host.Outcome State Fault Refusal := .next (s.issue c.val .expb semExpb)

/-- BXC (R277). -/
def execBxc (c : Fin 8) (s : State) : Host.Outcome State Fault Refusal := .next (s.issue c.val .bxc semBxc)

/-- SCLA (R277). -/
def execScla (c : Fin 8) (s : State) : Host.Outcome State Fault Refusal := .next (s.issue c.val .scla semScla)

/-- NONE (R275). -/
def execNoneOp (c : Fin 8) (s : State) : Host.Outcome State Fault Refusal := .next (s.issue c.val .none (semX .none))

/-- MAC (R276). -/
def execMac (c : Fin 8) (s : State) : Host.Outcome State Fault Refusal := .next (s.issue c.val .mac (semX .mac))

/-- MSU (R276). -/
def execMsu (c : Fin 8) (s : State) : Host.Outcome State Fault Refusal := .next (s.issue c.val .msu (semX .msu))

/-- MPY (R276). -/
def execMpy (c : Fin 8) (s : State) : Host.Outcome State Fault Refusal := .next (s.issue c.val .mpy (semX .mpy))

/-- MAC2 (R276). -/
def execMac2 (c : Fin 8) (s : State) : Host.Outcome State Fault Refusal := .next (s.issue c.val .mac2 (semX .mac2))

/-- MSU2 (R276). -/
def execMsu2 (c : Fin 8) (s : State) : Host.Outcome State Fault Refusal := .next (s.issue c.val .msu2 (semX .msu2))

/-- CLR (R275). -/
def execClr (c : Fin 8) (s : State) : Host.Outcome State Fault Refusal := .next (s.issue c.val .clr (semX .clr))

/-- ACCA (R276). -/
def execAcca (c : Fin 8) (s : State) : Host.Outcome State Fault Refusal := .next (s.issue c.val .acca (semX .acca))

/-- ILLEGAL (R267). -/
def execIllegal (c : Fin 8) (s : State) : Host.Outcome State Fault Refusal := .next (illegal c.val s)

/-- FETCH_ADDR (R263). -/
def execFetchAddr (c : Fin 8) (s : State) : Host.Outcome State Fault Refusal := .next (fetchAddr c.val s)

/-- EXTENDED_SAVE_DONE (R286). -/
def execExtendedSaveDone (c : Fin 8) (s : State) : Host.Outcome State Fault Refusal := .next (extendedSaveDone c.val s)

/-- EXTENDED_RESTORE_DONE (R286). -/
def execExtendedRestoreDone (c : Fin 8) (s : State) : Host.Outcome State Fault Refusal :=
  .next (extendedRestoreDone c.val s)

/-- SWITCH_REQUEST (R280). -/
def execSwitchRequest (c : Fin 8) (s : State) : Host.Outcome State Fault Refusal := .next (switchRequest c.val s)

/-- STORE_RESPONSE (R271). -/
def execStoreResponse (c : Fin 8) (s : State) : Host.Outcome State Fault Refusal :=
  .next ((storeResponse c.val s).settle)

/-- REGISTER_LOAD_RESPONSE (R271). -/
def execRegisterLoadResponse (c : Fin 8) (s : State) : Host.Outcome State Fault Refusal :=
  .next ((registerLoadResponse c.val s).settle)

/-- CRST (R284). -/
def execCrst (c : Fin 8) (s : State) : Host.Outcome State Fault Refusal :=
  .next (s.viaBlock (.cnd c.val) (coreReset c.val))

/-- HALT (R288). -/
def execCoreHalt (c : Fin 8) (on : Bool) (s : State) : Host.Outcome State Fault Refusal :=
  .next (s.viaBlock (.cnd c.val) (coreHalt c.val on))

/-- STEP (R288). -/
def execCoreStep (c : Fin 8) (s : State) : Host.Outcome State Fault Refusal :=
  .next (s.viaBlock (.cnd c.val) (stepCore semDone c.val))

/-- EVICT_DONE (R285). -/
def execEvictDone (c : Fin 8) (s : State) : Host.Outcome State Fault Refusal := .next (evictDone c.val s)

/-- RELOAD_DONE (R285). -/
def execReloadDone (c : Fin 8) (s : State) : Host.Outcome State Fault Refusal := .next (reloadDone c.val s)

end Sys2Proof.Machine
end

