-- ==== Sys2Proof/Machine/CmdDispatcher.lean ====
section
/-! DEFINITION. Sys2Proof/Machine/CmdDispatcher.lean: the commands of the Dispatcher (14_dispatcher.md): one meaning for each. -/
namespace Sys2Proof.Machine

/-- TOKEN (R292). -/
def execTokenLand (ch : Fin 18) (s : State) : Host.Outcome State Fault Refusal := .next ((tokenLand ch.val s).settle)

/-- TOKEN_MATCH (R293). -/
def execTokenMatch (ch : Fin 18) (s : State) : Host.Outcome State Fault Refusal := .next ((tokenMatch ch.val s).settle)

/-- SELECTION (R298). -/
def execSelection (s : State) : Host.Outcome State Fault Refusal := .next (selection s)

/-- DIS_CANCEL (R302). -/
def execDisCancel (t : Fin 1024) (s : State) : Host.Outcome State Fault Refusal :=
  .next (s.viaBlock .dis (disCancel t.val))

/-- THREAD_CFG_WRITE (R291). -/
def execThreadCfgWrite (t : Fin 1024) (r : Fin 4) (data : Word) (s : State) : Host.Outcome State Fault Refusal :=
  .next (s.viaBlock .dis (threadCfgWrite t.val r.val data))

/-- DIS_INJ (R424). -/
def execDisInj (data : Word) (s : State) : Host.Outcome State Fault Refusal :=
  .next ((s.viaBlock .dis (disInj data)).settle)

/-- DIS_CORE_WRITE (R303). -/
def execDisCoreWrite (data : Word) (s : State) : Host.Outcome State Fault Refusal :=
  .next (s.viaBlock .dis (disCoreWrite data))

end Sys2Proof.Machine
end

