-- ==== Sys2Proof/Machine/CmdEasel.lean ====
section
/-! DEFINITION. Sys2Proof/Machine/CmdEasel.lean: the commands of the Easel (02_easel_axes.md, 03_easel_schedule.md), and accesses of the register space: one meaning for each. -/
namespace Sys2Proof.Machine

/-- REGISTER_WRITE (R18). -/
def execRegisterWrite (p : Path) (addr : Word) (size : Nat) (data : Word) (s : State) : Host.Outcome State Fault Refusal :=
  .next ((s.regAccess (.direct p) true addr.toNat size data).settle)

/-- RC_READ (R17). -/
def execRcRead (p : Path) (addr : Word) (size : Nat) (s : State) : Host.Outcome State Fault Refusal :=
  .next ((s.regAccess (.direct p) false addr.toNat size 0#32).settle)

/-- TIMING_PIN_EDGE (R40). -/
def execTimingPinEdge (mask lvl : BitVec 64) (run : Nat) (s : State) : Host.Outcome State Fault Refusal :=
  .next (timingPinEdge mask lvl run s)

/-- AXIS_STALL (R50). -/
def execAxisStall (n : Fin 16) (s : State) : Host.Outcome State Fault Refusal := .next (axisStall n.val s)

/-- LOAD (R54). -/
def execAxisLoad (n : Fin 16) (s : State) : Host.Outcome State Fault Refusal := .next (s.viaBlock .eas (axisLoad n.val))

/-- ADD (R54). -/
def execAxisAdd (n : Fin 16) (s : State) : Host.Outcome State Fault Refusal := .next (s.viaBlock .eas (axisAdd n.val))

/-- REV_CLR (R56). -/
def execRevClr (n : Fin 16) (s : State) : Host.Outcome State Fault Refusal := .next (s.viaBlock .eas (revClr n.val))

/-- ARM_IDX (R52). -/
def execArmIdx (n : Fin 16) (s : State) : Host.Outcome State Fault Refusal := .next (s.viaBlock .eas (armIdx n.val))

/-- AXIS_CFG_WRITE (R39). -/
def execAxisCfgWrite (n : Fin 16) (data : Word) (s : State) : Host.Outcome State Fault Refusal :=
  .next (s.viaBlock .eas (axisCfgWrite n.val data))

/-- AXIS_RATE_WRITE (R59). -/
def execAxisRateWrite (n : Fin 16) (data : Word) (s : State) : Host.Outcome State Fault Refusal :=
  .next (s.viaBlock .eas (axisRateWrite n.val data))

/-- RATE_APPLY (R59). -/
def execRateApply (n : Fin 16) (s : State) : Host.Outcome State Fault Refusal := .next (rateApply n.val s)

/-- AXIS_POS_LO_READ (R63). -/
def execAxisPosLoRead (n : Fin 16) (s : State) : Host.Outcome State Fault Refusal :=
  .next (s.viaBlock .eas (axisPosLoRead n.val))

/-- AXIS_LOST (R62). -/
def execAxisLost (n : Fin 16) (s : State) : Host.Outcome State Fault Refusal := .next (axisLost n.val s)

/-- INTERPOLATOR (R48): an EKL cycle ends and the next begins. The Easel ends its cycle (R72, R86), contended joints count
it (R126), and waiting token sources and requests go on. -/
def execInterpolator (s : State) : Host.Outcome State Fault Refusal :=
  .next ((interpolator s.probeCycle.easelEnd).contendCycle.injExpire.sourcesWake.settle)

/-- ENTRY_CROSSING (R68). -/
def execEntryCrossing (i : Fin 4096) (s : State) : Host.Outcome State Fault Refusal := .next (entryCrossing i.val s)

/-- PULSE_END (R74). -/
def execPulseEnd (pin : Fin 64) (s : State) : Host.Outcome State Fault Refusal := .next (pulseEnd pin.val s)

/-- EASEL_TOKEN_SEND (R81). -/
def execEaselTokenSend (s : State) : Host.Outcome State Fault Refusal := .next (easelTokenSend s)

/-- STAGE_WRITE (R86). -/
def execStageWrite (k : Fin 8) (idx : Fin 4096) (s : State) : Host.Outcome State Fault Refusal :=
  .next (stageWrite k.val idx.val s)

/-- STAGE_READ (R86). -/
def execStageRead (k : Fin 8) (idx : Fin 4096) (s : State) : Host.Outcome State Fault Refusal :=
  .next (stageRead k.val idx.val s)

/-- STAGE_ARM (R86). -/
def execStageArm (k : Fin 8) (idx : Fin 4096) (s : State) : Host.Outcome State Fault Refusal :=
  .next (stageArm k.val idx.val s)

/-- STAGE_DISARM (R86). -/
def execStageDisarm (k : Fin 8) (idx : Fin 4096) (s : State) : Host.Outcome State Fault Refusal :=
  .next (stageDisarm k.val idx.val s)

/-- RSTEP_HI_WRITE (R87). -/
def execRstepHiWrite (j : Fin 64) (data : Word) (s : State) : Host.Outcome State Fault Refusal :=
  .next (rstepHiWrite j.val data s)

/-- PCMD_HI_WRITE (R87). -/
def execPcmdHiWrite (i : Fin 512) (data : Word) (s : State) : Host.Outcome State Fault Refusal :=
  .next (pcmdHiWrite i.val data s)

/-- SCHED_EN_WRITE (R427). -/
def execSchedEnWrite (en : Bool) (s : State) : Host.Outcome State Fault Refusal := .next (schedEnWrite en s)

/-- SAFE_WRITE (R78). -/
def execSafeWrite (on : Bool) (s : State) : Host.Outcome State Fault Refusal := .next (safeWrite on s)

/-- TP_CFG_WRITE (R427). -/
def execTpCfgWrite (n : Fin 64) (data : Word) (s : State) : Host.Outcome State Fault Refusal :=
  .next (tpCfgWrite n.val data s)

end Sys2Proof.Machine
end

