-- ==== Sys2Proof/Machine/CmdMemory.lean ====
section
/-! DEFINITION. Sys2Proof/Machine/CmdMemory.lean: the commands of the stacks and of the table engine (10_memory_tables.md): one meaning for each. -/
namespace Sys2Proof.Machine

/-- STACK_TRAINING_DONE (R204). -/
def execStackTrainingDone (st : Fin 2) (ok : Bool) (s : State) : Host.Outcome State Fault Refusal :=
  .next (stackTrainingDone st.val ok s)

/-- ZDONE (R204). -/
def execZdone (st : Fin 2) (s : State) : Host.Outcome State Fault Refusal := .next (zdone st.val s)

/-- SECTOR_CLEAR (R206). -/
def execSectorClear (data : Word) (s : State) : Host.Outcome State Fault Refusal :=
  .next (s.viaMem Reg.memSclrHi (sectorClear data))

/-- PPR_GO (R207). -/
def execPprGo (st : Fin 2) (hard : Bool) (s : State) : Host.Outcome State Fault Refusal :=
  .next (s.viaMem (Reg.memStat st.val) (pprGo st.val hard))

/-- PPR_DONE (R207). -/
def execPprDone (st : Fin 2) (spare : Bool) (s : State) : Host.Outcome State Fault Refusal :=
  .next (pprDone st.val spare s)

/-- STACK_POWER_REQUEST (R208). -/
def execStackPowerRequest (st : Fin 2) (data : Word) (s : State) : Host.Outcome State Fault Refusal :=
  .next (s.viaMem (Reg.memStat st.val) (stackPowerRequest st.val data))

/-- STACK_THERMAL (R209). -/
def execStackThermal (st : Fin 2) (temp : BitVec 8) (s : State) : Host.Outcome State Fault Refusal :=
  .next (stackThermal st.val temp s)

/-- DESCRIPTOR_WRITE (R211). -/
def execDescriptorWrite (t : Fin 64) (w : Fin 16) (data : Word) (s : State) : Host.Outcome State Fault Refusal :=
  .next (s.viaBlock .tbl (descriptorWrite t.val w.val data))

/-- TABLE_REQUEST (R216). -/
def execTableRequest (port : Fin 64) (s : State) : Host.Outcome State Fault Refusal := .next (tableRequest port.val s)

/-- TABLE_RESPONSE (R217). -/
def execTableResponse (port : Fin 64) (s : State) : Host.Outcome State Fault Refusal := .next (tableResponse port.val s)

/-- TABLE_SWAP (R220). -/
def execTableSwap (s : State) : Host.Outcome State Fault Refusal := .next (tableSwap s)

/-- TBL_SWAP (R220). -/
def execTblSwap (t : Fin 64) (s : State) : Host.Outcome State Fault Refusal := .next (s.viaBlock .tbl (tblSwap t.val))

/-- APERTURE_WRITE (R221). -/
def execApertureWrite (ini : Path) (addr : BitVec 48) (data : Word) (s : State) : Host.Outcome State Fault Refusal :=
  .next (apertureWrite ini addr data s)

/-- COLLECTION_TIMEOUT (R221). -/
def execCollectionTimeout (ini : Path) (s : State) : Host.Outcome State Fault Refusal := .next (collectionTimeout ini s)

end Sys2Proof.Machine
end

