-- ==== Sys2Proof/Machine/Jtag.lean ====
section
/-! DEFINITION. Sys2Proof/Machine/Jtag.lean: the JTAG instructions (R391 to R393 of 18_management_observation.md). -/
namespace Sys2Proof.Machine

/-- An instruction with the value its data register captures. -/
def State.jtagIr (s : State) (ir dr : Nat) : State := { s with mgt.jir := ir, mgt.jdr := dr }

/-- The level at user pin `i`: what the pin drives, or the accepted or synchronised level at its input; another floating
level is not stated (log 8, 28, 54). -/
def State.padLevel (s : State) (i : Nat) : Bool × State :=
  match s.pad i with
  | .drive b => (b, s)
  | _ =>
    if i < 64 then (s.eas.level.getLsbD i, s)
    else if i < 160 then (s.gpLevel (i - 64), s)
    else
      let (k, s) := s.freeChoice 2
      (k == 1, s)

/-- The boundary register as Capture-DR loads it (log 28). -/
def State.boundary (s : State) : Nat × State :=
  (List.range 176).foldl (fun (p : Nat × State) i =>
    let (b, s) := p.2.padLevel i
    (p.1 + (if b then 2 ^ i else 0), s)) (0, s)

/-- Meaning of IDCODE (R391). -/
def idcode (s : State) : State := s.jtagIr 1 s.idcodeOf.toNat

/-- Meaning of SAMPLE_PRELOAD (R391) (log 28). -/
def samplePreload (v : BitVec 176) (s : State) : State :=
  let (d, s) := s.boundary
  { s.jtagIr 2 d with mgt.bsr := v }

/-- Whether the instructions of R392 act: reset is held, or the device is in Primer mode. -/
def State.jtagPins (s : State) : Bool := s.primer || s.pwr.holdT || s.pwr.holdC || s.boot.stage == .due

/-- An instruction of R392 with code `ir` (log 54). -/
def State.jtagDrive (s : State) (ir : Nat) : State :=
  if s.jtagPins then
    if ir < 6 then
      let (d, s) := s.boundary
      s.jtagIr ir d
    else s.jtagIr ir 0
  else ((s.jtagIr 0xFF 0).orReg Reg.mgtStat 8).report 0x1F 0x1900

/-- Meaning of EXTEST, EXTEST_PULSE, EXTEST_TRAIN, CLAMP and HIGHZ (R392) (log 28). -/
def extest (s : State) : State := s.jtagDrive 3
def extestPulse (s : State) : State := s.jtagDrive 4
def extestTrain (s : State) : State := s.jtagDrive 5
def clamp (s : State) : State := s.jtagDrive 6
def highz (s : State) : State := s.jtagDrive 7

/-- Meaning of MGTACC (R393): Capture-DR loads READY and the response, or zero while the access is outstanding, and
Update-DR performs the frame, byte 0 in bits [7:0] (log 54). -/
def mgtacc (f : BitVec 88) (s : State) : State :=
  let n := f.toNat
  let b (i : Nat) : Byte := BitVec.ofNat 8 (n / 256 ^ i)
  hostFrame true (b 0) (b 1) (word (bitsOf n 47 16)) (word (bitsOf n 79 48)) (b 10) (s.jtagIr 0x20 (leAt s.mgt.jtag.out 0 8))

/-- Meaning of RBSCAN (R391). -/
def rbscan (s : State) : State :=
  let (w, s) := s.rbNext
  s.jtagIr 0x21 w.toNat

/-- Meaning of BYPASS (R391). -/
def bypass (s : State) : State := s.jtagIr 0xFF 0

end Sys2Proof.Machine
end

