-- ==== Sys2Proof/Machine/CmdMgmt.lean ====
section
/-! DEFINITION. Sys2Proof/Machine/CmdMgmt.lean: the commands of integrity, management and observation (17_integrity.md, 18_management_observation.md): one meaning for each. -/
namespace Sys2Proof.Machine

/-- OPEN1 (R329). -/
def execOpen1 (ch : Fin 32) (bytes : List Byte) (s : State) : Host.Outcome State Fault Refusal :=
  .next (open1 ch.val bytes s)

/-- OPEN3 (R329). -/
def execOpen3 (ch : Fin 32) (bytes : List Byte) (s : State) : Host.Outcome State Fault Refusal :=
  .next (open3 ch.val bytes s)

/-- OPEN_HOLDOFF_END (R329). -/
def execOpenHoldoffEnd (ch : Fin 32) (s : State) : Host.Outcome State Fault Refusal := .next (openHoldoffEnd ch.val s)

/-- REQ (R380). -/
def execReqFrame (ch : Fin 32) (bytes : List Byte) (s : State) : Host.Outcome State Fault Refusal :=
  .next ((reqFrame ch.val bytes s).settle)

/-- IB_RSP (R380). -/
def execIbRsp (s : State) : Host.Outcome State Fault Refusal := .next (ibRsp s)

/-- CLOSE (R378). -/
def execCloseFrame (ch : Fin 32) (bytes : List Byte) (s : State) : Host.Outcome State Fault Refusal :=
  .next (closeFrame ch.val bytes s)

/-- SESSION_IDLE (R330). -/
def execSessionIdle (i : Fin 4) (s : State) : Host.Outcome State Fault Refusal := .next (sessionIdle i.val s)

/-- SCRUB_READ (R355). -/
def execScrubRead (c : Fin 11) (s : State) : Host.Outcome State Fault Refusal := .next (scrubRead c.val s)

/-- PASS_GO (R356). -/
def execPassGo (data : Word) (s : State) : Host.Outcome State Fault Refusal := .next (passGo data s)

/-- PASS_READ (R356). -/
def execPassRead (s : State) : Host.Outcome State Fault Refusal := .next (passRead s)

/-- PASS_ABORT (R356). -/
def execPassAbort (s : State) : Host.Outcome State Fault Refusal := .next (passAbort s.ok)

/-- TRACKER_CLR (R357). -/
def execTrackerClr (c : Fin 11) (i : Fin 32) (s : State) : Host.Outcome State Fault Refusal :=
  .next (trackerClr c.val i.val s)

/-- FAULT (R361). -/
def execFaultFlit (s : State) : Host.Outcome State Fault Refusal := .next (faultFlit s)

/-- FLT_ACK (R362). -/
def execFltAck (data : Word) (s : State) : Host.Outcome State Fault Refusal := .next (fltAck data s)

/-- EPOCH_END (R358). -/
def execEpochEnd (s : State) : Host.Outcome State Fault Refusal := .next (epochEnd s)

/-- MSP_RD (R371). -/
def execMspRd (tag : Byte) (addr data : Word) (crc : Byte) (s : State) : Host.Outcome State Fault Refusal :=
  .next ((hostFrame false 1#8 tag addr data crc s).settle)

/-- MSP_WR (R371). -/
def execMspWr (tag : Byte) (addr data : Word) (crc : Byte) (s : State) : Host.Outcome State Fault Refusal :=
  .next ((hostFrame false 2#8 tag addr data crc s).settle)

/-- LAST (R372). -/
def execLastCmd (tag : Byte) (addr data : Word) (crc : Byte) (s : State) : Host.Outcome State Fault Refusal :=
  .next ((hostFrame false 4#8 tag addr data crc s).settle)

/-- AON (R371). -/
def execAon (tag : Byte) (addr data : Word) (crc : Byte) (s : State) : Host.Outcome State Fault Refusal :=
  .next ((hostFrame false 5#8 tag addr data crc s).settle)

/-- BADCMD (R371). -/
def execBadcmd (cmd tag : Byte) (addr data : Word) (crc : Byte) (s : State) : Host.Outcome State Fault Refusal :=
  .next ((hostFrame false cmd tag addr data crc s).settle)

/-- MSP_SHORT (R372). -/
def execMspShort (bytes : Nat) (s : State) : Host.Outcome State Fault Refusal := .next (mspShort bytes s)

/-- WINDOW_WRITE (R375). -/
def execWindowWrite (p : Path) (k : Fin 8) (data : Word) (s : State) : Host.Outcome State Fault Refusal :=
  .next ((s.regAccess (.direct p) true (Reg.mgtWdata k.val) 4 data).settle)

/-- WINDOW_READ (R375). -/
def execWindowRead (p : Path) (k : Fin 8) (s : State) : Host.Outcome State Fault Refusal :=
  .next ((s.regAccess (.direct p) false (Reg.mgtWdata k.val) 4 0#32).settle)

/-- TRIG (R382). -/
def execTrig (s : State) : Host.Outcome State Fault Refusal := .next (trig s)

/-- REARM (R384). -/
def execRearm (s : State) : Host.Outcome State Fault Refusal := .next (rearm s)

/-- SKETCH_IN (R382). -/
def execSketchIn (s : State) : Host.Outcome State Fault Refusal := .next (sketchIn s)

/-- SKETCH_LATCH (R383). -/
def execSketchLatch (s : State) : Host.Outcome State Fault Refusal := .next (sketchLatch s)

/-- SKETCH_RECORD_READY (R386). -/
def execSketchRecordReady (s : State) : Host.Outcome State Fault Refusal := .next (sketchRecordReady s)

/-- SKREC_DATA_READ (R386). -/
def execSkrecDataRead (s : State) : Host.Outcome State Fault Refusal := .next (skrecDataRead s)

/-- READBACK_GO (R389). -/
def execReadbackGo (data : Word) (s : State) : Host.Outcome State Fault Refusal := .next (readbackGo data s)

/-- RB_DATA_READ (R390). -/
def execRbDataRead (s : State) : Host.Outcome State Fault Refusal := .next (rbDataRead s)

/-- MGT_DBG_WRITE (R393). -/
def execMgtDbgWrite (p : Path) (data : Word) (s : State) : Host.Outcome State Fault Refusal :=
  .next (mgtDbgWrite p data s)

/-- IDCODE (R391). -/
def execIdcode (s : State) : Host.Outcome State Fault Refusal := .next (idcode s)

/-- SAMPLE_PRELOAD (R391). -/
def execSamplePreload (v : BitVec 176) (s : State) : Host.Outcome State Fault Refusal := .next (samplePreload v s)

/-- EXTEST (R392). -/
def execExtest (s : State) : Host.Outcome State Fault Refusal := .next (extest s)

/-- EXTEST_PULSE (R392). -/
def execExtestPulse (s : State) : Host.Outcome State Fault Refusal := .next (extestPulse s)

/-- EXTEST_TRAIN (R392). -/
def execExtestTrain (s : State) : Host.Outcome State Fault Refusal := .next (extestTrain s)

/-- CLAMP (R392). -/
def execClamp (s : State) : Host.Outcome State Fault Refusal := .next (clamp s)

/-- HIGHZ (R392). -/
def execHighz (s : State) : Host.Outcome State Fault Refusal := .next (highz s)

/-- MGTACC (R393). -/
def execMgtacc (frame : BitVec 88) (s : State) : Host.Outcome State Fault Refusal := .next ((mgtacc frame s).settle)

/-- RBSCAN (R391). -/
def execRbscan (s : State) : Host.Outcome State Fault Refusal := .next (rbscan s)

/-- BYPASS (R391). -/
def execBypass (s : State) : Host.Outcome State Fault Refusal := .next (bypass s)

/-- TEMPERATURE_CONVERSION (R394). -/
def execTemperatureConversion (n : Fin 16) (temp : BitVec 10) (s : State) : Host.Outcome State Fault Refusal :=
  .next (temperatureConversion n.val temp s)

/-- VOLTAGE_CONVERSION (R395). -/
def execVoltageConversion (k : Fin 8) (mv : BitVec 13) (s : State) : Host.Outcome State Fault Refusal :=
  .next (voltageConversion k.val mv s)

end Sys2Proof.Machine
end

