-- ==== Sys2Proof/Machine/CmdNoc.lean ====
section
/-! DEFINITION. Sys2Proof/Machine/CmdNoc.lean: the commands of the on-chip network (11_noc.md): one meaning for each. -/
namespace Sys2Proof.Machine

/-- INJECT (R233). -/
def execInject (n dst : Fin 48) (pk : Packet) (elapsed : Nat) (s : State) : Host.Outcome State Fault Refusal :=
  .next (inject n.val dst.val pk elapsed s)

/-- ROUTER_FORWARD (R228). -/
def execRouterForward (lay : Layer) (r : Fin 24) (out : Fin 8) (s : State) : Host.Outcome State Fault Refusal :=
  .next ((routerForward lay r.val out.val s).takePosted)

/-- RD (R226). -/
def execNocRd (n : Fin 48) (s : State) : Host.Outcome State Fault Refusal := .next ((nocRd n.val s).settle)

/-- WR (R226). -/
def execNocWr (n : Fin 48) (s : State) : Host.Outcome State Fault Refusal := .next ((nocWr n.val s).settle)

/-- WRP (R226). -/
def execNocWrp (n : Fin 48) (s : State) : Host.Outcome State Fault Refusal := .next ((nocWrp n.val s).settle)

/-- RSP (R227). -/
def execNocRsp (n : Fin 48) (s : State) : Host.Outcome State Fault Refusal := .next (s.response n.val .c 8)

/-- LRD (R226). -/
def execLrd (n : Fin 48) (s : State) : Host.Outcome State Fault Refusal := .next (s.lineRemote n.val 1 (lrd n.val))

/-- LWR (R226). -/
def execLwr (n : Fin 48) (s : State) : Host.Outcome State Fault Refusal := .next (s.lineRemote n.val 2 (lwr n.val))

/-- LWRP (R226). -/
def execLwrp (n : Fin 48) (s : State) : Host.Outcome State Fault Refusal := .next (s.lineRemote n.val 3 (lwrp n.val))

/-- LRSP (R226). -/
def execLrsp (n : Fin 48) (s : State) : Host.Outcome State Fault Refusal := .next (s.response n.val .d 8)

/-- LACK (R226). -/
def execLack (n : Fin 48) (s : State) : Host.Outcome State Fault Refusal := .next (s.response n.val .d 9)

/-- REQUEST_TIMEOUT (R227). -/
def execRequestTimeout (n : Fin 48) (tag : BitVec 6) (s : State) : Host.Outcome State Fault Refusal :=
  .next ((timeoutAt n.val tag.toNat s).settle)

/-- ROUTE_WRITE (R230). -/
def execRouteWrite (n : Fin 48) (e : Fin 64) (data : Word) (s : State) : Host.Outcome State Fault Refusal :=
  .next (s.viaBlock .noc (routeWrite n.val e.val data))

/-- GUARANTEE_BREACH (R234). -/
def execGuaranteeBreach (n : Fin 48) (cls : Fin 4) (s : State) : Host.Outcome State Fault Refusal :=
  .next (guaranteeBreach n.val cls.val s)

/-- STATS_CLR (R235). -/
def execStatsClr (n : Fin 48) (s : State) : Host.Outcome State Fault Refusal := .next (s.viaBlock .noc (statsClr n.val))

/-- FENCE_REQ (R236). -/
def execFenceReq (d : Fin 11) (s : State) : Host.Outcome State Fault Refusal := .next (s.viaBlock .noc (fenceReq d.val))

/-- FENCE_ACK (R236). -/
def execFenceAck (d : Fin 11) (s : State) : Host.Outcome State Fault Refusal := .next (fenceAck d.val s)

/-- FENCE_RELEASE (R236). -/
def execFenceRelease (d : Fin 11) (s : State) : Host.Outcome State Fault Refusal :=
  .next (s.viaBlock .noc (fenceRelease d.val))

/-- ROUTER_APPLY (R238). -/
def execRouterApply (lay : Layer) (r : Fin 24) (s : State) : Host.Outcome State Fault Refusal :=
  .next (s.viaBlock .noc (routerApply lay r.val))

/-- QUIESCE_DONE (R238). -/
def execQuiesceDone (lay : Layer) (r : Fin 24) (s : State) : Host.Outcome State Fault Refusal :=
  .next (quiesceDone lay r.val s)

/-- ROUTER_FAULT (R239). -/
def execRouterFault (lay : Layer) (r : Fin 24) (s : State) : Host.Outcome State Fault Refusal :=
  .next (routerFault lay r.val s)

end Sys2Proof.Machine
end

