-- ==== Sys2Proof/Machine/CmdPalette.lean ====
section
/-! DEFINITION. Sys2Proof/Machine/CmdPalette.lean: the commands of the Palette and of Panel reloads (08_palette_switching.md, 16_panel_reconfiguration.md): one meaning for each. -/
namespace Sys2Proof.Machine

/-- PAL_CMD_HI_WRITE (R164). -/
def execPalCmdHiWrite (data : Word) (s : State) : Host.Outcome State Fault Refusal :=
  .next (s.viaBlock .pal (palCmdHiWrite data))

/-- REGISTER_COMMAND_DELIVERY (R164). -/
def execRegisterCommandDelivery (s : State) : Host.Outcome State Fault Refusal :=
  .next ((registerCommandDelivery s).settle)

/-- IMMEDIATE (R166). -/
def execImmediateCmd (s : State) : Host.Outcome State Fault Refusal := .next (immediateCmd s)

/-- EVENT (R166). -/
def execEventCmd (s : State) : Host.Outcome State Fault Refusal := .next (eventCmd s)

/-- MARKER (R166). -/
def execMarkerCmd (s : State) : Host.Outcome State Fault Refusal := .next (markerCmd s)

/-- CANCEL (R166). -/
def execCancelCmd (s : State) : Host.Outcome State Fault Refusal := .next (cancelCmd s)

/-- PAL_PEND_CLR (R167). -/
def execPalPendClr (mask : BitVec 16) (s : State) : Host.Outcome State Fault Refusal :=
  .next (s.viaBlock .pal (palPendClr mask.toNat))

/-- PAL_GROUP_HI_WRITE (R427). -/
def execPalGroupHiWrite (g : Fin 16) (data : Word) (s : State) : Host.Outcome State Fault Refusal :=
  .next (s.viaBlock .pal (palGroupHiWrite g.val data))

/-- PNL_GO (R334). -/
def execPnlGo (s : State) : Host.Outcome State Fault Refusal := .next (s.viaBlock .pal (pnlGo))

/-- FETCH_DONE (R335). -/
def execFetchDone (timeout : Bool) (s : State) : Host.Outcome State Fault Refusal := .next (fetchDone timeout s)

/-- PANEL_RELEASE (R336). -/
def execPanelRelease (s : State) : Host.Outcome State Fault Refusal := .next ((panelRelease s).settle)

/-- PNL_ABORT (R334). -/
def execPnlAbort (s : State) : Host.Outcome State Fault Refusal := .next (s.viaBlock .pal (pnlAbort))

/-- SCRUB_STEP (R345). -/
def execScrubStep (s : State) : Host.Outcome State Fault Refusal := .next (scrubStep s)

/-- SCRUB_RELOAD (R347). -/
def execScrubReload (s : State) : Host.Outcome State Fault Refusal := .next (scrubReload s)

end Sys2Proof.Machine
end

