-- ==== Sys2Proof/Machine/LinkAuth.lean ====
section
/-! DEFINITION. Sys2Proof/Machine/LinkAuth.lean: link authentication (R258 of 12_shaga_link.md). -/
namespace Sys2Proof.Machine

/-- M as the end `a` signs it toward the end `b`, each given by its nonce and device ID, with the hash of `a` (R258). -/
def authMessage (na nb : BitVec 256) (ia ib : Nat) (hash : List Byte) : List Byte :=
  [0x4B#8, 0x5A#8, 0x4C#8, 0x41#8] ++ leBytes nb.toNat 32 ++ leBytes na.toNat 32 ++ leBytes ia 2 ++ leBytes ib 2 ++ hash

/-- The 64 data bytes of a STEP 3 cell: the last of M, whose 104 bytes do not fit (log 47). -/
def step3Bytes (m : List Byte) : List Byte := m.drop 40

/-- Cells that answer the peer's nonce: certificate, signature and M. -/
def State.authCells (s : State) (l : Nat) (peer : BitVec 256) : List Cell :=
  let x := (s.link l).auth
  let cert := s.otp.cert.take 1024
  let frags := (List.range ((cert.length + 63) / 64)).map (fun i => authBody 1 i ((cert.drop (64 * i)).take 64))
  let m := authMessage x.own peer s.did (s.regF (Reg.shgLpeer l) 13 0) (digBytes s.otp.cust)
  (frags ++ [authBody 2 0 (Config.sm2Sign m), authBody 3 0 (step3Bytes m)]).map (s.localCell l 7)

/-- Whether the own end, which checks the peer, accepts it; its STEP 3 cell held `data`. -/
def State.accepts? (s : State) (l : Nat) (data : List Byte) : Bool :=
  let x := (s.link l).auth
  let mode := s.regF Reg.shgCfg 5 4
  let hash := data.drop (data.length - 32)
  match x.peer with
  | none => false
  | some n =>
    let m := authMessage n x.own (s.regF (Reg.shgLpeer l) 13 0) s.did hash
    (match Config.certKey s.otp.vendor x.cert with
      | some k => Config.sm2Verify k m x.sig
      | none => false)
      && (mode == 1 || hash == digBytes s.otp.cust)

/-- The exchange holds link `l` back no longer; AUTHOK says whether the peer has been authenticated (R258, Table SH-5). -/
def State.authEnd (s : State) (l : Nat) (authenticated : Bool) : State :=
  let x := s.link l
  let s := s.setLink l { x with auth := { x.auth with passed := true } }
  (if authenticated then s.orReg (Reg.shgLstat l) 0x10 else s).tryUp l

/-- Meaning of AUTH (R258): an AUTH cell arrives in state AUTH (log 47). -/
def auth (l : Nat) (body : BitVec 576) (s : State) : State :=
  if s.linkState l ≠ 3 then s
  else
    let b := body.toNat
    let data := (List.range (Nat.min 64 (bitsOf b 15 8))).map (fun i => BitVec.ofNat 8 (b / 2 ^ (16 + 8 * i)))
    let x := s.link l
    match bitsOf b 3 0 with
    | 0 =>
      let n := BitVec.ofNat 256 (leAt data 0 32)
      let s := s.setLink l { x with auth := { x.auth with peer := some n, cert := [], sig := [] } }
      s.txCells l (s.authCells l n)
    | 1 =>
      let old := if bitsOf b 7 4 = 0 then [] else x.auth.cert
      s.setLink l { x with auth := { x.auth with cert := old ++ data } }
    | 2 => s.setLink l { x with auth := { x.auth with sig := data } }
    | 3 =>
      if s.regF Reg.shgCfg 5 4 = 0 then s.authEnd l false
      else if s.accepts? l data then s.authEnd l true
      else
        let s := s.setLink l { x with auth := { x.auth with failed := true } }
        ((s.orReg (Reg.shgLstat l) 0x40).orReg Reg.shgStat 0x40).reportOn 0x14 0x1400 (s.regF (Reg.shgLpeer l) 13 0)
    | _ => s

end Sys2Proof.Machine
end

