-- ==== Sys2Proof/Machine/CmdShaga.lean ====
section
/-! DEFINITION. Sys2Proof/Machine/CmdShaga.lean: the commands of the Shaga links (12_shaga_link.md): one meaning for each. -/
namespace Sys2Proof.Machine

/-- TRAIN_DONE; a link that trains sees its group's PLL locked (R403). -/
def State.trained (s : State) (l : Nat) : State :=
  let t := trainDone l s
  if s.linkState l = 1 then t.pllSeen (l / 8) else t

/-- TRAIN_DONE (R242). -/
def execTrainDone (l : Fin 32) (s : State) : Host.Outcome State Fault Refusal := .next (s.trained l.val)

/-- IDENT (R242). -/
def execIdent (l : Fin 32) (did : BitVec 14) (code : BitVec 5) (auth : BitVec 2) (s : State) : Host.Outcome State Fault Refusal :=
  .next (ident l.val did.toNat code.toNat auth.toNat s)

/-- LINK_RETRAIN (R242). -/
def execLinkRetrain (l : Fin 32) (s : State) : Host.Outcome State Fault Refusal := .next (linkRetrain l.val s)

/-- LINK_DOWN (R242). -/
def execLinkDown (l : Fin 32) (s : State) : Host.Outcome State Fault Refusal := .next (linkDown l.val s)

/-- LCTL_TIMEOUT (R242). -/
def execLctlTimeout (l : Fin 32) (s : State) : Host.Outcome State Fault Refusal := .next (lctlTimeout l.val s)

/-- CREDIT (R243). -/
def execCredit (l : Fin 32) (c0 c1 c2 c3 : Byte) (s : State) : Host.Outcome State Fault Refusal :=
  .next (credit l.val c0.toNat c1.toNat c2.toNat c3.toNat s)

/-- CREDIT_SEND (R242). -/
def execCreditSend (l : Fin 32) (s : State) : Host.Outcome State Fault Refusal := .next (creditSend l.val s)

/-- FLIT_CELL (R246). -/
def execFlitCell (l : Fin 32) (hdr : BitVec 128) (body : BitVec 576) (s : State) : Host.Outcome State Fault Refusal :=
  .next ((flitCell l.val hdr body s).settle)

/-- REMOTE_ORIGINATE (R247). -/
def execRemoteOriginate (s : State) : Host.Outcome State Fault Refusal := .next ((remoteOriginate s).settle)

/-- SDAT (R252). -/
def execSdat (src : BitVec 14) (payload : List Byte) (pmask : Byte) (s : State) : Host.Outcome State Fault Refusal :=
  .next (sdat src.toNat payload pmask.toNat s)

/-- DREQ_SEND (R253). -/
def execDreqSend (l : Fin 32) (t1 : BitVec 64) (s : State) : Host.Outcome State Fault Refusal :=
  .next (dreqSend l.val t1.toNat s)

/-- DREQ (R253). -/
def execDreq (l : Fin 32) (t1 : BitVec 64) (seq : Byte) (t2 t3 : BitVec 64) (s : State) : Host.Outcome State Fault Refusal :=
  .next (dreq l.val t1.toNat seq.toNat t2.toNat t3.toNat s)

/-- DRSP (R253). -/
def execDrsp (l : Fin 32) (t1 t2 t3 : BitVec 64) (seq : Byte) (t4 : BitVec 64) (s : State) : Host.Outcome State Fault Refusal :=
  .next (drsp l.val t1 t2 t3 seq.toNat t4 s)

/-- BEACON_SEND (R254). -/
def execBeaconSend (l : Fin 32) (n : Fin 16) (s : State) : Host.Outcome State Fault Refusal :=
  .next (beaconSend l.val n.val s)

/-- BEACON (R255). -/
def execBeacon (l : Fin 32) (body : BitVec 576) (ta : BitVec 64) (s : State) : Host.Outcome State Fault Refusal :=
  .next (beacon l.val body ta.toNat s)

/-- SKETCH_CELL (R257). -/
def execSketchCell (l : Fin 32) (body : BitVec 576) (s : State) : Host.Outcome State Fault Refusal :=
  .next (sketchCell l.val body.toNat s)

/-- SYSTEM_LATCH (R257). -/
def execSystemLatch (s : State) : Host.Outcome State Fault Refusal := .next (systemLatch s)

/-- SKLATE (R257). -/
def execSklate (s : State) : Host.Outcome State Fault Refusal := .next (sklate s)

/-- AUTH (R258). -/
def execAuth (l : Fin 32) (body : BitVec 576) (s : State) : Host.Outcome State Fault Refusal :=
  .next (auth l.val body s)

/-- FOLD_SEND (R259). -/
def execFoldSend (i : Fin 64) (s : State) : Host.Outcome State Fault Refusal := .next (foldSend i.val s)

/-- RTCMD_WRITE (R247). -/
def execRtcmdWrite (s : State) : Host.Outcome State Fault Refusal := .next (s.viaBlock .shg (rtcmdWrite))

/-- RTCMD_READ (R247). -/
def execRtcmdRead (s : State) : Host.Outcome State Fault Refusal := .next (s.viaBlock .shg (rtcmdRead))

end Sys2Proof.Machine
end

