-- ==== Sys2Proof/Machine/CmdStreams.lean ====
section
/-! DEFINITION. Sys2Proof/Machine/CmdStreams.lean: the commands of the stream ports (09_stream_ports.md): one meaning for each. -/
namespace Sys2Proof.Machine

/-- LINK_UP; a channel that comes up sends the reports that wait for it, and its group's PLL is seen locked (R381, R403). -/
def State.linkedUp (s : State) (ch : Nat) (abil : BitVec 3) : State :=
  let t := linkUp ch abil s
  if t.chLink ch && !s.chLink ch then t.ibDrain.pllSeen (ch / 8) else t

/-- SPG_MODE_WRITE (R178). -/
def execSpgModeWrite (g : Fin 4) (data : Word) (s : State) : Host.Outcome State Fault Refusal :=
  .next (if s.modePasses (Reg.spgGcfg g.val) then s.writeMode g.val data
    else s.viaBlock (.spg g.val) (fun s => s.writeMode g.val data))

/-- LINK_UP (R181). -/
def execLinkUp (ch : Fin 32) (abil : BitVec 3) (s : State) : Host.Outcome State Fault Refusal :=
  .next (s.linkedUp ch.val abil)

/-- LINKDOWN (R181). -/
def execLinkdown (lane : Fin 32) (s : State) : Host.Outcome State Fault Refusal := .next (linkdown lane.val s)

/-- RECEIVED_FRAME (R183). -/
def execReceivedFrame (ch : Fin 32) (bytes : List Byte) (s : State) : Host.Outcome State Fault Refusal :=
  .next (receivedFrame ch.val bytes s)

/-- PFC_REPEAT (R185). -/
def execPfcRepeat (ch : Fin 32) (s : State) : Host.Outcome State Fault Refusal := .next (pfcRepeat ch.val s)

/-- PAUSE (R180). -/
def execPauseFrame (ch : Fin 32) (bytes : List Byte) (s : State) : Host.Outcome State Fault Refusal :=
  .next (pauseFrame ch.val bytes s)

/-- PFC (R200). -/
def execPfcFrame (ch : Fin 32) (bytes : List Byte) (s : State) : Host.Outcome State Fault Refusal :=
  .next (pfcFrame ch.val bytes s)

/-- PFC_HOLD_END (R200). -/
def execPfcHoldEnd (ch : Fin 32) (prio : Fin 8) (s : State) : Host.Outcome State Fault Refusal :=
  .next (pfcHoldEnd ch.val prio.val s)

/-- CLASSIFICATION (R187). -/
def execClassification (ch : Fin 32) (s : State) : Host.Outcome State Fault Refusal := .next (classification ch.val s)

/-- STREAM_ROW (R190). -/
def execStreamRow (src : Fin 33) (s : State) : Host.Outcome State Fault Refusal := .next (streamRow src.val s)

/-- MARKER_INSERT (R191). -/
def execMarkerInsert (sid : Fin 1024) (s : State) : Host.Outcome State Fault Refusal := .next (markerInsert sid.val s)

/-- STREAM_ENTRY_WRITE (R189). -/
def execStreamEntryWrite (egress : Bool) (sid : Fin 1024) (w : Fin 2) (data : Word) (s : State) : Host.Outcome State Fault Refusal :=
  .next (streamEntryWrite egress sid.val w.val data s)

/-- EGRESS_ROW (R196). -/
def execEgressRow (e : Fin 64) (s : State) : Host.Outcome State Fault Refusal := .next (egressRow e.val s)

/-- FRAME_TX_START (R199). -/
def execFrameTxStart (ch : Fin 32) (s : State) : Host.Outcome State Fault Refusal := .next (frameTxStart ch.val s)

/-- TX_UNDER (R199). -/
def execTxUnder (ch : Fin 32) (s : State) : Host.Outcome State Fault Refusal := .next (txUnder ch.val s)

/-- TS_INFO_READ (R202). -/
def execTsInfoRead (ch : Fin 32) (tx : Bool) (s : State) : Host.Outcome State Fault Refusal :=
  .next (s.viaBlock (.spg (ch.val / 8)) (fun s => if s.chFormed ch.val then tsInfoRead ch.val tx s else s))

/-- COUNTER_LO_READ (R202). -/
def execCounterLoRead (addr : Word) (s : State) : Host.Outcome State Fault Refusal := .next (counterLoRead addr.toNat s)

end Sys2Proof.Machine
end

