-- ==== Sys2Proof/Machine/Dispatch.lean ====
section
/-! DEFINITION. Sys2Proof/Machine/Dispatch.lean: the one dispatch of the commands to their meanings. -/
namespace Sys2Proof.Machine

/-- The effect of a command on everything but the queue. -/
def exec (i : Instr) (s : State) : Host.Outcome State Fault Refusal :=
  match i with
  | .registerWrite p addr size data => Sys2Proof.Machine.execRegisterWrite p addr size data s
  | .rcRead p addr size => Sys2Proof.Machine.execRcRead p addr size s
  | .timingPinEdge mask lvl run => Sys2Proof.Machine.execTimingPinEdge mask lvl run s
  | .axisStall n => Sys2Proof.Machine.execAxisStall n s
  | .axisLoad n => Sys2Proof.Machine.execAxisLoad n s
  | .axisAdd n => Sys2Proof.Machine.execAxisAdd n s
  | .revClr n => Sys2Proof.Machine.execRevClr n s
  | .armIdx n => Sys2Proof.Machine.execArmIdx n s
  | .axisCfgWrite n data => Sys2Proof.Machine.execAxisCfgWrite n data s
  | .axisRateWrite n data => Sys2Proof.Machine.execAxisRateWrite n data s
  | .rateApply n => Sys2Proof.Machine.execRateApply n s
  | .axisPosLoRead n => Sys2Proof.Machine.execAxisPosLoRead n s
  | .axisLost n => Sys2Proof.Machine.execAxisLost n s
  | .entryCrossing idx => Sys2Proof.Machine.execEntryCrossing idx s
  | .pulseEnd pin => Sys2Proof.Machine.execPulseEnd pin s
  | .easelTokenSend => Sys2Proof.Machine.execEaselTokenSend s
  | .stageWrite k idx => Sys2Proof.Machine.execStageWrite k idx s
  | .stageRead k idx => Sys2Proof.Machine.execStageRead k idx s
  | .stageArm k idx => Sys2Proof.Machine.execStageArm k idx s
  | .stageDisarm k idx => Sys2Proof.Machine.execStageDisarm k idx s
  | .rstepHiWrite j data => Sys2Proof.Machine.execRstepHiWrite j data s
  | .pcmdHiWrite idx data => Sys2Proof.Machine.execPcmdHiWrite idx data s
  | .schedEnWrite en => Sys2Proof.Machine.execSchedEnWrite en s
  | .safeWrite on => Sys2Proof.Machine.execSafeWrite on s
  | .tpCfgWrite n data => Sys2Proof.Machine.execTpCfgWrite n data s
  | .firing t => Sys2Proof.Machine.execFiring t s
  | .pbxClose t => Sys2Proof.Machine.execPbxClose t s
  | .markerFiring t => Sys2Proof.Machine.execMarkerFiring t s
  | .tokenPathAccept q => Sys2Proof.Machine.execTokenPathAccept q s
  | .writeBack t => Sys2Proof.Machine.execWriteBack t s
  | .forcedWriteBack t => Sys2Proof.Machine.execForcedWriteBack t s
  | .agCfgWrite t k data => Sys2Proof.Machine.execAgCfgWrite t k data s
  | .applyStg t k => Sys2Proof.Machine.execApplyStg t k s
  | .tileHold t on => Sys2Proof.Machine.execTileHold t on s
  | .fireOne t => Sys2Proof.Machine.execFireOne t s
  | .acchiWrite t data => Sys2Proof.Machine.execAcchiWrite t data s
  | .jointPass t j => Sys2Proof.Machine.execJointPass t j s
  | .ctxEvenWrite t slot v data => Sys2Proof.Machine.execCtxEvenWrite t slot v data s
  | .ctxOddWrite t slot v data => Sys2Proof.Machine.execCtxOddWrite t slot v data s
  | .ctxRead t slot w => Sys2Proof.Machine.execCtxRead t slot w s
  | .palCmdHiWrite data => Sys2Proof.Machine.execPalCmdHiWrite data s
  | .registerCommandDelivery => Sys2Proof.Machine.execRegisterCommandDelivery s
  | .immediateCmd => Sys2Proof.Machine.execImmediateCmd s
  | .eventCmd => Sys2Proof.Machine.execEventCmd s
  | .markerCmd => Sys2Proof.Machine.execMarkerCmd s
  | .cancelCmd => Sys2Proof.Machine.execCancelCmd s
  | .palPendClr mask => Sys2Proof.Machine.execPalPendClr mask s
  | .palGroupHiWrite g data => Sys2Proof.Machine.execPalGroupHiWrite g data s
  | .spgModeWrite g data => Sys2Proof.Machine.execSpgModeWrite g data s
  | .linkUp ch abil => Sys2Proof.Machine.execLinkUp ch abil s
  | .linkdown lane => Sys2Proof.Machine.execLinkdown lane s
  | .receivedFrame ch bytes => Sys2Proof.Machine.execReceivedFrame ch bytes s
  | .pfcRepeat ch => Sys2Proof.Machine.execPfcRepeat ch s
  | .pauseFrame ch bytes => Sys2Proof.Machine.execPauseFrame ch bytes s
  | .pfcFrame ch bytes => Sys2Proof.Machine.execPfcFrame ch bytes s
  | .pfcHoldEnd ch prio => Sys2Proof.Machine.execPfcHoldEnd ch prio s
  | .classification ch => Sys2Proof.Machine.execClassification ch s
  | .streamRow src => Sys2Proof.Machine.execStreamRow src s
  | .markerInsert sid => Sys2Proof.Machine.execMarkerInsert sid s
  | .streamEntryWrite egress sid w data => Sys2Proof.Machine.execStreamEntryWrite egress sid w data s
  | .egressRow e => Sys2Proof.Machine.execEgressRow e s
  | .frameTxStart ch => Sys2Proof.Machine.execFrameTxStart ch s
  | .txUnder ch => Sys2Proof.Machine.execTxUnder ch s
  | .tsInfoRead ch tx => Sys2Proof.Machine.execTsInfoRead ch tx s
  | .counterLoRead addr => Sys2Proof.Machine.execCounterLoRead addr s
  | .stackTrainingDone st ok => Sys2Proof.Machine.execStackTrainingDone st ok s
  | .zdone st => Sys2Proof.Machine.execZdone st s
  | .sectorClear data => Sys2Proof.Machine.execSectorClear data s
  | .pprGo st hard => Sys2Proof.Machine.execPprGo st hard s
  | .pprDone st spare => Sys2Proof.Machine.execPprDone st spare s
  | .stackPowerRequest st data => Sys2Proof.Machine.execStackPowerRequest st data s
  | .stackThermal st temp => Sys2Proof.Machine.execStackThermal st temp s
  | .descriptorWrite t w data => Sys2Proof.Machine.execDescriptorWrite t w data s
  | .tableRequest port => Sys2Proof.Machine.execTableRequest port s
  | .tableResponse port => Sys2Proof.Machine.execTableResponse port s
  | .tableSwap => Sys2Proof.Machine.execTableSwap s
  | .tblSwap t => Sys2Proof.Machine.execTblSwap t s
  | .apertureWrite ini addr data => Sys2Proof.Machine.execApertureWrite ini addr data s
  | .collectionTimeout ini => Sys2Proof.Machine.execCollectionTimeout ini s
  | .inject n dst pk elapsed => Sys2Proof.Machine.execInject n dst pk elapsed s
  | .routerForward lay r out => Sys2Proof.Machine.execRouterForward lay r out s
  | .nocRd n => Sys2Proof.Machine.execNocRd n s
  | .nocWr n => Sys2Proof.Machine.execNocWr n s
  | .nocWrp n => Sys2Proof.Machine.execNocWrp n s
  | .nocRsp n => Sys2Proof.Machine.execNocRsp n s
  | .lrd n => Sys2Proof.Machine.execLrd n s
  | .lwr n => Sys2Proof.Machine.execLwr n s
  | .lwrp n => Sys2Proof.Machine.execLwrp n s
  | .lrsp n => Sys2Proof.Machine.execLrsp n s
  | .lack n => Sys2Proof.Machine.execLack n s
  | .requestTimeout n tag => Sys2Proof.Machine.execRequestTimeout n tag s
  | .routeWrite n e data => Sys2Proof.Machine.execRouteWrite n e data s
  | .guaranteeBreach n cls => Sys2Proof.Machine.execGuaranteeBreach n cls s
  | .statsClr n => Sys2Proof.Machine.execStatsClr n s
  | .fenceReq d => Sys2Proof.Machine.execFenceReq d s
  | .fenceAck d => Sys2Proof.Machine.execFenceAck d s
  | .fenceRelease d => Sys2Proof.Machine.execFenceRelease d s
  | .routerApply lay r => Sys2Proof.Machine.execRouterApply lay r s
  | .quiesceDone lay r => Sys2Proof.Machine.execQuiesceDone lay r s
  | .routerFault lay r => Sys2Proof.Machine.execRouterFault lay r s
  | .trainDone l => Sys2Proof.Machine.execTrainDone l s
  | .ident l did code auth => Sys2Proof.Machine.execIdent l did code auth s
  | .linkRetrain l => Sys2Proof.Machine.execLinkRetrain l s
  | .linkDown l => Sys2Proof.Machine.execLinkDown l s
  | .lctlTimeout l => Sys2Proof.Machine.execLctlTimeout l s
  | .credit l c0 c1 c2 c3 => Sys2Proof.Machine.execCredit l c0 c1 c2 c3 s
  | .creditSend l => Sys2Proof.Machine.execCreditSend l s
  | .flitCell l hdr body => Sys2Proof.Machine.execFlitCell l hdr body s
  | .remoteOriginate => Sys2Proof.Machine.execRemoteOriginate s
  | .sdat src payload pmask => Sys2Proof.Machine.execSdat src payload pmask s
  | .dreqSend l t1 => Sys2Proof.Machine.execDreqSend l t1 s
  | .dreq l t1 seq t2 t3 => Sys2Proof.Machine.execDreq l t1 seq t2 t3 s
  | .drsp l t1 t2 t3 seq t4 => Sys2Proof.Machine.execDrsp l t1 t2 t3 seq t4 s
  | .beaconSend l n => Sys2Proof.Machine.execBeaconSend l n s
  | .beacon l body ta => Sys2Proof.Machine.execBeacon l body ta s
  | .sketchCell l body => Sys2Proof.Machine.execSketchCell l body s
  | .systemLatch => Sys2Proof.Machine.execSystemLatch s
  | .sklate => Sys2Proof.Machine.execSklate s
  | .auth l body => Sys2Proof.Machine.execAuth l body s
  | .foldSend idx => Sys2Proof.Machine.execFoldSend idx s
  | .rtcmdWrite => Sys2Proof.Machine.execRtcmdWrite s
  | .rtcmdRead => Sys2Proof.Machine.execRtcmdRead s
  | .nopOp c => Sys2Proof.Machine.execNopOp c s
  | .doneOp c => Sys2Proof.Machine.execDoneOp c s
  | .post c => Sys2Proof.Machine.execPost c s
  | .sync c => Sys2Proof.Machine.execSync c s
  | .rtt c => Sys2Proof.Machine.execRtt c s
  | .rttn c => Sys2Proof.Machine.execRttn c s
  | .mfs c => Sys2Proof.Machine.execMfs c s
  | .mts c => Sys2Proof.Machine.execMts c s
  | .bkrd c => Sys2Proof.Machine.execBkrd c s
  | .bkwr c => Sys2Proof.Machine.execBkwr c s
  | .savel c => Sys2Proof.Machine.execSavel c s
  | .saveu c => Sys2Proof.Machine.execSaveu c s
  | .restl c => Sys2Proof.Machine.execRestl c s
  | .restlj c => Sys2Proof.Machine.execRestlj c s
  | .restu c => Sys2Proof.Machine.execRestu c s
  | .addOp c => Sys2Proof.Machine.execAddOp c s
  | .addc c => Sys2Proof.Machine.execAddc c s
  | .subOp c => Sys2Proof.Machine.execSubOp c s
  | .subc c => Sys2Proof.Machine.execSubc c s
  | .adds c => Sys2Proof.Machine.execAdds c s
  | .subs c => Sys2Proof.Machine.execSubs c s
  | .andOp c => Sys2Proof.Machine.execAndOp c s
  | .orOp c => Sys2Proof.Machine.execOrOp c s
  | .xorOp c => Sys2Proof.Machine.execXorOp c s
  | .andn c => Sys2Proof.Machine.execAndn c s
  | .shl c => Sys2Proof.Machine.execShl c s
  | .shr c => Sys2Proof.Machine.execShr c s
  | .sar c => Sys2Proof.Machine.execSar c s
  | .rol c => Sys2Proof.Machine.execRol c s
  | .shrr c => Sys2Proof.Machine.execShrr c s
  | .minOp c => Sys2Proof.Machine.execMinOp c s
  | .maxOp c => Sys2Proof.Machine.execMaxOp c s
  | .minu c => Sys2Proof.Machine.execMinu c s
  | .maxu c => Sys2Proof.Machine.execMaxu c s
  | .slt c => Sys2Proof.Machine.execSlt c s
  | .sltu c => Sys2Proof.Machine.execSltu c s
  | .seqOp c => Sys2Proof.Machine.execSeqOp c s
  | .clz c => Sys2Proof.Machine.execClz c s
  | .cls c => Sys2Proof.Machine.execCls c s
  | .popc c => Sys2Proof.Machine.execPopc c s
  | .mulOp c => Sys2Proof.Machine.execMulOp c s
  | .mulh c => Sys2Proof.Machine.execMulh c s
  | .mulhu c => Sys2Proof.Machine.execMulhu c s
  | .divOp c => Sys2Proof.Machine.execDivOp c s
  | .divu c => Sys2Proof.Machine.execDivu c s
  | .rem c => Sys2Proof.Machine.execRem c s
  | .remu c => Sys2Proof.Machine.execRemu c s
  | .addi c => Sys2Proof.Machine.execAddi c s
  | .andi c => Sys2Proof.Machine.execAndi c s
  | .ori c => Sys2Proof.Machine.execOri c s
  | .xori c => Sys2Proof.Machine.execXori c s
  | .slti c => Sys2Proof.Machine.execSlti c s
  | .sltiu c => Sys2Proof.Machine.execSltiu c s
  | .shli c => Sys2Proof.Machine.execShli c s
  | .shri c => Sys2Proof.Machine.execShri c s
  | .sari c => Sys2Proof.Machine.execSari c s
  | .lui c => Sys2Proof.Machine.execLui c s
  | .ldb c => Sys2Proof.Machine.execLdb c s
  | .ldbu c => Sys2Proof.Machine.execLdbu c s
  | .ldh c => Sys2Proof.Machine.execLdh c s
  | .ldhu c => Sys2Proof.Machine.execLdhu c s
  | .ldw c => Sys2Proof.Machine.execLdw c s
  | .ldd c => Sys2Proof.Machine.execLdd c s
  | .stb c => Sys2Proof.Machine.execStb c s
  | .sth c => Sys2Proof.Machine.execSth c s
  | .stw c => Sys2Proof.Machine.execStw c s
  | .std c => Sys2Proof.Machine.execStd c s
  | .branch c => Sys2Proof.Machine.execBranch c s
  | .callOp c => Sys2Proof.Machine.execCallOp c s
  | .jalr c => Sys2Proof.Machine.execJalr c s
  | .jr c => Sys2Proof.Machine.execJr c s
  | .rpt c => Sys2Proof.Machine.execRpt c s
  | .trapOp c => Sys2Proof.Machine.execTrapOp c s
  | .breakOp c => Sys2Proof.Machine.execBreakOp c s
  | .pointerAccess c => Sys2Proof.Machine.execPointerAccess c s
  | .extr c => Sys2Proof.Machine.execExtr c s
  | .expb c => Sys2Proof.Machine.execExpb c s
  | .bxc c => Sys2Proof.Machine.execBxc c s
  | .scla c => Sys2Proof.Machine.execScla c s
  | .noneOp c => Sys2Proof.Machine.execNoneOp c s
  | .mac c => Sys2Proof.Machine.execMac c s
  | .msu c => Sys2Proof.Machine.execMsu c s
  | .mpy c => Sys2Proof.Machine.execMpy c s
  | .mac2 c => Sys2Proof.Machine.execMac2 c s
  | .msu2 c => Sys2Proof.Machine.execMsu2 c s
  | .clr c => Sys2Proof.Machine.execClr c s
  | .acca c => Sys2Proof.Machine.execAcca c s
  | .extendedSaveDone c => Sys2Proof.Machine.execExtendedSaveDone c s
  | .extendedRestoreDone c => Sys2Proof.Machine.execExtendedRestoreDone c s
  | .switchRequest c => Sys2Proof.Machine.execSwitchRequest c s
  | .storeResponse c => Sys2Proof.Machine.execStoreResponse c s
  | .registerLoadResponse c => Sys2Proof.Machine.execRegisterLoadResponse c s
  | .crst c => Sys2Proof.Machine.execCrst c s
  | .coreHalt c on => Sys2Proof.Machine.execCoreHalt c on s
  | .coreStep c => Sys2Proof.Machine.execCoreStep c s
  | .evictDone c => Sys2Proof.Machine.execEvictDone c s
  | .reloadDone c => Sys2Proof.Machine.execReloadDone c s
  | .tokenLand ch => Sys2Proof.Machine.execTokenLand ch s
  | .tokenMatch ch => Sys2Proof.Machine.execTokenMatch ch s
  | .selection => Sys2Proof.Machine.execSelection s
  | .disCancel t => Sys2Proof.Machine.execDisCancel t s
  | .threadCfgWrite t r data => Sys2Proof.Machine.execThreadCfgWrite t r data s
  | .disInj data => Sys2Proof.Machine.execDisInj data s
  | .disCoreWrite data => Sys2Proof.Machine.execDisCoreWrite data s
  | .powerOnReset straps banks => Sys2Proof.Machine.execPowerOnReset straps banks s
  | .warmReset straps => Sys2Proof.Machine.execWarmReset straps s
  | .startImage => Sys2Proof.Machine.execStartImage s
  | .newStart => Sys2Proof.Machine.execNewStart s
  | .bootOk p data => Sys2Proof.Machine.execBootOk p data s
  | .bootOkWatchdog => Sys2Proof.Machine.execBootOkWatchdog s
  | .retryStart data => Sys2Proof.Machine.execRetryStart data s
  | .progcust p data => Sys2Proof.Machine.execProgcust p data s
  | .attgo data => Sys2Proof.Machine.execAttgo data s
  | .attestationDone => Sys2Proof.Machine.execAttestationDone s
  | .readcust data => Sys2Proof.Machine.execReadcust data s
  | .attDataRead => Sys2Proof.Machine.execAttDataRead s
  | .certDataRead => Sys2Proof.Machine.execCertDataRead s
  | .beginUpdate => Sys2Proof.Machine.execBeginUpdate s
  | .updateData data => Sys2Proof.Machine.execUpdateData data s
  | .finishUpdate => Sys2Proof.Machine.execFinishUpdate s
  | .verifyDone => Sys2Proof.Machine.execVerifyDone s
  | .abortUpdate => Sys2Proof.Machine.execAbortUpdate s
  | .open1 ch bytes => Sys2Proof.Machine.execOpen1 ch bytes s
  | .open3 ch bytes => Sys2Proof.Machine.execOpen3 ch bytes s
  | .openHoldoffEnd ch => Sys2Proof.Machine.execOpenHoldoffEnd ch s
  | .reqFrame ch bytes => Sys2Proof.Machine.execReqFrame ch bytes s
  | .ibRsp => Sys2Proof.Machine.execIbRsp s
  | .closeFrame ch bytes => Sys2Proof.Machine.execCloseFrame ch bytes s
  | .sessionIdle idx => Sys2Proof.Machine.execSessionIdle idx s
  | .pnlGo => Sys2Proof.Machine.execPnlGo s
  | .fetchDone timeout => Sys2Proof.Machine.execFetchDone timeout s
  | .panelRelease => Sys2Proof.Machine.execPanelRelease s
  | .pnlAbort => Sys2Proof.Machine.execPnlAbort s
  | .scrubStep => Sys2Proof.Machine.execScrubStep s
  | .scrubReload => Sys2Proof.Machine.execScrubReload s
  | .scrubRead c => Sys2Proof.Machine.execScrubRead c s
  | .passGo data => Sys2Proof.Machine.execPassGo data s
  | .passRead => Sys2Proof.Machine.execPassRead s
  | .passAbort => Sys2Proof.Machine.execPassAbort s
  | .trackerClr c idx => Sys2Proof.Machine.execTrackerClr c idx s
  | .faultFlit => Sys2Proof.Machine.execFaultFlit s
  | .fltAck data => Sys2Proof.Machine.execFltAck data s
  | .epochEnd => Sys2Proof.Machine.execEpochEnd s
  | .mspRd tag addr data crc => Sys2Proof.Machine.execMspRd tag addr data crc s
  | .mspWr tag addr data crc => Sys2Proof.Machine.execMspWr tag addr data crc s
  | .lastCmd tag addr data crc => Sys2Proof.Machine.execLastCmd tag addr data crc s
  | .aon tag addr data crc => Sys2Proof.Machine.execAon tag addr data crc s
  | .badcmd cmd tag addr data crc => Sys2Proof.Machine.execBadcmd cmd tag addr data crc s
  | .mspShort bytes => Sys2Proof.Machine.execMspShort bytes s
  | .windowWrite p k data => Sys2Proof.Machine.execWindowWrite p k data s
  | .windowRead p k => Sys2Proof.Machine.execWindowRead p k s
  | .trig => Sys2Proof.Machine.execTrig s
  | .rearm => Sys2Proof.Machine.execRearm s
  | .sketchIn => Sys2Proof.Machine.execSketchIn s
  | .sketchLatch => Sys2Proof.Machine.execSketchLatch s
  | .sketchRecordReady => Sys2Proof.Machine.execSketchRecordReady s
  | .skrecDataRead => Sys2Proof.Machine.execSkrecDataRead s
  | .readbackGo data => Sys2Proof.Machine.execReadbackGo data s
  | .rbDataRead => Sys2Proof.Machine.execRbDataRead s
  | .mgtDbgWrite p data => Sys2Proof.Machine.execMgtDbgWrite p data s
  | .idcode => Sys2Proof.Machine.execIdcode s
  | .samplePreload v => Sys2Proof.Machine.execSamplePreload v s
  | .extest => Sys2Proof.Machine.execExtest s
  | .extestPulse => Sys2Proof.Machine.execExtestPulse s
  | .extestTrain => Sys2Proof.Machine.execExtestTrain s
  | .clamp => Sys2Proof.Machine.execClamp s
  | .highz => Sys2Proof.Machine.execHighz s
  | .mgtacc frame => Sys2Proof.Machine.execMgtacc frame s
  | .rbscan => Sys2Proof.Machine.execRbscan s
  | .bypass => Sys2Proof.Machine.execBypass s
  | .temperatureConversion n temp => Sys2Proof.Machine.execTemperatureConversion n temp s
  | .voltageConversion k mv => Sys2Proof.Machine.execVoltageConversion k mv s
  | .clockLoss => Sys2Proof.Machine.execClockLoss s
  | .clockRecovery => Sys2Proof.Machine.execClockRecovery s
  | .pllUnlock g => Sys2Proof.Machine.execPllUnlock g s
  | .domainRequest d data => Sys2Proof.Machine.execDomainRequest d data s
  | .domainChangeDone => Sys2Proof.Machine.execDomainChangeDone s
  | .domFail => Sys2Proof.Machine.execDomFail s
  | .softwareReset data => Sys2Proof.Machine.execSoftwareReset data s
  | .safeProg p data => Sys2Proof.Machine.execSafeProg p data s
  | .safeProgDone => Sys2Proof.Machine.execSafeProgDone s
  | .interpolator => Sys2Proof.Machine.execInterpolator s
  | .illegal c => Sys2Proof.Machine.execIllegal c s
  | .fetchAddr c => Sys2Proof.Machine.execFetchAddr c s
  | .eraseDone => Sys2Proof.Machine.execEraseDone s
  | .gpInput n level => Sys2Proof.Machine.execGpInput n level s

end Sys2Proof.Machine
end

