-- ==== Sys2Proof/Safety.lean ====
section
/-! DEFINITION. Sys2Proof/Safety.lean: the conditions in which a command is executed normally, and the table of the
conductors' instructions, in the terms the claims use. -/
namespace Sys2Proof.Machine

/-- A run is safe while every step answers a next state. -/
def goesOn (s : State) : Prop := ∃ t, step s = .next t

/-- Accesses reach block `b`: released or always alive, present, and not fenced (R4, R236, R373). -/
abbrev State.opens (s : State) (b : Block) : Prop := s.blockGate b = none

/-- Register writes reach tile `t`: released, its quadrant present and not fenced, its Panel not held (R4, R116, R337). -/
abbrev State.tileOpen (s : State) (t : Nat) : Prop :=
  s.released = true ∧ s.hasQuad (quadOf t) = true ∧ s.domFenced (quadOf t) = false ∧ s.heldOf t = none

/-- Core `c` issues word `w`: it runs, is neither halted nor held by a load, a save or a restore, and fetches `w` at
pc (R263, R269, R288). -/
abbrev State.issues (s : State) (c : Nat) (w : Word) : Prop :=
  s.canIssue c = true ∧ s.coreHalted c = false ∧ s.peekC c (s.cpc c) = some w

/-- The instruction-memory word at pc holds no error, so the fetch changes nothing. -/
abbrev State.cleanFetch (s : State) (c : Nat) : Prop :=
  ((s.core c).imem.get ((s.cpc c).toNat / 4) {}).ecc = .ok

/-- The registers of stack `st` answer: released, the stack present and its domain on (R4, R208). -/
abbrev State.memOpen (s : State) (st : Nat) : Prop :=
  s.opens .mem ∧ s.hasStack st = true ∧ s.regF (Reg.pwrDomctl (8 + st)) 3 2 = 2

/-- Sector `k` holds words that read correctly. -/
abbrev State.soundSect (s : State) (k : Nat) : Prop := s.sect k = .ok ∧ stackOf (32 * k) ∉ s.mem.raw

/-- The 32-bit counter at `a` counts `n` more events in `t` than in `s`, saturating (Table SC-4). -/
def State.counts (s t : State) (a n : Nat) : Prop := (t.reg a).toNat = Nat.min ((s.reg a).toNat + n) 4294967295

/-- The command of the table for each conductor instruction. -/
def condInstr (op : COp) (c : Fin 8) : Instr :=
  match op with
  | .nop => .nopOp c | .done => .doneOp c | .post => .post c | .sync => .sync c | .rtt => .rtt c | .rttn => .rttn c
  | .mfs => .mfs c | .mts => .mts c | .bkrd => .bkrd c | .bkwr => .bkwr c | .savel => .savel c | .saveu => .saveu c
  | .restl => .restl c | .restlj => .restlj c | .restu => .restu c
  | .add => .addOp c | .addc => .addc c | .sub => .subOp c | .subc => .subc c | .adds => .adds c | .subs => .subs c
  | .and => .andOp c | .or => .orOp c | .xor => .xorOp c | .andn => .andn c | .shl => .shl c | .shr => .shr c
  | .sar => .sar c | .rol => .rol c | .shrr => .shrr c | .min => .minOp c | .max => .maxOp c | .minu => .minu c
  | .maxu => .maxu c | .slt => .slt c | .sltu => .sltu c | .seq => .seqOp c | .clz => .clz c | .cls => .cls c
  | .popc => .popc c | .mul => .mulOp c | .mulh => .mulh c | .mulhu => .mulhu c | .div => .divOp c | .divu => .divu c
  | .rem => .rem c | .remu => .remu c
  | .addi => .addi c | .andi => .andi c | .ori => .ori c | .xori => .xori c | .slti => .slti c | .sltiu => .sltiu c
  | .shli => .shli c | .shri => .shri c | .sari => .sari c | .lui => .lui c
  | .ldb => .ldb c | .ldbu => .ldbu c | .ldh => .ldh c | .ldhu => .ldhu c | .ldw => .ldw c | .ldd => .ldd c
  | .stb => .stb c | .sth => .sth c | .stw => .stw c | .std => .std c
  | .b => .branch c | .call => .callOp c | .jalr => .jalr c | .jr => .jr c | .rpt => .rpt c | .trap => .trapOp c
  | .break => .breakOp c | .pointer => .pointerAccess c
  | .extr => .extr c | .expb => .expb c | .bxc => .bxc c | .scla => .scla c | .none => .noneOp c | .mac => .mac c
  | .msu => .msu c | .mpy => .mpy c | .mac2 => .mac2 c | .msu2 => .msu2 c | .clr => .clr c | .acca => .acca c

/-- Core `c` issues `w` as a single instruction, from a sound word of instruction memory and outside an RPT. -/
abbrev State.runsOne (s : State) (c : Nat) (w : Word) : Prop := s.issues c w ∧ s.cleanFetch c ∧ (s.core c).rpt = none

/-- Everything but core `c`, the registers and the Dispatcher is as it was. -/
def State.sameOutside (s t : State) (c : Nat) : Prop :=
  t.eas = s.eas ∧ t.can = s.can ∧ t.pal = s.pal ∧ t.str = s.str ∧ t.mem = s.mem ∧ t.tbl = s.tbl ∧ t.noc = s.noc ∧
    t.shg = s.shg ∧ t.mgt = s.mgt ∧ t.otp = s.otp ∧ t.flash = s.flash ∧ t.sec = s.sec ∧ t.pwr = s.pwr ∧
    ∀ k, k ≠ c → t.core k = s.core k

/-- What one instruction leaves unchanged that writes no memory and no register of the register space: everything but
core `c`, and in it the memories, the extended registers and the inactive banks. -/
def State.plainStep (s t : State) (c : Nat) : Prop :=
  s.sameOutside t c ∧ t.regs = s.regs ∧ t.dis = s.dis ∧ t.int = s.int ∧ t.cnd.cluster = s.cnd.cluster ∧
    (t.core c).xmem = (s.core c).xmem ∧ (t.core c).ymem = (s.core c).ymem ∧ (t.core c).imem = (s.core c).imem ∧
    (t.core c).a0 = (s.core c).a0 ∧ (t.core c).a1 = (s.core c).a1 ∧ (t.core c).p = (s.core c).p ∧
    (t.core c).active = (s.core c).active ∧ ∀ b, b ≠ s.actBank c → t.bank c b = s.bank c b

/-- Core `c`, in a thread bank, takes a trap (R282): the bank waits, b0 runs from the vector, and cause, pc and value
are recorded. -/
def State.trapsTo (s t : State) (c cause : Nat) (tval : Word) : Prop :=
  s.actBank c ≠ 0 → (t.core c).active = some 0 ∧ (t.bank c (s.actBank c)).state = 4 ∧
    (t.bank c 0).pc = word ((s.reg (Reg.cndTvec c)).toNat + 32 * cause) ∧ (t.reg (Reg.cndTcause c)).bits 7 0 = cause ∧
    (t.reg (Reg.cndTcause c)).bits 10 8 = s.actBank c % 8 ∧ t.reg (Reg.cndTpc c) = s.cpc c ∧
    t.reg (Reg.cndTval c) = tval ∧ s.counts t (Reg.cndTraps c) 1

/-- Result, C and V of an ALU instruction on `a` (ra) and `b` (rb), with the carry `cy` (Tables CO-5 and CO-6); none for
other instructions and for a division by 0. -/
def condAlu (op : COp) (w a b : Word) (cy : Bool) : Option AluOut :=
  match op with
  | .add => some (alu 0x01 a b 0#32 cy 0) | .addc => some (alu 0x02 a b 0#32 cy 0)
  | .sub => some (alu 0x03 a b 0#32 cy 0) | .subc => some (alu 0x04 a b 0#32 cy 0)
  | .adds => some (alu 0x05 a b 0#32 cy 0) | .subs => some (alu 0x06 a b 0#32 cy 0)
  | .and => some { r := a &&& b } | .or => some { r := a ||| b } | .xor => some { r := a ^^^ b }
  | .andn => some { r := a &&& ~~~b }
  | .shl => some (alu 0x0B a b 0#32 cy 0) | .shr => some (alu 0x0C a b 0#32 cy 0)
  | .sar => some (alu 0x0D a b 0#32 cy 0) | .rol => some (alu 0x0E a b 0#32 cy 0)
  | .shrr => some { r := wordI (rne a.toInt (b.bits 4 0)) }
  | .min => some { r := if a.toInt ≤ b.toInt then a else b } | .max => some { r := if b.toInt ≤ a.toInt then a else b }
  | .minu => some { r := if a.toNat ≤ b.toNat then a else b } | .maxu => some { r := if b.toNat ≤ a.toNat then a else b }
  | .slt => some { r := if a.toInt < b.toInt then 1#32 else 0#32 }
  | .sltu => some { r := if a.toNat < b.toNat then 1#32 else 0#32 }
  | .seq => some { r := if a = b then 1#32 else 0#32 }
  | .clz => some (alu 0x19 a b 0#32 cy 0) | .cls => some (alu 0x1A a b 0#32 cy 0) | .popc => some (alu 0x1B a b 0#32 cy 0)
  | .mul => some { r := a * b } | .mulh => some { r := wordI (a.toInt * b.toInt / 4294967296) }
  | .mulhu => some { r := word (a.toNat * b.toNat / 4294967296) }
  | .div => if b = 0#32 then none else some (divOut a b) | .divu => if b = 0#32 then none else some (divuOut a b)
  | .rem => if b = 0#32 then none else some (remOut a b) | .remu => if b = 0#32 then none else some (remuOut a b)
  | .addi => some (alu 0x01 a (immS w) 0#32 cy 0) | .andi => some { r := a &&& immU w } | .ori => some { r := a ||| immU w }
  | .xori => some { r := a ^^^ immU w } | .slti => some { r := if a.toInt < (immS w).toInt then 1#32 else 0#32 }
  | .sltiu => some { r := if a.toNat < (immU w).toNat then 1#32 else 0#32 }
  | .shli => some (alu 0x0B a (imm5 w) 0#32 cy 0) | .shri => some (alu 0x0C a (imm5 w) 0#32 cy 0)
  | .sari => some (alu 0x0D a (imm5 w) 0#32 cy 0)
  | _ => none

/-- Two sets of operand fields agree in the fields that the format of `op` holds (Table CO-4). -/
def sameOperands (op : COp) (f g : CFields) : Prop :=
  match op with
  | .nop | .done | .post | .sync | .rtt | .rttn | .mfs | .mts | .bkrd | .bkwr | .savel | .saveu | .restl | .restlj
  | .restu => f.rd = g.rd ∧ f.ra = g.ra ∧ f.n = g.n ∧ f.bk = g.bk
  | .add | .addc | .sub | .subc | .adds | .subs | .and | .or | .xor | .andn | .shl | .shr | .sar | .rol | .shrr | .min
  | .max | .minu | .maxu | .slt | .sltu | .seq | .clz | .cls | .popc | .mul | .mulh | .mulhu | .div | .divu | .rem
  | .remu | .jalr | .jr => f.rd = g.rd ∧ f.ra = g.ra ∧ f.rb = g.rb
  | .addi | .andi | .ori | .xori | .slti | .sltiu | .shli | .shri | .sari | .ldb | .ldbu | .ldh | .ldhu | .ldw | .ldd
  | .stb | .sth | .stw | .std | .trap | .break => f.rd = g.rd ∧ f.ra = g.ra ∧ f.imm18 = g.imm18
  | .lui | .b => f.rd = g.rd ∧ f.imm22 = g.imm22
  | .call => f.disp26 = g.disp26
  | .rpt => f.rd = g.rd ∧ f.ra = g.ra ∧ f.rep = g.rep
  | .pointer => f.rd = g.rd ∧ f.ptr = g.ptr
  | .extr | .expb | .bxc | .scla => f.rd = g.rd ∧ f.ra = g.ra ∧ f.acc = g.acc ∧ f.e = g.e
  | .none | .mac | .msu | .mpy | .mac2 | .msu2 | .clr | .acca => f.dsp = g.dsp

/-- From `s` the block has taken a warm reset with PWR_RSTCAUSE bits `bit` and strapped device ID `straps` (R408, R409):
what Table PW-6 keeps stands, everything else is as at reset. -/
def State.warmTo (s t : State) (bit : Nat) (straps : BitVec 14) : Prop :=
  t.eas = {} ∧ t.can = {} ∧ t.pal = {} ∧ t.str = {} ∧ t.mem = {} ∧ t.tbl = {} ∧ t.noc = {} ∧ t.shg = {} ∧ t.cnd = {} ∧
    t.dis = {} ∧ t.int = {} ∧ t.sec = {} ∧ t.boot.stage = .due ∧ t.boot.wdog = 0 ∧ t.part = s.part ∧ t.otp = s.otp ∧
    t.flash = s.flash ∧ t.cyc = s.cyc ∧ t.pending = s.pending ∧
    (∀ a, a ∉ keptRegs → a ≠ Reg.shgDid → t.reg a = regReset a) ∧
    (∀ a ∈ keptRegs, a ≠ Reg.devWdog → a ≠ Reg.pwrRstcause → t.reg a = s.reg a) ∧
    t.reg Reg.shgDid = straps.setWidth 32 ∧ t.reg Reg.pwrRstcause = s.reg Reg.pwrRstcause ||| word bit

/-- Bits [31:16] of a keyed write hold 0x4B5A and bit `i` is 1. -/
abbrev keyed (d : Word) (i : Nat) : Prop := d.bits 31 16 = 0x4B5A ∧ d.bit i = true

/-- The blocks other than management, security and their counters are as they were. -/
def State.dataSame (s t : State) : Prop :=
  t.eas = s.eas ∧ t.can = s.can ∧ t.pal = s.pal ∧ t.mem = s.mem ∧ t.tbl = s.tbl ∧ t.shg = s.shg ∧ t.cnd = s.cnd ∧
    t.dis = s.dis ∧ t.otp = s.otp ∧ t.flash = s.flash ∧ t.pwr = s.pwr

end Sys2Proof.Machine
end

