-- ==== Sys2Proof/Certificates/Slice0/Obligations.lean ====
section
/-! DEFINITION. Sys2Proof/Certificates/Slice0/Obligations.lean: the statements for the provers, by family of commands. -/
open Sys2Proof Sys2Proof.Machine

/-- A step runs the command at the front. Step of a state with command c at the front of its queue is exec of c on the
state with the rest of the queue; on an empty queue the block idles, which is the model's choice (log 1)
(00_scope.md) -/
def Obligations.StepRunsFront : Prop :=
  (∀ (i : Instr) (rest : List Instr) (s : State),
    step { s with pending := i :: rest } = exec i { s with pending := rest }) ∧
  ∀ s : State, s.pending = [] → step s = .next s

/-- No command stops the block. Every command answers a next state in every state: the block answers every access with a
response and has no trap of its own (R16, R18, R19) -/
def Obligations.NoCommandStops : Prop :=
  ∀ (i : Instr) (s : State), ∃ t, exec i s = .next t

/-- Axis registers and enabling an axis. While accesses reach the Easel, REV_CLR leaves in AXn_REV only the wraps of the
present EKL cycle, ARM_IDX arms the index load, a write of AXn_RATE keeps the value and sets RATE_BUSY, and a read of
AXn_POS_LO answers the low half and latches the high half; each leaves everything else alone. RATE_APPLY replaces STEP
by the value of R59 and clears RATE_BUSY; AXn_VEL of an enabled time axis takes STEP / 2^18 rounded down. A write of
AXn_CFG to a disabled axis that sets EN, and does not move the axis between a local, the time and the remote source,
leaves C, A, d and the position as they are and sets INC to 0 and e to the stall limit, with no interval known; a write
to an enabled axis keeps SRC, QMUL, EDGE and DIR_INV. That AXn_RATE keeps the value as written is the model's reading
(log 22) (R39, R48, R52, R54, R56, R59, R63) -/
def Obligations.AxisCommands : Prop :=
  (∀ (n : Fin 16) (d : Word) (s : State),
    (s.opens .eas →
      exec (.revClr n) s = .next (s.ok.setReg (Reg.axRev n.val) (wordI (s.axis n.val).wraps)) ∧
      exec (.armIdx n) s = .next (s.ok.setAxis n.val { s.axis n.val with idxArmed := true }) ∧
      exec (.axisRateWrite n d) s =
        .next ((s.ok.setReg (Reg.axRate n.val) d).setAxis n.val { s.axis n.val with rateBusy := true }) ∧
      exec (.axisPosLoRead n) s =
        .next (State.ok (s.ok.setAxis n.val { s.axis n.val with posHi := (s.axPos n.val).extractLsb' 32 32 })
          ((s.axPos n.val).extractLsb' 0 32))) ∧
    ((s.axis n.val).rateBusy = true → ∃ t, exec (.rateApply n) s = .next t ∧
      t.axis n.val = { s.axis n.val with
        rateBusy := false
        step := (0xCCCCCCCCCCCC + roundHalfEven
          (0xCCCCCCCCCCCC * clampI (-256000000) 256000000 (s.reg (Reg.axRate n.val)).toInt) 256000000000).toNat } ∧
      (axEn (s.reg (Reg.axCfg n.val)) = true → axSrc (s.reg (Reg.axCfg n.val)) = 4 →
        t.reg (Reg.axVel n.val) = word ((t.axis n.val).step / 2 ^ 18)) ∧
      ∀ a, a ≠ Reg.axVel n.val → t.reg a = s.reg a)) ∧
  ∀ (n : Fin 16) (d : Word) (s : State), s.opens .eas →
    let old := s.reg (Reg.axCfg n.val)
    (axEn old = false → axEn d = true → axSrc old ≤ 3 → axSrc d ≤ 3 →
      ∃ t, exec (.axisCfgWrite n d) s = .next t ∧ (t.axis n.val).c = (s.axis n.val).c ∧
        (t.axis n.val).a = (s.axis n.val).a ∧ (t.axis n.val).neg = (s.axis n.val).neg ∧ (t.axis n.val).inc = 0 ∧
        (t.axis n.val).known = false ∧ (t.axis n.val).e = stallLimit (t.reg (Reg.axCfg n.val)) ∧
        axEn (t.reg (Reg.axCfg n.val)) = true ∧ (∀ k, k ≠ n.val → t.axis k = s.axis k)) ∧
    (axEn old = true → ∃ t, exec (.axisCfgWrite n d) s = .next t ∧
      t.reg (Reg.axCfg n.val) &&& 0x1FE#32 = old &&& 0x1FE#32 ∧ ∀ k, k ≠ n.val → t.axis k = s.axis k)

/-- LOAD and ADD give the position exactly. While accesses reach the Easel, on an axis whose fraction is shown (a time
or remote axis, or a local axis with INTERP = 1), LOAD makes the position equal to SET reduced on a modulo axis, and ADD
makes it the position plus SET, signed, reduced likewise; both set JUMP and keep INC, e and d. LOAD takes back from
AXn_REV the wraps of an edge of the same cycle, which it discards, and counts none of its own. No other axis, and no
register but AXn_STAT and AXn_REV, changes (R54, R55, R56, R57, R422) -/
def Obligations.AxisLoadExact : Prop :=
  ∀ (n : Fin 16) (s : State), s.opens .eas →
    let cfg := s.reg (Reg.axCfg n.val)
    let m := (s.reg (Reg.axMod n.val)).toNat
    (axSrc cfg = 4 ∨ axSrc cfg = 5 ∨ cfg.bit 9 = true) →
    (∃ t, exec (.axisLoad n) s = .next t ∧ t.axPos n.val = reducePos m (s.axSet n.val).toInt ∧
      (t.axis n.val).jump = true ∧ (t.reg (Reg.axStat n.val)).bit 6 = true ∧
      (t.axis n.val).inc = (s.axis n.val).inc ∧ (t.axis n.val).e = (s.axis n.val).e ∧
      (t.axis n.val).neg = (s.axis n.val).neg ∧
      t.reg (Reg.axRev n.val) = wordI ((s.reg (Reg.axRev n.val)).toNat - (s.axis n.val).wraps) ∧
      (∀ a, a ≠ Reg.axStat n.val → a ≠ Reg.axRev n.val → t.reg a = s.reg a) ∧ ∀ k, k ≠ n.val → t.axis k = s.axis k) ∧
    (∃ t, exec (.axisAdd n) s = .next t ∧
      t.axPos n.val = reducePos m
        ((if m = 0 then (s.axPos n.val).toInt else ((s.axPos n.val).toNat : Int)) + (s.axSet n.val).toInt) ∧
      (t.axis n.val).jump = true ∧ (t.reg (Reg.axStat n.val)).bit 6 = true ∧
      (t.axis n.val).inc = (s.axis n.val).inc ∧ (t.axis n.val).e = (s.axis n.val).e ∧
      (t.axis n.val).neg = (s.axis n.val).neg ∧
      (∀ a, a ≠ Reg.axStat n.val → a ≠ Reg.axRev n.val → t.reg a = s.reg a) ∧
      ∀ k, k ≠ n.val → t.axis k = s.axis k)

/-- A counting edge on a pulse-count axis. An accepted rising edge on the input pin of an enabled pulse-count axis (SRC
2, EDGE 0, no filter, no inversion), the only axis enabled and its EKL cycle not yet open: the count moves by one in the
direction of DIR_INV and is reduced, A and e become 0, INC is 2^48 / max(e, 1) rounded down when the interval is known,
the direction the same and e below the stall limit, and 0 otherwise, AXn_INTV takes e, AXn_REV counts the wraps, and
AXn_VEL is due in the cycle after. The cycle an edge opens and the count e are the model's readings (logs 3, 12) (R40,
R46, R48, R51, R57) -/
def Obligations.CountingEdge : Prop :=
  ∀ (n : Fin 16) (p : Fin 64) (s : State),
    let cfg := s.reg (Reg.axCfg n.val)
    let m := (s.reg (Reg.axMod n.val)).toNat
    let x := s.axis n.val
    let c1 := x.c + (if cfg.bit 8 then -1 else 1)
    s.released = true → axEn cfg = true → axSrc cfg = 2 → cfg.bits 7 6 = 0 →
    (∀ k : Fin 16, k ≠ n → axEn (s.reg (Reg.axCfg k.val)) = false) →
    (s.reg (Reg.axPin n.val)).bits 5 0 = p.val → s.reg (Reg.tpCfg p.val) = 0#32 →
    s.eas.level.getLsbD p.val = false → x.lvA = false → x.opened = false →
    ∃ t, exec (.timingPinEdge (BitVec.ofNat 64 (2 ^ p.val)) (BitVec.ofNat 64 (2 ^ p.val)) 1) s = .next t ∧
      (t.axis n.val).c = reduceCount m c1 ∧ (t.axis n.val).a = 0 ∧ (t.axis n.val).e = 0 ∧
      (t.axis n.val).known = true ∧ (t.axis n.val).neg = cfg.bit 8 ∧
      (t.axis n.val).inc =
        (if x.known = true ∧ x.neg = cfg.bit 8 ∧ x.e < stallLimit cfg then 2 ^ 48 / Nat.max x.e 1 else 0) ∧
      t.reg (Reg.axIntv n.val) = word x.e ∧ (t.axis n.val).velDue = true ∧
      t.reg (Reg.axRev n.val) =
        wordI ((s.reg (Reg.axRev n.val)).toNat + (if m = 0 then 0 else c1 / (m : Int))) ∧
      ∀ k : Fin 16, k ≠ n → t.axis k.val = s.axis k.val

/-- A stalled axis and a lost axis. On an enabled local axis AXIS_STALL takes e to the stall limit, lets A advance for
the cycles between, up to its top, forgets the period and sets AXn_VEL to 0, and changes nothing else. On an enabled
remote axis that is not lost yet AXIS_LOST sets LOST, stops the axis, sets AXn_VEL to 0 and sends one AXIS_LOST report
naming AXn_PIN[13:0] (R47, R50, R51, R62) -/
def Obligations.AxisStops : Prop :=
  ∀ (n : Fin 16) (s : State),
    let cfg := s.reg (Reg.axCfg n.val)
    let x := s.axis n.val
    s.released = true → axEn cfg = true →
    (axSrc cfg ≤ 3 → exec (.axisStall n) s =
      .next ((s.setAxis n.val { x with
          e := stallLimit cfg
          a := Nat.min (x.a + (stallLimit cfg - x.e) * x.inc) (2 ^ 48 - 1)
          period := none
          velDue := false }).setReg (Reg.axVel n.val) 0#32)) ∧
    (axSrc cfg = 5 → x.lost = false → exec (.axisLost n) s =
      .next (((s.setAxis n.val { x with lost := true, rmoving := false, rvel := 0 }).setReg
        (Reg.axVel n.val) 0#32).reportAlways 0x0B 0x1100 ((s.reg (Reg.axPin n.val)).bits 13 0)))

/-- One EKL cycle of the axes. INTERPOLATOR in a quiet state counts one EKL cycle, and for every axis whose cycle no
edge or beacon has opened, with no staging READ or SKETCH action in the cycle: a disabled axis keeps its count and
fraction; an enabled local axis whose inputs present the levels it has seen adds one to e and INC to A, each up to its
top; an enabled linear time axis adds STEP to its accumulator, modulo 2^96. The row as the end of one EKL cycle is the
model's reading (log 3) (R48, R50, R59, R60) -/
def Obligations.InterpolatorCycle : Prop :=
  ∀ (n : Fin 16) (s : State), s.quiet = true → s.dis.injWait = [] → s.eas.reads = [] → s.eas.sketch = none →
    (s.axis n.val).opened = false →
    let cfg := s.reg (Reg.axCfg n.val)
    let x := s.axis n.val
    ∃ t, exec .interpolator s = .next t ∧ t.cyc = s.cyc + 1 ∧
      (axEn cfg = false → (t.axis n.val).c = x.c ∧ (t.axis n.val).a = x.a ∧ (t.axis n.val).e = x.e ∧
        (t.axis n.val).acc = x.acc) ∧
      (s.released = true → axEn cfg = true → axSrc cfg ≤ 3 → s.inputsMoved n.val = false →
        (t.axis n.val).c = x.c ∧ (t.axis n.val).e = Nat.min (x.e + 1) (stallLimit cfg) ∧
        (t.axis n.val).a = Nat.min (x.a + x.inc) (2 ^ 48 - 1) ∧ (t.axis n.val).inc = x.inc) ∧
      (s.released = true → axEn cfg = true → axSrc cfg = 4 → s.reg (Reg.axMod n.val) = 0#32 →
        (t.axis n.val).acc = sextN (lowBits (x.acc + x.step) 96) 96)

/-- An entry that is crossed fires. In a released Easel with SCHED_EN = 1, an armed entry that is not fresh, whose words
are sound, of DIR 0, whose axis has now reached its position without a jump, with ACT = TOKEN and RCNT = 0: its ARM is
cleared, EAS_LAST names it, and one token goes to the back of the Easel token FIFO when that has room; when the FIFO is
full the action counts in EAS_DROP. A crossing by a jump with MISS = 0 is skipped: no token, EAS_SKIP counts, ARM is
cleared. The order of the rows of one EKL cycle is the model's (logs 3, 18) (R68, R70, R71, R81) -/
def Obligations.EntryFires : Prop :=
  ∀ (i : Fin 4096) (s : State),
    let e := s.entry i.val
    let m := (s.reg (Reg.axMod e.axis)).toNat
    s.released = true → s.regB Reg.easCtrl 0 = true → e.armed = true → e.notBefore ≤ s.cyc → e.fresh = false →
    s.wordEcc 8 (2 * i.val) = .ok → s.wordEcc 8 (2 * i.val + 1) = .ok →
    e.dir = 0 → e.act = 3 → e.rcnt = 0 → e.qup = false → atOrAbove m (s.axPos e.axis) e.pos = true →
    s.pal.pendT = [] → s.pal.reload = none →
    ((s.axis e.axis).jump = false → s.eas.tokFifo.length < 64 →
      ∃ t, exec (.entryCrossing i) s = .next t ∧ (t.entry i.val).armed = false ∧
        t.reg Reg.easLast = word (i.val + 3 * 4096 + 131072) ∧ t.reg Reg.easSkip = s.reg Reg.easSkip ∧
        t.eas.tokFifo = s.eas.tokFifo ++ [({ tid := e.w3.bits 9 0, slot := e.w3.bits 11 10, val := tokenValue (s.axPos e.axis) i.val 3 false e.w3 } : Token)]) ∧
    ((s.axis e.axis).jump = false → 64 ≤ s.eas.tokFifo.length →
      ∃ t, exec (.entryCrossing i) s = .next t ∧ (t.entry i.val).armed = false ∧ t.eas.tokFifo = s.eas.tokFifo ∧
        (t.reg Reg.easStat).bit 3 = true) ∧
    ((s.axis e.axis).jump = true → e.miss = false →
      ∃ t, exec (.entryCrossing i) s = .next t ∧ (t.entry i.val).armed = false ∧ t.eas.tokFifo = s.eas.tokFifo ∧
        t.reg Reg.easSkip = word (Nat.min ((s.reg Reg.easSkip).toNat + 1) 4294967295))

/-- Pulse end and token sending. A pulse whose time has come leaves the pin at its idle level with no timer running, and
touches no other pin; while the Easel may send (channel 4 holds a credit and the regulator of its NI lets a token go)
and the conductors are not fenced, EASEL_TOKEN_SEND moves the oldest token of the FIFO into that channel and touches no
other channel (R74, R77, R81) -/
def Obligations.EaselOutputs : Prop :=
  (∀ (p : Fin 64) (s : State) (c tap : Nat), (s.pin p.val).pulse = some (c, tap) → c ≤ s.cyc →
    ∃ t, exec (.pulseEnd p) s = .next t ∧ (t.pin p.val).active = false ∧ (t.pin p.val).pulse = none ∧
      ∀ k, k ≠ p.val → t.pin k = s.pin k) ∧
  ∀ (s : State) (k : Token) (r : List Token), s.eas.tokFifo = k :: r → s.maySend 4 = true →
    s.domFenced 10 = false →
    ∃ t, exec .easelTokenSend s = .next t ∧ t.eas = { s.eas with tokFifo := r } ∧
      t.chan 4 = { s.chan 4 with transit := (s.chan 4).transit ++ [k] } ∧ (∀ c, c ≠ 4 → t.chan c = s.chan c) ∧
      t.can = s.can ∧ t.pal = s.pal ∧ t.cnd = s.cnd

/-- Staging operations, side tables, SCHED_EN, SAFE and TPn_CFG. In a released Easel, on an entry that no other staging
operation of the EKL cycle has acted on, WRITE stores the four staging words as the entry, fresh, with ARM kept unless
ACT is 7 and the reserved bit W2[11] zero; READ copies the entry into the staging words and changes no entry; ARM sets
ARM (not for ACT 7) and makes the entry fresh; DISARM clears ARM. Entries other than IDX do not change. A write of the
_HI half of a pair applies it with the latched _LO half; SCHED_EN takes its value and, when it is newly set, every armed
entry is fresh; SAFE takes its value and touches nothing else; a pin that becomes an output starts idle with no pulse
running (R67, R69, R74, R78, R86, R87, R427) -/
def Obligations.StagingAndTables : Prop :=
  (∀ (k : Fin 8) (i : Fin 4096) (s : State), s.released = true → (∀ r ∈ s.eas.staged, r.idx ≠ i.val) →
    let w (j : Nat) : Word := s.reg (Reg.easSw k.val j)
    (∃ t, exec (.stageWrite k i) s = .next t ∧ (t.entry i.val).w0 = w 0 ∧ (t.entry i.val).w1 = w 1 ∧
      (t.entry i.val).w3 = w 3 ∧ (t.entry i.val).fresh = true ∧
      (t.entry i.val).w2 &&& 0xFFFFFF7F#32 = w 2 &&& 0xFFFFF77F#32 ∧
      ((t.entry i.val).armed = true ↔ ((w 2).bit 7 = true ∧ (w 2).bits 6 4 ≠ 7)) ∧
      ∀ j, j ≠ i.val → t.entry j = s.entry j) ∧
    (∃ t, exec (.stageRead k i) s = .next t ∧ t.reg (Reg.easSw k.val 0) = (s.entry i.val).w0 ∧
      t.reg (Reg.easSw k.val 1) = (s.entry i.val).w1 ∧ t.reg (Reg.easSw k.val 2) = (s.entry i.val).w2 ∧
      t.reg (Reg.easSw k.val 3) = (s.entry i.val).w3 ∧ t.eas.entries = s.eas.entries) ∧
    (∃ t, exec (.stageArm k i) s = .next t ∧ (t.entry i.val).fresh = true ∧
      ((t.entry i.val).armed = true ↔ (s.entry i.val).act ≠ 7) ∧ ∀ j, j ≠ i.val → t.entry j = s.entry j) ∧
    (∃ t, exec (.stageDisarm k i) s = .next t ∧ (t.entry i.val).armed = false ∧
      ∀ j, j ≠ i.val → t.entry j = s.entry j)) ∧
  ∀ (j : Fin 64) (i : Fin 512) (p : Fin 64) (d : Word) (b : Bool) (s : State), s.released = true →
    (∃ t, exec (.rstepHiWrite j d) s = .next t ∧ t.eas.rstep.get j.val 0#64 = BitVec.append d s.eas.pairLatch ∧
      t.regs = s.regs) ∧
    (∃ t, exec (.pcmdHiWrite i d) s = .next t ∧ t.eas.pcmd.get i.val 0#64 = BitVec.append d s.eas.pairLatch ∧
      t.regs = s.regs) ∧
    (∃ t, exec (.schedEnWrite b) s = .next t ∧ t.regB Reg.easCtrl 0 = b ∧
      (b = true → s.regB Reg.easCtrl 0 = false → ∀ q ∈ t.eas.entries, q.2.armed = true → q.2.fresh = true)) ∧
    exec (.safeWrite b) s =
      .next (s.ok.setReg Reg.easCtrl (putBits (s.reg Reg.easCtrl) 1 1 (if b then 1 else 0))) ∧
    (d.bit 0 = true → s.regB (Reg.tpCfg p.val) 0 = false → ∃ t, exec (.tpCfgWrite p d) s = .next t ∧
      (t.pin p.val).active = false ∧ (t.pin p.val).pulse = none ∧ ∀ k, k ≠ p.val → t.pin k = s.pin k)

/-- Sums and differences of the ALU. ADD, ADDC, SUB and SUBC give the sum or difference modulo 2^32 with carry out (for
SUB: A at or above B unsigned) in C and signed overflow in V; ADDS and SUBS give the result clamped to the signed range
with V when it was clamped; ABSD, MIN, MAX, MINU, MAXU and the comparisons give their values with C = V = 0 (R100, Table
CT-8) -/
def Obligations.AluArithmetic : Prop :=
  ∀ (a b x : Word) (cs : Bool) (w : Nat),
    let k : Int := if cs then 1 else 0
    let clamp (i : Int) : Int := max (-2147483648) (min 2147483647 i)
    (alu 0x01 a b x cs w).r = a + b ∧ ((alu 0x01 a b x cs w).c = true ↔ 4294967296 ≤ a.toNat + b.toNat) ∧
    ((alu 0x01 a b x cs w).v = true ↔ (a + b).toInt ≠ a.toInt + b.toInt) ∧
    (alu 0x02 a b x cs w).r.toInt = (a.toInt + b.toInt + k).bmod 4294967296 ∧
    ((alu 0x02 a b x cs w).c = true ↔ 4294967296 ≤ a.toNat + b.toNat + k.toNat) ∧
    (alu 0x03 a b x cs w).r = a - b ∧ ((alu 0x03 a b x cs w).c = true ↔ b.toNat ≤ a.toNat) ∧
    ((alu 0x03 a b x cs w).v = true ↔ (a - b).toInt ≠ a.toInt - b.toInt) ∧
    (alu 0x04 a b x cs w).r = a + ~~~b + (if cs then 1#32 else 0#32) ∧
    (alu 0x05 a b x cs w).r.toInt = clamp (a.toInt + b.toInt) ∧
    ((alu 0x05 a b x cs w).v = true ↔ clamp (a.toInt + b.toInt) ≠ a.toInt + b.toInt) ∧
    (alu 0x06 a b x cs w).r.toInt = clamp (a.toInt - b.toInt) ∧
    ((alu 0x06 a b x cs w).v = true ↔ clamp (a.toInt - b.toInt) ≠ a.toInt - b.toInt) ∧
    alu 0x0F a b x cs w = { r := if a.slt b then a else b } ∧ alu 0x10 a b x cs w = { r := if a.slt b then b else a } ∧
    alu 0x11 a b x cs w = { r := if a < b then a else b } ∧ alu 0x12 a b x cs w = { r := if a < b then b else a } ∧
    ((alu 0x13 a b x cs w).r.toNat : Int) = |a.toInt - b.toInt| ∧
    alu 0x14 a b x cs w = { r := if a.slt b then 1#32 else 0#32 } ∧
    alu 0x15 a b x cs w = { r := if a < b then 1#32 else 0#32 } ∧
    alu 0x16 a b x cs w = { r := if a = b then 1#32 else 0#32 }

/-- Logic, shifts and fields of the ALU. With n = B[4:0]: the logic operations; SHL, SHR and SAR with the last bit
shifted out in C; ROL; SEL; CLAMP with V when A lay outside; CLZ; BFX; PACK; and codes 0x23 to 0xFF as PASS (R100, Table
CT-8) -/
def Obligations.AluBits : Prop :=
  ∀ (a b x : Word) (cs : Bool) (w : Nat),
    let n := (b &&& 31#32).toNat
    alu 0x00 a b x cs w = { r := a } ∧ (∀ k, 0x23 ≤ k → k ≤ 0xFF → alu k a b x cs w = { r := a }) ∧
    alu 0x07 a b x cs w = { r := a &&& b } ∧ alu 0x08 a b x cs w = { r := a ||| b } ∧
    alu 0x09 a b x cs w = { r := a ^^^ b } ∧ alu 0x0A a b x cs w = { r := a &&& ~~~b } ∧
    alu 0x0B a b x cs w = { r := a <<< n, c := if n = 0 then false else a.getLsbD (32 - n) } ∧
    alu 0x0C a b x cs w = { r := a >>> n, c := if n = 0 then false else a.getLsbD (n - 1) } ∧
    alu 0x0D a b x cs w = { r := a.sshiftRight n, c := if n = 0 then false else a.getLsbD (n - 1) } ∧
    alu 0x0E a b x cs w = { r := a.rotateLeft n } ∧ alu 0x17 a b x cs w = { r := if x = 0#32 then b else a } ∧
    (b.sle x = true → ((alu 0x18 a b x cs w).r.toInt = max b.toInt (min x.toInt a.toInt) ∧
      ((alu 0x18 a b x cs w).v = true ↔ (a.toInt < b.toInt ∨ x.toInt < a.toInt)))) ∧
    (∀ i, i < 32 → a.getLsbD i = true → (∀ j, i < j → j < 32 → a.getLsbD j = false) →
      (alu 0x19 a b x cs w).r = word (31 - i)) ∧
    (a = 0#32 → (alu 0x19 a b x cs w).r = 32#32) ∧
    (w < 32 → ∀ i, (alu 0x1C a b x cs w).r.getLsbD i = (decide (i ≤ w) && a.getLsbD (n + i))) ∧
    (alu 0x1E a b x cs w).r = BitVec.append (a.extractLsb' 0 16) (b.extractLsb' 0 16)

/-- A normal firing. A tile that runs, with a word that is no marker at the head of every required input and the credits
it needs, fires: with no poison in an operand that the ALU operation reads, PREV takes R, Z and N follow R, C and V are
those of Table CT-8 and Cs takes C unless KEEPC; a poisoned firing keeps all of them. STEP becomes 0 in a LAST firing
and advances by one otherwise (R93, R95, R100, R103, R105) -/
def Obligations.FiringResult : Prop :=
  ∀ (T : Fin 4096) (s : State),
    let x := s.tile T.val
    let c := x.act
    let f : FireIn := { t := T.val, x := x, c := c, heads := (List.range 16).map (fun i =>
      if Ctx.fireIn c i then s.inHead T.val i else none), ovf := s.regB (Reg.tileStat T.val) 8 }
    let zv : Val := { w := 0#32 }
    let m0 := (s.portRead f 0 zv).1
    let m1 := ((s.portRead f 0 zv).2.portRead f 1 m0).1
    let o (k : Nat) : Val := f.operand m0 m1 k
    let rd := aluReads (Ctx.aluOp c)
    let psn := (rd.1 && (o 0).p) || (rd.2.1 && (o 1).p) || (rd.2.2 && (o 2).p)
    let out := alu (Ctx.aluOp c) (o 0).w (o 1).w (o 2).w x.cs (Ctx.aluW c)
    let last := x.step == Ctx.period c ||
      (Ctx.endOnLast c && (List.range 16).any (fun i => (f.head i).tag == some 1))
    s.tileRuns T.val = true → (∀ i ∈ reqInputs c, ∃ w, s.inHead T.val i = some w ∧ w.tag ≠ 2) →
    s.creditOk T.val c = true →
    ∃ t, exec (.firing T) s = .next t ∧
      (t.tile T.val).step = (if last then 0 else x.step + 1) ∧
      (psn = false → (t.tile T.val).prev = out.r ∧ (t.tile T.val).z = (out.r == 0#32) ∧
        (t.tile T.val).n = out.r.bit 31 ∧ (t.tile T.val).c = out.c ∧ (t.tile T.val).v = out.v ∧
        (t.tile T.val).cs = (if Ctx.keepC c then x.cs else out.c)) ∧
      (psn = true → (t.tile T.val).prev = x.prev ∧ (t.tile T.val).z = x.z ∧ (t.tile T.val).n = x.n ∧
        (t.tile T.val).c = x.c ∧ (t.tile T.val).v = x.v ∧ (t.tile T.val).cs = x.cs)

/-- A marker firing under ABSORB. A running tile whose required inputs (at least one) all hold markers, with the ABSORB
policy, no token on markers, no armed Palette command and no local switch rule, consumes one word at every required
input and sets STEP to 0; its context, PREV, registers, accumulator, generators and memory stay, and so does every other
tile (R107, R108, R168) -/
def Obligations.MarkerAbsorbed : Prop :=
  ∀ (T : Fin 4096) (s : State),
    let x := s.tile T.val
    let c := x.act
    s.tileRuns T.val = true → reqInputs c ≠ [] → (∀ i ∈ reqInputs c, ∃ w, s.inHead T.val i = some w ∧ w.tag = 2) →
    Ctx.absorb c = true → Ctx.tokOnMark c = false → x.arm = none → Ctx.lswEn c = false →
    ∃ t, exec (.markerFiring T) s = .next t ∧ (t.tile T.val).step = 0 ∧
      (∀ i ∈ reqInputs c, (t.tile T.val).inp.get i [] = (x.inp.get i []).drop 1) ∧
      (∀ i, i ∉ reqInputs c → (t.tile T.val).inp.get i [] = x.inp.get i []) ∧
      (t.tile T.val).act = x.act ∧ (t.tile T.val).slot = x.slot ∧ (t.tile T.val).prev = x.prev ∧
      (t.tile T.val).t = x.t ∧ (t.tile T.val).acc = x.acc ∧ (t.tile T.val).ag = x.ag ∧ (t.tile T.val).mem = x.mem ∧
      ∀ u, u ≠ T.val → t.tile u = s.tile u

/-- Register commands of a tile. While writes reach tile T: PBX_CLOSE in cycle f, with nothing else waiting to act on
the block exponent of its Panel, ends the block as R140 says at the end of cycle f + 2, and no tile changes; a write of
AGn_CFG stages BASE and LEN and sets OFF at once; APPLY makes a pending geometry live and sets the pointer to 0; HOLD
takes its value in TILE_CTRL, keeping CNT_FREEZE; FIRE_ONE under HOLD allows one firing; a write of TILE_ACCHI sets
ACC[63:32], keeps ACC[31:0], and clears the hold, the poison and TILE_MSTEP (R115, R116, R136, R140) -/
def Obligations.TileRegisterCommands : Prop :=
  ∀ (T : Fin 4096) (k : Fin 4) (d : Word) (on : Bool) (s : State), s.tileOpen T.val →
    let x := s.tile T.val
    let g := x.gen k.val
    let b := s.pbxOf (panelOf T.val)
    (b.ev = [] → ∃ t, exec (.pbxClose T) s = .next t ∧ t.can.tiles = s.can.tiles ∧ t.regs = s.regs ∧
      ({ t with cyc := s.cyc + 3 } : State).pbxOf (panelOf T.val) = { b with
        held := b.live, none_ := !b.any, live := 31, shift := b.target - b.live,
        exp := Nat.min (b.exp + (b.target - b.live)) 255, any := false }) ∧
    exec (.agCfgWrite T k d) s = .next (s.ok.setTile T.val (x.setGen k.val { g with
      sbase := d.bits 9 0, slen := d.bits 19 10, off := sextN (d.bits 30 20) 11,
      pend := d.bits 9 0 != g.base || d.bits 19 10 != g.len })) ∧
    exec (.applyStg T k) s = .next (s.ok.setTile T.val (x.setGen k.val { g with
      base := if g.pend then g.sbase else g.base, len := if g.pend then g.slen else g.len, pend := false, ptr := 0 })) ∧
    (∃ t, exec (.tileHold T on) s = .next t ∧ t.regB (Reg.tileCtrl T.val) 0 = on ∧
      t.regB (Reg.tileCtrl T.val) 2 = s.regB (Reg.tileCtrl T.val) 2 ∧
      ∀ a, a ≠ Reg.tileCtrl T.val → t.reg a = s.reg a) ∧
    (s.regB (Reg.tileCtrl T.val) 0 = true → ∃ t, exec (.fireOne T) s = .next t ∧ (t.tile T.val).fireOne = true ∧
      t.regB (Reg.tileCtrl T.val) 0 = true ∧ ∀ u, u ≠ T.val → t.tile u = s.tile u) ∧
    ∃ t, exec (.acchiWrite T d) s = .next t ∧
      (t.tile T.val).acc = d.toInt * 4294967296 + ((lowBits x.acc 32 : Nat) : Int) ∧
      (t.tile T.val).accPoison = false ∧ (t.tile T.val).sat = false ∧ (t.tile T.val).mstep = 0 ∧
      (t.tile T.val).t = x.t ∧ t.regs = s.regs ∧ ∀ u, u ≠ T.val → t.tile u = s.tile u

/-- Stalls, write-back, the token path and the joints. When a required input of a running tile is empty, FIRING changes
nothing but TILE_STALL_IN, which counts one unless the tile is on HOLD or its counters are frozen, and the stall that
the probe lines may show. WRITE_BACK, and FORCED_WRITE_BACK of a tile that would not fire, store the oldest corrected
word as sound and change no other word; FORCED_WRITE_BACK of a tile that would fire, with no marker at a head, also
counts TILE_STALL_MEM. The path of a quadrant takes the token of the next tile when channel q may send and the
conductors are not fenced. JOINT_PASS changes nothing while the joint into the segment is empty. That a row whose event
cannot happen leaves the state is the model's choice (log 4) (R93, R109, R111, R124, Table CT-12) -/
def Obligations.TileBackground : Prop :=
  (∀ (T : Fin 4096) (s : State), s.tileRuns T.val = true →
    (∃ i ∈ reqInputs (s.tile T.val).act, s.inHead T.val i = none) →
    exec (.firing T) s = .next (if s.regB (Reg.tileCtrl T.val) 0 then s
      else if s.regB (Reg.tileCtrl T.val) 2 then s.probeBit T.val 2
      else (s.probeBit T.val 2).bump (Reg.tileStallIn T.val) 1)) ∧
  (∀ (T : Fin 4096) (s : State) (a : Nat) (r : List Nat), (s.tile T.val).wback = a :: r →
    let x := s.tile T.val
    let t := s.setTile T.val { x with mem := x.mem.set a { data := (x.mem.get a {}).data } {}, wback := r }
    exec (.writeBack T) s = .next t ∧
    (s.tileRuns T.val = false → exec (.forcedWriteBack T) s = .next t) ∧
    (s.tileRuns T.val = true → (∀ i ∈ reqInputs x.act, ∃ w, s.inHead T.val i = some w ∧ w.tag ≠ 2) →
      s.creditOk T.val x.act = true → s.regB (Reg.tileCtrl T.val) 0 = false → s.regB (Reg.tileCtrl T.val) 2 = false →
      exec (.forcedWriteBack T) s = .next ((t.probeBit T.val 2).bump (Reg.tileStallMem T.val) 1))) ∧
  (∀ (q : Fin 4) (s : State) (T : Nat) (ts : List Nat) (k : Token),
    s.released = true → s.hasQuad q.val = true → s.domOn q.val = true → s.maySend q.val = true →
    s.domFenced 10 = false → s.tokenTiles q.val (s.can.tokLast.get q.val 4096) = T :: ts →
    (s.tile T).tok = some k → (s.tile T).ovfTok = none →
    ∃ t, exec (.tokenPathAccept q) s = .next t ∧ (t.tile T).tok = none ∧
      t.chan q.val = { s.chan q.val with transit := (s.chan q.val).transit ++ [k] } ∧
      ∀ u, u ≠ T → t.tile u = s.tile u) ∧
  ∀ (T : Fin 4096) (j : Fin 8) (s : State) (p : Nat), prevPos j.val (segPos T.val j.val) = some p →
    (s.can.joints.get (jointKey j.val (segLine T.val j.val) p) [] = [] → exec (.jointPass T j) s = .next s) ∧
    (∀ (w : ChWord) (r : List ChWord),
      s.can.joints.get (jointKey j.val (segLine T.val j.val) p) [] = w :: r → s.released = true →
      segTile j.val (segLine T.val j.val) (segPos T.val j.val) (entryIdx j.val) = T.val → s.drive T.val j.val = 1 →
      s.hasQuad (quadOf T.val) = true → s.domOn (quadOf T.val) = true →
      quadOf (segTile j.val (segLine T.val j.val) p 0) = quadOf T.val →
      s.segCredit j.val (segLine T.val j.val) (segPos T.val j.val) = true →
      exec (.jointPass T j) s = .next (State.driveLane
        { s with can.joints := s.can.joints.set (jointKey j.val (segLine T.val j.val) p) r [] } T.val j.val w))

/-- Context slots as registers. While writes reach tile T and its slot is not locked: a write of an even word with
nothing latched is latched and stores nothing; a write of the odd word of the same pair then stores both halves,
reserved bits zero, as one sound word (without an injection). A locked slot refuses either write with an error response,
PAL_WREFUSE and PAL_STAT.WREFUSE, and stores nothing. A read of a sound word answers its half and changes nothing else
(R153, R154, R155, R174) -/
def Obligations.ContextRegisters : Prop :=
  ∀ (T : Fin 4096) (sl v : Fin 8) (w : Fin 16) (h d : Word) (s : State), s.tileOpen T.val →
    let x := s.tile T.val
    (s.slotLocked T.val sl.val = false → x.ctxLatch = none →
      exec (.ctxEvenWrite T sl v h) s = .next (s.ok.setTile T.val { x with ctxLatch := some (sl.val, v.val, h) })) ∧
    (s.slotLocked T.val sl.val = false → x.ctxLatch = some (sl.val, v.val, h) → s.regB (Reg.tileCxinj T.val) 8 = false →
      ∃ t, exec (.ctxOddWrite T sl v d) s = .next t ∧ (t.tile T.val).ctxLatch = none ∧
        (t.tile T.val).ctxCell sl.val v.val =
          { data := BitVec.append (d &&& ctxMask (2 * v.val + 1)) (h &&& ctxMask (2 * v.val)) } ∧
        (t.tile T.val).act = x.act ∧ t.regs = s.regs ∧ ∀ u, u ≠ T.val → t.tile u = s.tile u) ∧
    (s.slotLocked T.val sl.val = true → ∃ t, exec (.ctxEvenWrite T sl v h) s = .next t ∧
      exec (.ctxOddWrite T sl v h) s = .next t ∧ t.resp = { status := 1, data := 0#32 } ∧ t.can = s.can ∧
      (t.reg Reg.palStat).bit 4 = true) ∧
    ((x.ctxCell sl.val (w.val / 2)).ecc = .ok → exec (.ctxRead T sl w) s = .next (s.ok
      (if w.val % 2 = 1 then (x.ctxCell sl.val (w.val / 2)).data.extractLsb' 32 32
       else (x.ctxCell sl.val (w.val / 2)).data.extractLsb' 0 32)))

/-- Palette registers. While accesses reach the Palette: a write of PAL_CMD_HI puts the pair at the back of the
register-command queue of 8, with an OK response; PAL_PEND_CLR empties the named entries of the pending table and no
other; a write of PAL_GROUPg_HI applies both halves of the group, also to a command of the group delivered in the same
cycle, whose first tree cycle is to come. REGISTER_COMMAND_DELIVERY in a released device, in a cycle that has delivered
none, with no write waiting, takes the oldest command off the queue and delivers it; in a cycle that has delivered one
it changes nothing. That a row whose event cannot happen changes nothing is the model's choice (log 4) (R163, R164,
R167, R176, R427) -/
def Obligations.PaletteRegisters : Prop :=
  ∀ (d : Word) (m : BitVec 16) (g : Fin 16) (s : State),
    (s.opens .pal → s.released = true →
      (s.pal.queue.length < 8 → ∃ t, exec (.palCmdHiWrite d) s = .next t ∧
        t.pal.queue = s.pal.queue ++ [BitVec.append d s.pal.cmdLatch] ∧ t.resp = { status := 0, data := 0#32 } ∧
        t.pal.tree = s.pal.tree ∧ ∀ a, a ≠ Reg.palCmdHi → t.reg a = s.reg a) ∧
      (∃ t, exec (.palPendClr m) s = .next t ∧ (∀ i : Fin 16, t.pal.pendT.get i.val none =
        if m.getLsbD i.val then none else s.pal.pendT.get i.val none) ∧ t.regs = s.regs ∧ t.pal.tree = s.pal.tree) ∧
      (∃ t, exec (.palGroupHiWrite g d) s = .next t ∧
        t.pal.groups = s.pal.groups.set g.val (BitVec.append d s.pal.groupLatch) 0#64 ∧
        (∀ (j : Nat) (x : TreeCmd), s.pal.tree[j]? = some x → t.pal.tree[j]? = some
          (if x.k = s.cyc ∧ cmdSel x.cmd % 16 = g.val then { x with grp := BitVec.append d s.pal.groupLatch } else x)) ∧
        t.regs = s.regs ∧ t.can = s.can)) ∧
    (s.pal.lastDel = some s.cyc → s.quiet = true → exec .registerCommandDelivery s = .next s) ∧
    (s.released = true → s.quiet = true → s.pal.waiting = [] → s.pal.lastDel ≠ some s.cyc →
      ∀ (c : BitVec 64) (r : List (BitVec 64)), s.pal.queue = c :: r →
        ∃ t, exec .registerCommandDelivery s = .next t ∧ t.pal.queue = r ∧ t.regs = s.regs ∧
          (cmdV c = true → ∃ l, t.pal.tree =
            l ++ [(⟨s.cyc, 8192, c, s.pal.groups.get (cmdSel c % 16) 0#64, false, false⟩ : TreeCmd)]) ∧
          (cmdV c = false → t.pal.tree = s.pal.tree))

/-- Commands in the Palette tree. With one command x in the tree, not yet acted on, valid, with no completion token: an
EVENT command enters the lowest free entry of the pending table; IMMEDIATE, MARKER and CANCEL with the scope of one tile
T, in a quadrant that is present, powered and not fenced and a Panel that is not held, act in that tile alone and count
in PAL_ISSUED: a MARKER command arms it, a CANCEL command clears its arm, and an IMMEDIATE command makes the named slot
its active slot when the Panel has not locked that slot. A SCOPE of 5 to 7 is dropped: PAL_DROP counts, DROP_RSVD is set
and no tile changes (R163, R165, R166, R167, R174) -/
def Obligations.PaletteCommands : Prop :=
  ∀ (x : TreeCmd) (T : Fin 4096) (s : State), s.pal.tree = [x] → x.done = false → x.rel = false →
    cmdDoneEn x.cmd = false →
    (5 ≤ cmdScope x.cmd → x.cond = 0 → ∃ t, exec .immediateCmd s = .next t ∧ t.can = s.can ∧
      (t.reg Reg.palStat).bit 2 = true ∧ t.pal.tree = [{ x with done := true }]) ∧
    (cmdScope x.cmd < 5 → x.cond = 1 → ∀ i : Fin 16, s.pal.pendT.get i.val none = none →
      (∀ j, j < i.val → (s.pal.pendT.get j none).isSome = true) →
      ∃ t, exec .eventCmd s = .next t ∧ t.pal.pendT.get i.val none = some { cmd := x.cmd, k := x.k } ∧ t.can = s.can ∧
        t.regs = s.regs) ∧
    (cmdScope x.cmd = 0 → cmdSel x.cmd % 4096 = T.val → s.quadOpen (quadOf T.val) = true → s.heldOf T.val = none →
      (x.cond = 0 → s.regB (Reg.palSlock (panelOf T.val)) (cmdSlot x.cmd) = false →
        ∃ t, exec .immediateCmd s = .next t ∧ (t.tile T.val).slot = cmdSlot x.cmd ∧ (t.tile T.val).step = 0 ∧
          (∀ u, u ≠ T.val → t.tile u = s.tile u) ∧
          t.reg Reg.palIssued = word (Nat.min ((s.reg Reg.palIssued).toNat + 1) 4294967295)) ∧
      (x.cond = 2 → (s.tile T.val).arm = none → s.pal.tracked = [] →
        ∃ t, exec .markerCmd s = .next t ∧
          (∃ a, (t.tile T.val).arm = some a ∧ a.slot = cmdSlot x.cmd ∧ a.mcode = cmdF x.cmd 47 40) ∧
          (t.tile T.val).act = (s.tile T.val).act ∧ ∀ u, u ≠ T.val → t.tile u = s.tile u) ∧
      (x.cond = 3 → s.pal.tracked = [] →
        ∃ t, exec .cancelCmd s = .next t ∧ (t.tile T.val).arm = none ∧ (t.tile T.val).act = (s.tile T.val).act ∧
          ∀ u, u ≠ T.val → t.tile u = s.tile u))

/-- The stages of a Panel reload. While accesses reach the Palette: PNL_GO with the engine free, no Panel pending, the
Panel's quadrant open and a legal source starts FETCH for the Panel of PAL_PNL_CTRL; PNL_ABORT during FETCH or WAIT ends
it as FAILED with RESULT ABORTED. FETCH_DONE from a source that is ready and sound, with a sound buffer: without a
timeout and with no driver conflict in the image, the reload holds the image and its digest and waits for its schedule
entry with ATEV = 1, and else its Panel is held with the border of PAL_PNL_CTRL; with a timeout it ends as FAILED with
RESULT TIMEOUT. PANEL_RELEASE in the HOLD stage ends it as DONE: no reload is left, the Panel is not held, its staged
source is recorded and the reload count of the attestation advances. Digests are uninterpreted (log 9) (R333, R334,
R335, R336, R337) -/
def Obligations.PanelReload : Prop :=
  ∀ (s : State) (r : Reload),
    (s.opens .pal → s.released = true → s.engineFree = true → s.pal.pendP = 0#64 →
      s.quadOpen (quadOfPanel ((s.reg Reg.palPnlCtrl).bits 5 0)) = true →
      s.sourceOk ((s.reg Reg.palPnlCtrl).bits 5 0)
        (s.regF Reg.palPnlSrcHi 15 0 * 4294967296 + (s.reg Reg.palPnlSrcLo).toNat)
        ((s.reg Reg.palPnlCtrl).bit 7) = true →
      ∃ t, exec .pnlGo s = .next t ∧ t.pnlState = 1 ∧ t.can = s.can ∧
        ∃ q, t.pal.reload = some q ∧ q.panel = (s.reg Reg.palPnlCtrl).bits 5 0) ∧
    (s.opens .pal → s.pal.reload = some r → s.pnlState = 1 ∨ s.pnlState = 2 → r.tok.bit 12 = false → r.panel < 64 →
      ∃ t, exec .pnlAbort s = .next t ∧ t.pal.reload = none ∧ t.pnlState = 5 ∧ t.regF Reg.palPnlStat 7 4 = 4 ∧
        t.can = s.can) ∧
    (s.pal.reload = some r → s.pnlState = 1 → r.src = .none → s.sourceReady r.addr 40960 = true →
      (s.copySource r.addr 10240).2.1 = false → (s.copySource r.addr 10240).2.2.bufferRead.1 = false →
      r.tok.bit 12 = false → r.panel < 64 →
      ∃ t, exec (.fetchDone true) s = .next t ∧ t.pal.reload = none ∧ t.regF Reg.palPnlStat 2 0 = 5 ∧
        t.regF Reg.palPnlStat 7 4 = 6) ∧
    (s.pal.reload = some r → s.pnlState = 1 → r.src = .none → s.sourceReady r.addr 40960 = true →
      (s.copySource r.addr 10240).2.1 = false → (s.copySource r.addr 10240).2.2.sourceReady r.addr 40960 = true →
      (s.copySource r.addr 10240).2.2.bufferRead.1 = false → r.panel < 64 →
      let img := (s.copySource r.addr 10240).1
      let b := Reload.bytes { r with image := img }
      driverConflict (imgCtx b) = false →
      ∃ t q, exec (.fetchDone false) s = .next t ∧ t.pnlState = (if r.atev then 2 else 3) ∧ t.pal.reload = some q ∧
        q.panel = r.panel ∧ q.image = img ∧ q.digest = Config.sm3 b ∧
        (r.atev = false → t.pal.heldP.get r.panel none = some r.discard)) ∧
    (s.quiet = true → s.pal.reload = some r → s.pnlState = 3 → r.panel < 64 → r.tok.bit 12 = false →
      ∃ t, exec .panelRelease s = .next t ∧ t.pal.reload = none ∧ t.pnlState = 4 ∧
        t.pal.heldP.get r.panel none = none ∧ t.sec.reloads = s.sec.reloads + 1 ∧
        t.pal.srcs.get r.panel .none = (if r.scrub then r.src else .staged r.addr r.digest))

/-- Configuration scrubbing. With scrubbing on in a released device, a scrub step of a Panel that is not the last of its
lap, all of whose context words are sound and agree with the applied copies, goes on to the next Panel and changes
nothing else; a step with every Panel above the last one skipped ends the lap: the next step begins at Panel 0. A scrub
reload serves the lowest pending Panel: with a staged source it starts FETCH for it, marked as a scrub (R345, R347) -/
def Obligations.ConfigScrub : Prop :=
  (∀ s : State, s.released = true → s.regB Reg.ldrScrCtrl 0 = true →
    (∀ p, p < 64 → s.pal.scrNext ≤ p → s.scrubSkips p = true) →
    ∃ t, exec .scrubStep s = .next t ∧ t.pal.scrNext = 0 ∧ t.pal.lapStart = s.cyc ∧ t.can = s.can) ∧
  (∀ (p : Fin 64) (s : State), s.released = true → s.regB Reg.ldrScrCtrl 0 = true →
    s.scrubPanel s.pal.scrNext = some p.val → (s.scrubPanel (p.val + 1)).isSome = true →
    (∀ l sl v, l < 64 → sl < 8 → v < 8 →
      ((s.tile (tileAt p.val l)).ctxCell sl v).ecc = .ok ∧
      ((s.tile (tileAt p.val l)).slot = sl → (s.tile (tileAt p.val l)).stale = false →
        (s.tile (tileAt p.val l)).ctxUe = false →
        ((s.tile (tileAt p.val l)).ctxCell sl v).data = (s.tile (tileAt p.val l)).applied v)) →
    exec .scrubStep s = .next { s with pal.scrNext := p.val + 1 }) ∧
  ∀ (s : State) (p : Fin 64) (a : Nat) (d : BitVec 256), s.released = true → s.engineFree = true →
    s.pal.pendP.getLsbD p.val = true → (∀ q, q < p.val → s.pal.pendP.getLsbD q = false) →
    s.pal.srcs.get p.val .none = .staged a d →
    ∃ t, exec .scrubReload s = .next t ∧ t.pnlState = 1 ∧
      ∃ q, t.pal.reload = some q ∧ q.panel = p.val ∧ q.scrub = true ∧ q.addr = a ∧ q.src = .staged a d

/-- Lane group modes and links. A write of SPG_GCFG of a present, powered lane group of a released device, fenced or
not, sets MODE, unless a channel of the group is enabled while the group is not fenced, or the mode is a Shaga mode of a
device without Shaga: then it is answered with an error and, no Shaga link being to fall, nothing changes. With no Shaga
link beyond training a write of the mode in force changes MODE alone, and another mode takes the channels of the group
out of LINK and empties their ingress buffers. LINK_UP of a formed channel of a running group, whose lanes are all
enabled with a listed configuration and without autonegotiation, raises LINK on the channel. LINKDOWN of a lane clears
LINK of the channel the lane belongs to and touches no other channel; a frame received whole stays, and one in reception
of which 64 bytes or more have come keeps those bytes, is bad and counts in RX_FCS. That a write of SPG_GCFG passes the
fence, and what a change of mode drops, are the model's readings (logs 16, 36) (R178, R181, R183) -/
def Obligations.LaneGroupModes : Prop :=
  (∀ (g : Fin 4) (d : Word) (s : State), s.released = true → s.hasLg g.val = true → s.domOn (4 + g.val) = true →
    let refused := ((List.range 8).any (fun k => s.regB (Reg.chCfg g.val k) 0) = true ∧ s.domFenced (4 + g.val) = false) ∨
      (4 ≤ d.bits 2 0 ∧ d.bits 2 0 ≤ 6 ∧ s.hasShaga = false)
    let noLink := ∀ l, l < 32 → s.regF (Reg.shgLstat l) 2 0 < 2
    (refused → (∀ l, l < 32 → s.linkRuns l = true ∨ s.regF (Reg.shgLstat l) 2 0 < 2) →
      exec (.spgModeWrite g d) s = .next s.err) ∧
    (¬ refused → (∃ t, exec (.spgModeWrite g d) s = .next t ∧ t.reg (Reg.spgGcfg g.val) = word (d.bits 2 0)) ∧
      (noLink → d.bits 2 0 % 7 = s.gmode g.val →
        exec (.spgModeWrite g d) s = .next (s.setReg (Reg.spgGcfg g.val) (word (d.bits 2 0))).ok) ∧
      (noLink → d.bits 2 0 % 7 ≠ s.gmode g.val → lanesOf (s.gmode g.val) ≠ 0 →
        ∃ t, exec (.spgModeWrite g d) s = .next t ∧ t.resp = { status := 0, data := 0#32 } ∧ t.can = s.can ∧
          ∀ k, k < 8 → t.chLink (8 * g.val + k) = false ∧ (t.mac (8 * g.val + k)).wait = [] ∧
            (t.mac (8 * g.val + k)).deliv = []))) ∧
  (∀ (ch : Fin 32) (ab : BitVec 3) (s : State), s.groupRuns (ch.val / 8) = true → s.chFormed ch.val = true →
    s.chLink ch.val = false → s.sec.reports = [] →
    (∀ i, i < lanesOf (s.gmode (ch.val / 8)) →
      (s.reg (Reg.lnCfg (ch.val / 8) (ch.val % 8 + i))).bit 0 = true ∧
      (s.reg (Reg.lnCfg (ch.val / 8) (ch.val % 8 + i))).bit 5 = false ∧
      laneCfgOk (s.gmode (ch.val / 8)) (s.reg (Reg.lnCfg (ch.val / 8) (ch.val % 8 + i))) = true) →
    ∃ t, exec (.linkUp ch ab) s = .next t ∧ t.chLink ch.val = true ∧ t.can = s.can ∧ t.str = s.str) ∧
  (∀ (lane : Fin 32) (s : State) (n : Nat), n = lanesOf (s.gmode (lane.val / 8)) →
    let ch := 8 * (lane.val / 8) + lane.val % 8 / n * n
    ∃ t, exec (.linkdown lane) s = .next t ∧ t.chLink ch = false ∧ t.can = s.can ∧
      ((∀ f ∈ (s.mac ch).wait, f.reach f.total ≤ s.cyc) → (t.mac ch).wait = (s.mac ch).wait) ∧
      ((∀ d ∈ (s.mac ch).deliv, d.ends ≤ s.cyc) → (t.mac ch).deliv = (s.mac ch).deliv) ∧
      (∀ f : RxFrame, s.chLink ch = true → (s.mac ch).wait = [f] → (s.mac ch).deliv = [] → f.bad = false →
        s.cyc < f.reach f.total → 64 ≤ (s.cyc - f.sfd) * f.rate / 10 →
        (∃ h, (t.mac ch).wait = [h] ∧ h.bad = true ∧ h.bytes = f.bytes.take ((s.cyc - f.sfd) * f.rate / 10)) ∧
          s.counts t (chA Reg.chRxFcs ch) 1) ∧
      ∀ c : Fin 32, c.val ≠ ch → t.chLink c.val = s.chLink c.val ∧ t.mac c.val = s.mac c.val)

/-- Frames received and classified. On a running channel with an ingress buffer of room, no PFC and no receive
timestamps: a data frame of 64 to 9,216 bytes that is not taken for management waits for classification with its bytes
but without its FCS, marked bad exactly when its FCS is wrong; RX_FRAMES counts it, and RX_FCS counts a wrong FCS.
CLASSIFICATION takes the oldest waiting frame: with no matching rule RX_NOMATCH counts, and the frame is gone where
CHk_CFG says so; with r the lowest matching rule, a drop rule counts RX_RDROP, and a rule that names a stream with an
open ingress path queues one delivery to that stream (R183, R185, R187, R202) -/
def Obligations.FramesReceived : Prop :=
  (∀ (ch : Fin 32) (b : List Byte) (s : State), s.chRuns ch.val = true → s.released = true → 64 ≤ b.length →
    b.length ≤ 9216 → isControl b 1 = false → isControl b 0x101 = false →
    (s.mac ch.val).occupied + 9216 ≤ s.bufSize ch.val → s.mgtTakes ch.val b = false →
    (s.reg (chA Reg.chPfc ch.val)).bits 15 8 = 0 → (s.reg (chA Reg.chCfg ch.val)).bit 16 = false →
    ∃ t f, exec (.receivedFrame ch b) s = .next t ∧ (t.mac ch.val).wait = (s.mac ch.val).wait ++ [f] ∧
      f.bytes = b.take (b.length - 4) ∧ f.bad = !fcsOk b ∧ f.held = b.length ∧ t.can = s.can ∧
      s.counts t (chA Reg.chRxFrames ch.val) 1 ∧
      (fcsOk b = false → s.counts t (chA Reg.chRxFcs ch.val) 1)) ∧
  (∀ (ch : Fin 32) (f : RxFrame) (q : List RxFrame) (s : State), (s.mac ch.val).wait = f :: q →
    (s.reg (chA Reg.chPfc ch.val)).bits 15 8 = 0 →
    ((∀ r, r < 256 → s.ruleMatches ch.val r (parseFrame f.bytes) f.bytes = false) →
      (s.reg (chA Reg.chCfg ch.val)).bit 11 = true →
      ∃ t, exec (.classification ch) s = .next t ∧ (t.mac ch.val).wait = q ∧ (t.mac ch.val).deliv = (s.mac ch.val).deliv ∧
        s.counts t (chA Reg.chRxNomatch ch.val) 1 ∧ t.can = s.can) ∧
    (∀ r, r < 256 → s.ruleMatches ch.val r (parseFrame f.bytes) f.bytes = true →
      (∀ k, k < r → s.ruleMatches ch.val k (parseFrame f.bytes) f.bytes = false) →
      ((s.rule r 0).bit 18 = true → ∃ t, exec (.classification ch) s = .next t ∧ (t.mac ch.val).wait = q ∧
        (t.mac ch.val).deliv = (s.mac ch.val).deliv ∧ s.counts t (chA Reg.chRxRdrop ch.val) 1) ∧
      ((s.rule r 0).bit 18 = false → ∀ sid, sid = (s.rule r 18).bits 9 0 → s.ingressPath sid = true →
        s.stripeBlocked ((s.reg (Reg.spxIng0 sid)).bits 26 20) ((s.reg (Reg.spxIng0 sid)).bits 30 27 + 1) = false →
        ∃ t d, exec (.classification ch) s = .next t ∧ (t.mac ch.val).wait = q ∧
          (t.mac ch.val).deliv = (s.mac ch.val).deliv ++ [d] ∧ d.sid = sid ∧ d.order = s.str.order ∧
          d.pbase = (s.reg (Reg.spxIng0 sid)).bits 26 20 ∧ d.held = f.held ∧
          t.str.seqNo.get sid 0 = (s.str.seqNo.get sid 0 + 1) % 4294967296)))

/-- PAUSE and PFC frames. On a running channel, a PAUSE frame with a right FCS is counted and changes nothing else of
the channel but its receive counts. A PFC frame sets the hold of each egress priority it names and RXEN allows when its
quanta are not 0, releases it when they are 0, and leaves the other priorities. PFC_HOLD_END releases a priority.
PFC_REPEAT sends one more PFC frame of 64 bytes while XOFF stands and the occupancy is above the XON threshold (R180,
R185, R200) -/
def Obligations.ControlFrames : Prop :=
  (∀ (ch : Fin 32) (b : List Byte) (s : State), s.chRuns ch.val = true → 64 ≤ b.length → fcsOk b = true →
    (isControl b 1 = true → ∃ t, exec (.pauseFrame ch b) s = .next t ∧ s.counts t (chA Reg.chRxPause ch.val) 1 ∧
      s.counts t (chA Reg.chRxFrames ch.val) 1 ∧ (t.mac ch.val).hold = (s.mac ch.val).hold ∧
      (t.mac ch.val).wait = (s.mac ch.val).wait ∧ t.can = s.can) ∧
    (isControl b 0x101 = true → ∃ t, exec (.pfcFrame ch b) s = .next t ∧ s.counts t (chA Reg.chRxPfc ch.val) 1 ∧
      (t.mac ch.val).wait = (s.mac ch.val).wait ∧
      ∀ i : Fin 8, Nat.testBit (t.mac ch.val).hold i.val =
        if (s.reg (chA Reg.chPfc ch.val)).bit i.val && Nat.testBit (beAt b 16 2) i.val
        then decide (beAt b (18 + 2 * i.val) 2 ≠ 0) else Nat.testBit (s.mac ch.val).hold i.val)) ∧
  (∀ (ch : Fin 32) (p : Fin 8) (s : State), ∃ t, exec (.pfcHoldEnd ch p) s = .next t ∧
    (∀ i, Nat.testBit (t.mac ch.val).hold i = (Nat.testBit (s.mac ch.val).hold i && i != p.val)) ∧ t.regs = s.regs ∧
    (t.mac ch.val).wait = (s.mac ch.val).wait) ∧
  ∀ (ch : Fin 32) (s : State), s.chRuns ch.val = true → (s.mac ch.val).xoff = true →
    (s.reg (chA Reg.chPfc ch.val)).bits 15 8 ≠ 0 →
    (s.reg (chA Reg.chBuf ch.val)).bits 31 16 * 64 < (s.mac ch.val).occupied →
    ∃ t, exec (.pfcRepeat ch) s = .next t ∧ s.counts t (chA Reg.chTxPfc ch.val) 1 ∧
      (t.mac ch.val).txBytes = Nat.min ((s.mac ch.val).txBytes + 64) (2 ^ 64 - 1) ∧
      (t.mac ch.val).wait = (s.mac ch.val).wait

/-- Stream rows and stream markers. With no marker waiting, STREAM_ROW sends the next row of the oldest delivery of its
source when that delivery has started or need not wait and every port of its stripe holds credit: on a stripe of one
port p, whose Panel is not held, the word enters the input of the tile that port p feeds and no other tile changes; the
last row ends the delivery and counts the frame. MARKER_INSERT sends the one waiting marker of its stream, on a stripe
of one such port, as a marker word, when no row that goes before it is left. Without credit neither changes anything.
That a row whose event cannot happen leaves the state is the model's choice (log 4) (R190, R191) -/
def Obligations.RowsIntoTheCanvas : Prop :=
  (∀ (src : Fin 33) (d : Delivery) (rest : List Delivery) (w : ChWord) (r : Row) (rs : List Row) (s : State),
    s.delivOf src.val = d :: rest → s.str.marks = [] → d.ports = 1 → d.rows = r :: rs → r.ws = [w] → d.sid < 1024 →
    (s.portCredit d.pbase = false → exec (.streamRow src) s = .next s) ∧
    (s.portCredit d.pbase = true → (d.started = true ∨ s.mustWait d = false) → s.heldOf (edgeTile d.pbase).1 = none →
      ∃ t, exec (.streamRow src) s = .next t ∧
        (t.tile (edgeTile d.pbase).1).inp.get (edgeTile d.pbase).2 [] =
          (s.tile (edgeTile d.pbase).1).inp.get (edgeTile d.pbase).2 [] ++ [w] ∧
        (∀ u, u ≠ (edgeTile d.pbase).1 → t.tile u = s.tile u) ∧
        (rs = [] → t.delivOf src.val = rest ∧ s.counts t (Reg.spxIscnt d.sid) 1) ∧
        (rs ≠ [] → ∃ e, t.delivOf src.val = e :: rest ∧ e.rows = rs ∧ e.started = true ∧ e.held = d.held - r.free ∧
          e.sid = d.sid ∧ e.pbase = d.pbase ∧ e.ports = 1))) ∧
  ∀ (sid : Fin 1024) (m : WaitMark) (s : State), s.str.marks = [m] → m.sid = sid.val → m.ports = 1 →
    (s.portCredit m.pbase = false → exec (.markerInsert sid) s = .next s) ∧
    (s.portCredit m.pbase = true → s.rowsAhead m = false → s.heldOf (edgeTile m.pbase).1 = none →
      ∃ t, exec (.markerInsert sid) s = .next t ∧ t.str.marks = [] ∧
        (t.tile (edgeTile m.pbase).1).inp.get (edgeTile m.pbase).2 [] =
          (s.tile (edgeTile m.pbase).1).inp.get (edgeTile m.pbase).2 [] ++ [{ data := m.word, tag := 2 }] ∧
        (∀ u, u ≠ (edgeTile m.pbase).1 → t.tile u = s.tile u) ∧ t.regs = s.regs)

/-- Reassembly and transmission. EGRESS_ROW of an enabled, open stream, its entry sound, whose ports all hold a data
word takes one word from each port and appends them in port order to the frame in reassembly. FRAME_TX_START on a
running channel with nothing on the wire starts the one stream that may start: an incomplete frame goes on the wire with
its stamps, a complete plain one leaves whole, built from its template. TX_UNDER ends a started, incomplete frame: the
wire is free, the frame is gone, its remaining words will be discarded, and TX_UNDER counts (R196, R199) -/
def Obligations.FramesOutOfTheCanvas : Prop :=
  (∀ (e : Fin 64) (l : List EFrame) (f : EFrame) (ws : List ChWord) (b n : Nat) (s : State), s.released = true →
    (s.reg (Reg.spxEgr0 e.val)).bit 0 = true → s.wordFails 9 (spbEgress e.val) = false → b = (s.reg (Reg.spxEgr0 e.val)).bits 7 1 →
    n = (s.reg (Reg.spxEgr0 e.val)).bits 11 8 + 1 → oneEdge b n = true → s.stripeBlocked b n = false →
    s.egrOf e.val = l ++ [f] → (∀ x ∈ l, x.sfd = none) → f.complete = false → f.wantDesc = false →
    e.val ∉ s.str.skip → ws.length = n →
    (∀ i (h : i < ws.length), ws[i].tag = 0 ∧ (s.can.edgeOut.get (b + i) []).head? = some ws[i]) →
    s.egrBytes ((s.reg (Reg.spxEgr0 e.val)).bits 16 12) + 4 * n ≤ 32768 →
    s.hlen (s.tmplOf e.val f) + 4 * (f.words.length + n) ≤ 9212 →
    ∃ t, exec (.egressRow e) s = .next t ∧ t.egrOf e.val = l ++ [{ f with words := f.words ++ ws }] ∧
      (∀ i, i < n → t.can.edgeOut.get (b + i) [] = (s.can.edgeOut.get (b + i) []).drop 1) ∧
      t.can.tiles = s.can.tiles ∧ t.regs = s.regs) ∧
  (∀ (ch : Fin 32) (e : Fin 64) (f : EFrame) (r : List EFrame) (s : State), s.chRuns ch.val = true →
    (s.mac ch.val).onWire = none → s.mayStart ch.val e.val = true →
    (∀ k, k < 64 → k ≠ e.val → s.mayStart ch.val k = false) → s.egrOf e.val = f :: r →
    ((f.complete = false → ∃ t, exec (.frameTxStart ch) s = .next t ∧ (t.mac ch.val).onWire = some e.val ∧
      (t.mac ch.val).lastE = e.val ∧ t.egrOf e.val = { f with sfd := some (s.sfdStamp ch.val (s.tmplOf e.val f)) } :: r ∧
      s.counts t (chA Reg.chTxFrames ch.val) 1) ∧
    (f.complete = true → f.desc = none → f.poison = false → f.cut = false → s.tooLong (s.tmplOf e.val f) f = false →
      s.wordFails 9 (spbTemplate (s.tmplOf e.val f)) = false →
      (s.reg (Reg.spxTmpl0 (s.tmplOf e.val f))).bits 20 19 = 0 →
      ∃ t, exec (.frameTxStart ch) s = .next t ∧ (t.mac ch.val).onWire = none ∧ t.egrOf e.val = r ∧
        (t.mac ch.val).sent = wireBytes (s.buildFrame (s.tmplOf e.val f) f (s.sfdStamp ch.val (s.tmplOf e.val f))
          (s.str.tseq.get (s.tmplOf e.val f) 0)) false ∧ s.counts t (chA Reg.chTxFrames ch.val) 1))) ∧
  ∀ (ch : Fin 32) (e : Fin 64) (f : EFrame) (r : List EFrame) (st : Pos × Pos × Nat) (s : State),
    (s.mac ch.val).onWire = some e.val → s.egrOf e.val = f :: r → f.complete = false → f.sfd = some st →
    ∃ t, exec (.txUnder ch) s = .next t ∧ (t.mac ch.val).onWire = none ∧ t.egrOf e.val = r ∧ e.val ∈ t.str.skip ∧
      s.counts t (chA Reg.chTxUnder ch.val) 1 ∧ t.can = s.can

/-- Stream entries, timestamp FIFOs and byte counters. In a released device, STREAM_ENTRY_WRITE of word 0 with EN = 1
whose stripe breaks the rules of R189 is refused: SPX_CFGREF counts, its status bit is set and the entry keeps its
value; a write of word 1 is taken. TS_INFO_READ of a formed channel removes the oldest entry of the FIFO and latches its
stamp; COUNTER_LO_READ of RX_BYTES_LO or TX_BYTES_LO answers the low half, latches the high half and clears the counter
(R18, R189, R202) -/
def Obligations.StreamRegisters : Prop :=
  (∀ (eg : Bool) (sid : Fin 1024) (d : Word) (s : State), s.released = true → (eg = true → sid.val < 64) →
    (d.bit 0 = true → s.stripeOk eg sid.val d = false →
      ∃ t, exec (.streamEntryWrite eg sid 0 d) s = .next t ∧ t.resp.status = 1 ∧ s.counts t Reg.spxCfgref 1 ∧
        (t.reg Reg.spxStat).bit 3 = true ∧ ∀ a, a ≠ Reg.spxCfgref → a ≠ Reg.spxStat → t.reg a = s.reg a) ∧
    ∃ t, exec (.streamEntryWrite eg sid 1 d) s = .next t ∧ t.resp.status = 0 ∧
      ∀ a, a ≠ (if eg then Reg.spxEgr1 sid.val else Reg.spxIng1 sid.val) → t.reg a = s.reg a) ∧
  (∀ (ch : Fin 32) (tx : Bool) (e : Ts) (r : List Ts) (s : State), s.opens (.spg (ch.val / 8)) → s.chFormed ch.val = true →
    (if tx then (s.mac ch.val).txts else (s.mac ch.val).rxts) = e :: r →
    ∃ t, exec (.tsInfoRead ch tx) s = .next t ∧ t.resp.status = 0 ∧ t.resp.data.bits 15 0 = e.seq % 65536 ∧
      (if tx then (t.mac ch.val).txts else (t.mac ch.val).rxts) = r ∧
      (if tx then (t.mac ch.val).txtsL else (t.mac ch.val).rxtsL) = e.stamp ∧ t.regs = s.regs) ∧
  ∀ (ch : Fin 32) (tx : Bool) (s : State), s.opens (.spg (ch.val / 8)) → s.chFormed ch.val = true →
    let n := if tx then (s.mac ch.val).txBytes else (s.mac ch.val).rxBytes
    ∃ t, exec (.counterLoRead (word (chA (if tx then Reg.chTxBytesLo else Reg.chRxBytesLo) ch.val))) s = .next t ∧
      t.resp = { status := 0, data := word n } ∧
      (if tx then (t.mac ch.val).txBytes else (t.mac ch.val).rxBytes) = 0 ∧
      (if tx then (t.mac ch.val).txHi else (t.mac ch.val).rxHi) = word (n / 4294967296) ∧ t.regs = s.regs

/-- Training and zero initialisation of a stack. A present, powered stack that trains: a failed training sets
MEMs_STAT.FAIL and leaves the stack OFF; a successful one sets TRAINED, and is followed by zero initialisation unless
the request asked for none. ZDONE ends zero initialisation: the stack can be accessed, MEMs_STAT shows it, every word of
the stack is zero and correct, and the other stack keeps its contents. Memory is kept by words (log 11) (R204) -/
def Obligations.StackStart : Prop :=
  ∀ (st : Fin 2) (s : State), s.hasStack st.val = true →
    (s.mem.phase.get st.val 0 < 3 → s.regF (Reg.pwrDomctl (8 + st.val)) 3 2 ≠ 0 →
      (∃ t, exec (.stackTrainingDone st false) s = .next t ∧ t.mem.phase.get st.val 0 = 4 ∧
        t.regB (Reg.memStat st.val) 1 = true ∧ t.regF (Reg.memStat st.val) 3 2 = 2 ∧ t.mem.words = s.mem.words) ∧
      (s.mem.phase.get st.val 0 ≠ 2 → ∃ t, exec (.stackTrainingDone st true) s = .next t ∧ t.mem.phase.get st.val 0 = 3 ∧
        t.regB (Reg.memStat st.val) 0 = true ∧ t.regF (Reg.memStat st.val) 3 2 = 0 ∧
        ∀ a, a ≠ Reg.memStat st.val → t.reg a = s.reg a) ∧
      (s.mem.phase.get st.val 0 = 2 → ∃ t, exec (.stackTrainingDone st true) s = .next t ∧ t.mem.phase.get st.val 0 = 4 ∧
        st.val ∈ t.mem.raw ∧ t.regB (Reg.memStat st.val) 0 = true)) ∧
    (s.mem.phase.get st.val 0 = 3 → ∃ t, exec (.zdone st) s = .next t ∧ t.mem.phase.get st.val 0 = 4 ∧
      t.regB (Reg.memStat st.val) 4 = true ∧ st.val ∉ t.mem.raw ∧
      (∀ i, stackOf (4 * i) = st.val → t.memWord i = 0#32) ∧ (∀ k, stackOf (32 * k) = st.val → t.sect k = .ok) ∧
      (∀ i, stackOf (4 * i) ≠ st.val → t.memWord i = s.memWord i) ∧
      ∀ a, a ≠ Reg.memStat st.val → t.reg a = s.reg a)

/-- Sector clear, repair, power and temperature of a stack. SECTOR_CLEAR of an accessible stack writes zeros to the
sector that MEM_SCLR names and to no other. PPR_GO with no repair running starts the repair of the row of MEMs_PPR, or
refuses a row of the other stack; PPR_DONE ends it, sets DONE, and reports no spare row when none was left. A lower
state of power needs the acknowledged fence: without it the request gets an error, with it SLEEP keeps the contents and
OFF loses them. STACK_THERMAL records the temperature and raises or clears the two limits with 3 degrees of hysteresis.
The row of a sector is a free value (log 8) (R206, R207, R208, R209) -/
def Obligations.StackRepairAndPower : Prop :=
  (∀ (d : Word) (k : Nat) (s : State), s.opens .mem → k = (d.bits 2 0 * 4294967296 + (s.reg Reg.memSclrLo).toNat) / 32 →
    s.stackGate (32 * k) = .go → (s.reg (Reg.memInj (stackOf (32 * k)))).bit 0 = false →
    ∃ t, exec (.sectorClear d) s = .next t ∧ t.resp.status = 0 ∧ t.sect k = .ok ∧
      (∀ i, t.memWord i = if i / 8 = k then 0#32 else s.memWord i) ∧ (∀ j, j ≠ k → t.sect j = s.sect j) ∧
      ∀ a, a ≠ Reg.memSclrHi → t.reg a = s.reg a) ∧
  ∀ (st : Fin 2) (s : State),
    (∀ (hard : Bool) (a : Nat), s.memOpen st.val → s.mem.ppr.get st.val none = none →
      a = s.regF (Reg.memPprHi st.val) 2 0 * 4294967296 + (s.reg (Reg.memPprLo st.val)).toNat →
      (stackOf a = st.val → ∃ t, exec (.pprGo st hard) s = .next t ∧ t.mem.ppr.get st.val none = some (a, hard) ∧
        t.regB (Reg.memPprStat st.val) 0 = true ∧ t.mem.words = s.mem.words) ∧
      (stackOf a ≠ st.val → ∃ t, exec (.pprGo st hard) s = .next t ∧ t.mem = s.mem ∧
        t.regB (Reg.memPprStat st.val) 2 = true)) ∧
    (∀ (spare hard : Bool) (a : Nat), s.mem.ppr.get st.val none = some (a, hard) →
      ∃ t, exec (.pprDone st spare) s = .next t ∧ t.mem.ppr.get st.val none = none ∧
        t.regB (Reg.memPprStat st.val) 0 = false ∧ t.regB (Reg.memPprStat st.val) 1 = true ∧
        (spare = false → t.regB (Reg.memPprStat st.val) 2 = true ∧ t.regB (Reg.memPprStat st.val) 3 = true ∧
          t.mem.words = s.mem.words)) ∧
    (∀ d : Word, s.memOpen st.val → s.regF (Reg.memStat st.val) 3 2 = 0 → 1 ≤ d.bits 1 0 → d.bits 1 0 ≤ 2 →
      (s.regB Reg.nocFack (8 + st.val) = false → exec (.stackPowerRequest st d) s = .next s.err) ∧
      (s.regB Reg.nocFack (8 + st.val) = true → ∃ t, exec (.stackPowerRequest st d) s = .next t ∧ t.resp.status = 0 ∧
        t.regF (Reg.memStat st.val) 3 2 = d.bits 1 0 ∧
        (d.bits 1 0 = 1 → t.mem = s.mem) ∧
        (d.bits 1 0 = 2 → (∀ i, stackOf (4 * i) = st.val → t.memWord i = 0#32) ∧
          ∀ i, stackOf (4 * i) ≠ st.val → t.memWord i = s.memWord i))) ∧
    ∀ temp : BitVec 8, s.hasStack st.val = true →
      ∃ t, exec (.stackThermal st temp) s = .next t ∧ t.reg (Reg.memTemp st.val) = temp.setWidth 32 ∧
        (85 < temp.toInt → t.regB (Reg.memStat st.val) 5 = true) ∧ (temp.toInt ≤ 82 → t.regB (Reg.memStat st.val) 5 = false) ∧
        (82 < temp.toInt → temp.toInt ≤ 85 → t.regB (Reg.memStat st.val) 5 = s.regB (Reg.memStat st.val) 5) ∧
        (95 < temp.toInt → t.regB (Reg.memStat st.val) 6 = true) ∧ (temp.toInt ≤ 92 → t.regB (Reg.memStat st.val) 6 = false) ∧
        t.mem = s.mem

/-- Table descriptors and swaps. While accesses reach the table engine: a D0 write with V = 1 to a table whose V is set,
or whose parameters fail the checks of R211, is refused and counted in TBL_CFGREF, and so is a write of D1, D2, D3, D8
or D9 of such a table; a D0 write with V = 0 invalidates the table; a D0 write with V = 1 that passes makes it valid. A
swap, the first of its table in the cycle, of a valid table with two generations exchanges its active generation and no
other table's; of any other table it is counted as dropped and changes no table; a further swap of the table in the
cycle changes no generation. The cycle is the EKL cycle, which is the model's reading (log 61) (R211, R220) -/
def Obligations.TableDescriptors : Prop :=
  (∀ (tb : Fin 64) (w : Fin 16) (d : Word) (s : State), s.opens .tbl → s.released = true → s.hasTable = true →
    ((w.val = 0 ∧ d.bit 0 = true ∧ (s.tV tb.val = true ∨ s.tValid tb.val d = false)) ∨
        (s.tV tb.val = true ∧ (w.val = 1 ∨ w.val = 2 ∨ w.val = 3 ∨ w.val = 8 ∨ w.val = 9)) →
      ∃ t, exec (.descriptorWrite tb w d) s = .next t ∧ t.resp.status = 1 ∧ s.counts t Reg.tblCfgref 1 ∧
        ∀ j v, t.tD j v = s.tD j v) ∧
    (w.val = 0 → (d.bit 0 = false ∨ (s.tV tb.val = false ∧ s.tValid tb.val d = true)) →
      ∃ t, exec (.descriptorWrite tb w d) s = .next t ∧ t.resp.status = 0 ∧ t.tV tb.val = d.bit 0 ∧
        ∀ a, a ≠ Reg.tblD tb.val 0 → t.reg a = s.reg a)) ∧
  ∀ (tb : Fin 64) (s : State),
    (∀ ts, s.tbl.swaps = tb.val :: ts → s.hasTable = true → s.tbl.swapped.get tb.val 0 ≠ s.cyc + 1 →
      ∃ t, exec .tableSwap s = .next t ∧ t.tbl.swaps = ts ∧
        ((s.tV tb.val && s.tDgen tb.val) = true → t.tActive tb.val = 1 - s.tActive tb.val ∧
          ∀ j : Fin 64, j ≠ tb → t.tActive j.val = s.tActive j.val) ∧
        ((s.tV tb.val && s.tDgen tb.val) = false → s.counts t Reg.tblSwapdrop 1 ∧
          ∀ j : Fin 64, t.tActive j.val = s.tActive j.val)) ∧
    (s.opens .tbl → s.released = true → s.hasTable = true → s.tbl.swapped.get tb.val 0 = s.cyc + 1 →
      ∃ t, exec (.tblSwap tb) s = .next t ∧ t.resp.status = 0 ∧ t.regs = s.regs) ∧
    (s.opens .tbl → s.released = true → s.hasTable = true → s.tbl.swapped.get tb.val 0 ≠ s.cyc + 1 →
      ∃ t, exec (.tblSwap tb) s = .next t ∧ t.tbl.swaps = s.tbl.swaps ∧ t.resp.status = 0 ∧
        ((s.tV tb.val && s.tDgen tb.val) = true → t.tActive tb.val = 1 - s.tActive tb.val) ∧
        ((s.tV tb.val && s.tDgen tb.val) = false → s.counts t Reg.tblSwapdrop 1))

/-- Lookups of a table port. At a table port that collects no request and owes fewer than 64 responses: a first data
word is collected. A two-word request for a table that is not valid is answered with status 3. A two-word request for a
valid direct table of 8-byte entries, whose index is below COUNT and whose stack can be accessed and reads correctly, is
answered with status 0, the index and the two words of the entry of the active generation, the last word tagged
data-last. TABLE_RESPONSE sends the next word of the oldest answer to the port's tile when there is credit, and keeps it
when there is none (R212, R216, R217, R218) -/
def Obligations.TableLookups : Prop :=
  (∀ (p : Fin 64) (h : ChWord) (s : State), s.hasTable = true → (s.tport p.val).outst < 64 → (s.tport p.val).got = [] →
    (s.tport p.val).skip = false → h.tag = 0 →
    (s.can.tblOut.get p.val [] = [h] →
      ∃ t, exec (.tableRequest p) s = .next t ∧ (t.tport p.val).got = [h] ∧
        (t.tport p.val).queue = (s.tport p.val).queue ∧ t.can.tblOut.get p.val [] = []) ∧
    ∀ o : ChWord, s.can.tblOut.get p.val [] = [h, o] → o.tag = 1 →
      (s.tV (h.data.bits 5 0) = false →
        ∃ t r, exec (.tableRequest p) s = .next t ∧ (t.tport p.val).got = [] ∧ t.can.tblOut.get p.val [] = [] ∧
          (t.tport p.val).queue = (s.tport p.val).queue ++ [{ words := r, isResp := true }] ∧
          (r.headD { data := 0#32, tag := 0 }).data.bits 27 24 = 3 ∧ t.tbl.lkp = s.tbl.lkp + 1) ∧
      (∀ (tb i a : Nat), tb = h.data.bits 5 0 → i = o.data.bits 23 0 → o.data.bits 31 24 = 0 →
        h.data.bit 6 = false → h.data.bit 7 = false → s.tV tb = true → s.tMode tb = 0 → (s.tD tb 0).bits 4 3 = 0 →
        i < s.tCount tb → a = s.tBase tb (s.tActive tb) + 8 * i →
        s.stackGate (s.tBase tb (s.tActive tb)) = .go → s.stackGate a = .go →
        s.stackGate (s.tBase tb (s.tActive tb) + 8 * s.tCount tb - 1) = .go → s.soundSect (a / 32) →
        ∃ t, exec (.tableRequest p) s = .next t ∧ (t.tport p.val).queue = (s.tport p.val).queue ++
          [({ words := [{ data := respHeader i 0 (s.tActive tb), tag := 0 }, { data := s.memWord (a / 4), tag := 0 },
              { data := s.memWord (a / 4 + 1), tag := 1 }], isResp := true } : TAnswer)] ∧ t.mem = s.mem)) ∧
  ∀ (p : Fin 64) (a : TAnswer) (rest : List TAnswer) (w : ChWord) (ws : List ChWord) (s : State),
    (s.tport p.val).queue = a :: rest → a.words = w :: ws → s.domFenced (quadOf (tableTile p.val).1) = false →
    s.heldOf (tableTile p.val).1 = none →
    (2 ≤ (s.tile (tableTile p.val).1).load (tableTile p.val).2 → exec (.tableResponse p) s = .next s) ∧
    ((s.tile (tableTile p.val).1).load (tableTile p.val).2 < 2 →
      ∃ t, exec (.tableResponse p) s = .next t ∧
        (t.tile (tableTile p.val).1).inp.get (tableTile p.val).2 [] =
          (s.tile (tableTile p.val).1).inp.get (tableTile p.val).2 [] ++ [w] ∧
        (t.tport p.val).queue = (if ws = [] then rest else { a with words := ws } :: rest) ∧
        (∀ u, u ≠ (tableTile p.val).1 → t.tile u = s.tile u) ∧ t.regs = s.regs)

/-- Writes through the table aperture. In a released device with the table engine, for a table of 8-byte entries whose
standby entry can be accessed: a write of word 0 with no collection open opens one for its initiator and writes nothing;
the write of word 1 that completes it writes both words to the standby generation, ends the collection and leaves the
rest of memory. A write beyond COUNT is answered with an error and counted. COLLECTION_TIMEOUT discards the open
collection of the initiator's NI and counts it (R221) -/
def Obligations.TableAperture : Prop :=
  (∀ (ini : Path) (addr : BitVec 48) (d : Word) (tb : Fin 64) (e w b : Nat) (s : State), s.released = true →
    s.hasTable = true → addr.toNat = 0x80000000000 + tb.val * 0x40000000 + b → b < 0x40000000 → b = 8 * e + 4 * w → w < 2 →
    (s.tD tb.val 0).bits 4 3 = 0 →
    (s.tCount tb.val ≤ e → ∃ t, exec (.apertureWrite ini addr d) s = .next t ∧ t.resp.status = 1 ∧ t.mem = s.mem ∧
      s.counts t Reg.tblAwdrop 1 ∧ t.tbl = s.tbl) ∧
    (e < s.tCount tb.val → s.stackGate (s.tBase tb.val (s.tStandby tb.val) + 8 * e) = .go →
      (w = 0 → s.tbl.colls = [] → ∃ t, exec (.apertureWrite ini addr d) s = .next t ∧ t.resp.status = 0 ∧ t.mem = s.mem ∧
        t.tbl.colls = [{ ni := pathNi ini, dev := 0, table := tb.val, entry := e, words := [d] }]) ∧
      (∀ (c0 : Word) (a : Nat), w = 1 → a = s.tBase tb.val (s.tStandby tb.val) + 8 * e →
        s.tbl.colls = [{ ni := pathNi ini, dev := 0, table := tb.val, entry := e, words := [c0] }] → s.soundSect (a / 32) →
        ∃ t, exec (.apertureWrite ini addr d) s = .next t ∧ t.resp.status = 0 ∧ t.tbl.colls = [] ∧
          t.memWord (a / 4) = c0 ∧ t.memWord (a / 4 + 1) = d ∧
          (∀ i, i ≠ a / 4 → i ≠ a / 4 + 1 → t.memWord i = s.memWord i) ∧ t.regs = s.regs))) ∧
  ∀ (ini : Path) (c : Collect) (s : State), s.tbl.colls = [c] → c.ni = pathNi ini →
    ∃ t, exec (.collectionTimeout ini) s = .next t ∧ t.tbl.colls = [] ∧ s.counts t Reg.tblAwdrop 1 ∧ t.mem = s.mem

/-- Routes and route tables. While accesses reach the NOC block: a write of NIn_RTe_LO is held for its pair; a write of
NIn_RTe_HI with a legal route held for the pair sets the entry, whose destination is e for a table entry and the written
DST for an exception; an illegal one is answered with an error, counted in NIn_RTREF and changes no entry. With no valid
entry for a destination and no valid exception the NI uses the default route, and the default route between any two NIs
is legal (R228, R229, R230, R425) -/
def Obligations.RouteTables : Prop :=
  (∀ (n : Fin 48) (e : Fin 64) (d : Word) (s : State), s.opens .noc →
    let dst := if e.val < 48 then e.val else d.bits 5 0
    let lo := (s.ni n.val).rtLatch.get e.val 0#32
    (legalRoute n.val lo.toNat dst = true →
      ∃ t w, exec (.routeWrite n e d) s = .next t ∧ t.resp.status = 0 ∧ t.regs = s.regs ∧
        (t.ni n.val).routes.get e.val (0#32, 0#32) = (lo, w) ∧ w.bits 5 0 = dst ∧ w.bit 31 = d.bit 31 ∧
        ∀ j, j ≠ e.val → (t.ni n.val).routes.get j (0#32, 0#32) = (s.ni n.val).routes.get j (0#32, 0#32)) ∧
    (legalRoute n.val lo.toNat dst = false →
      ∃ t, exec (.routeWrite n e d) s = .next t ∧ t.resp.status = 1 ∧ s.counts t (Reg.niRtref n.val) 1 ∧ t.noc = s.noc)) ∧
  (∀ (n e d : Nat) (w : Word) (s : State), ((routeLoWrite n e w s).ni n).rtLatch.get e 0#32 = w &&& 0x3FFFFFFF#32 ∧
    (d ≠ e → ((routeLoWrite n e w s).ni n).rtLatch.get d 0#32 = (s.ni n).rtLatch.get d 0#32)) ∧
  ∀ (n d : Fin 48) (c : Fin 4) (s : State), ((s.ni n.val).routes.get d.val (0#32, 0#32)).2.bit 31 = false →
    (∀ i, 48 ≤ i → i < 64 → ((s.ni n.val).routes.get i (0#32, 0#32)).2.bit 31 = false) →
    s.routeFor n.val d.val c.val = defaultRoute n.val d.val ∧ legalRoute n.val (defaultRoute n.val d.val) d.val = true

/-- Injection at an NI. At an NI with no packet waiting, a packet that its layer carries and whose body has the length
of its header: a request of a fenced NI is answered FENCED by the NI itself, and one to an address of no range, or to a
register by another width, with ERROR; neither enters the network. Any other packet, in a released device, at a router
that is not quiescing and has room for its flits: with at least one flit of tokens in its class's bucket after the
refill, its flits enter the local input of the NI's router with the NI as SRC, the route of the NI's table and the body
unchanged, a TC1 packet as conforming, and are taken from the bucket; with less, a TC1 packet of a marking bucket enters
as not conforming, and any other waits at the NI. The NCK cycles that a row tells of, and that all flits of a packet
enter at once, are the model's readings (log 61) (R16, R224, R225, R229, R233, R236) -/
def Obligations.Injection : Prop :=
  ∀ (n dst : Fin 48) (pk : Packet) (k : Nat) (s : State), carries pk.lay (Packet.tc pk) = true →
    pk.body.length = Packet.flits pk → Packet.kind pk ≠ .internal → (s.ni n.val).queue = [] →
    let c := Packet.tc pk
    let j := k - (s.ni n.val).since
    let l := if j = 0 then (s.ni n.val).level c else refill (s.reg (Reg.niTb n.val c)) ((s.ni n.val).level c) j
    let answered (t : State) (st : Nat) : Prop := ∃ r, (t.ni n.val).got = r :: (s.ni n.val).got ∧ Packet.status r = st ∧
      Packet.tag r = Packet.tag pk ∧ t.noc.flights = s.noc.flights ∧ t.regs = s.regs
    let entered (t : State) (conf : Bool) : Prop := ∃ f, t.noc.flights = s.noc.flights ++ [f] ∧
      f.flits.map Flit.at_ = List.replicate (Packet.flits pk) (.router (n.val / 2) (4 + n.val % 2)) ∧
      Packet.src f.pk = n.val ∧ Packet.route f.pk = s.routeFor n.val dst.val c % 2 ^ 30 ∧ f.pk.body = pk.body ∧
      f.pk.lay = pk.lay ∧ (c = 1 → Packet.conf f.pk = conf) ∧ (t.ni n.val).queue = []
    (s.niFenced n.val = true → Packet.kind pk = .request → ∃ t, exec (.inject n dst pk k) s = .next t ∧ answered t 2) ∧
    (s.niFenced n.val = false → Packet.unaddressed pk = true → Packet.kind pk = .request →
      ∃ t, exec (.inject n dst pk k) s = .next t ∧ answered t 1) ∧
    (s.released = true → s.niFenced n.val = false → Packet.unaddressed pk = false →
      s.regB (rtStat pk.lay (n.val / 2)) 0 = false →
      s.room pk.lay c (n.val / 2) (4 + n.val % 2) (Packet.flits pk) = true →
      (1500 ≤ l → ∃ t, exec (.inject n dst pk k) s = .next t ∧ entered t true ∧
        (t.ni n.val).level c = l - ((Packet.flits pk * 1500 : Nat) : Int) ∧ t.mem = s.mem) ∧
      (l < 1500 → c = 1 → s.regB (Reg.niTb n.val 1) 11 = true →
        ∃ t, exec (.inject n dst pk k) s = .next t ∧ entered t false ∧ (t.ni n.val).level c = l ∧ t.mem = s.mem) ∧
      (l < 1500 → (c = 1 → s.regB (Reg.niTb n.val 1) 11 = false) →
        ∃ t, exec (.inject n dst pk k) s = .next t ∧ t.noc.flights = s.noc.flights ∧ t.regs = s.regs ∧
          (t.ni n.val).queue = [(dst.val, pk)] ∧ (t.ni n.val).level c = l))

/-- Routers: forwarding, reconfiguration and faults. With one packet of one flit in the network, in an input buffer of a
router, no output held and no packet waiting at the NIs of the router: at an enabled output of a router that is not
quiescing ROUTER_FORWARD moves the flit to the router beyond, unless that is quiescing, or ejects it to the NI, and its
ROUTE field shifts right by three. At an output that is not enabled or not there, a request is answered by NI 47, which
injects the answer when its bucket conforms, and any other packet is discarded and counted. ROUTER_APPLY starts a
quiesce; QUIESCE_DONE, with no packet half way through the router, and, with no packet in the router, ROUTER_FAULT put
the staged configuration into force and end it, and a fault is shown and reported. The row as one flit is the model's
reading (log 61) (R228, R231, R238, R239) -/
def Obligations.Routers : Prop :=
  (∀ (lay : Layer) (r : Fin 24) (inp : Fin 6) (out : Fin 8) (f : Flight) (x : Flit) (s : State), s.noc.flights = [f] →
    f.flits = [x] → x.at_ = .router r.val inp.val → f.pk.lay = lay → bitsOf x.hdr.toNat 2 0 = out.val →
    s.noc.locks = [] → (s.ni (2 * r.val)).queue = [] → (s.ni (2 * r.val + 1)).queue = [] →
    let moved (t : State) (p : Place) : Prop := ∃ g y, t.noc.flights = [g] ∧ g.pk = f.pk ∧ g.flits = [y] ∧ y.at_ = p ∧
      bitsOf y.hdr.toNat 29 0 = bitsOf x.hdr.toNat 29 0 / 8 + 7 * 2 ^ 27 ∧ t.regs = s.regs
    (out.val ≤ 5 → s.regB (rtCfg lay r.val) (12 + out.val) = true → s.regB (rtStat lay r.val) 0 = false →
      (∀ q, nextRouter r.val out.val = some q → s.regB (rtStat lay q) 0 = false →
        ∃ t, exec (.routerForward lay r out) s = .next t ∧ moved t (.router q ((out.val + 2) % 4))) ∧
      (4 ≤ out.val → Packet.kind f.pk ≠ .reserved → (Packet.kind f.pk = .posted → Packet.opc f.pk = 3) →
        ∃ t, exec (.routerForward lay r out) s = .next t ∧ moved t (.ni (2 * r.val + (out.val - 4))))) ∧
    ((5 < out.val ∨ s.regB (rtCfg lay r.val) (12 + out.val) = false ∨
        (out.val < 4 ∧ nextRouter r.val out.val = none)) →
      (Packet.kind f.pk = .request → (s.ni 47).queue = [] → s.conforms 47 (Packet.tc f.pk) = true →
        s.regB (rtStat lay 23) 0 = false →
        ∃ t g, exec (.routerForward lay r out) s = .next t ∧ t.noc.flights = [g] ∧
          g.flits.map Flit.at_ = [.router 23 5] ∧ Packet.src g.pk = 47 ∧ Packet.status g.pk = 3 ∧
          Packet.tag g.pk = Packet.tag f.pk) ∧
      (Packet.kind f.pk ≠ .request → ∃ t, exec (.routerForward lay r out) s = .next t ∧ t.noc.flights = [] ∧
        s.counts t Reg.nocRfailDrop 1))) ∧
  ∀ (lay : Layer) (r : Fin 24) (s : State),
    (s.opens .noc → ∃ t, exec (.routerApply lay r) s = .next t ∧ t.regB (rtStat lay r.val) 0 = true ∧ t.noc = s.noc ∧
      ∀ a, a ≠ rtStat lay r.val → t.reg a = s.reg a) ∧
    (s.regB (rtStat lay r.val) 0 = true →
      (s.switching lay r.val = true → exec (.quiesceDone lay r) s = .next s) ∧
      (s.switching lay r.val = false → ∃ t, exec (.quiesceDone lay r) s = .next t ∧
        t.regB (rtStat lay r.val) 0 = false ∧ t.reg (rtCfg lay r.val) = s.reg (rtStg lay r.val) ∧
        ((s.ni (2 * r.val)).queue = [] → (s.ni (2 * r.val + 1)).queue = [] → t.noc.flights = s.noc.flights)) ∧
      ((∀ f ∈ s.noc.flights, f.pk.lay = lay → f.inRouter r.val = false) →
        ∃ t, exec (.routerFault lay r) s = .next t ∧
          t.regB (rtStat lay r.val) 0 = false ∧ t.regB (rtStat lay r.val) 1 = true ∧ t.regB Reg.nocStat 2 = true ∧
          t.reg (rtCfg lay r.val) = s.reg (rtStg lay r.val) ∧
          ((s.ni (2 * r.val)).queue = [] → (s.ni (2 * r.val + 1)).queue = [] → t.noc.flights = s.noc.flights)))

/-- Requests of one word at an NI. With one packet in the network, a C-layer request of a stacked-memory word, at its
NI, whose regulator and router let the answer go: a fenced NI answers RD and WR with FENCED and drops a WRP, which it
counts; an NI that is not fenced, with an accessible stack and a correct sector, answers RD with status OK and the word,
performs WR and answers OK, and performs WRP without an answer. The answer carries the TAG of the request and enters the
NI's router. Memory is kept by words (log 11) (R205, R206, R226, R227, R236) -/
def Obligations.RequestsOfWords : Prop :=
  ∀ (n : Fin 48) (f : Flight) (a : Nat) (s : State), s.noc.flights = [f] → f.atNi n.val = true → f.pk.lay = .c →
    s.quiet = true → s.released = true → (s.ni n.val).queue = [] → s.conforms n.val (Packet.tc f.pk) = true →
    s.regB (rtStat .c (n.val / 2)) 0 = false →
    a = flitAddr f.pk.hdr.toNat ((f.pk.body.headD 0#512).toNat % 2 ^ 64) → a < 0x800000000 → a % 4 = 0 →
    n.val = homeNi a →
    let answered (t : State) (st : Nat) : Prop := ∃ g, t.noc.flights = [g] ∧
      g.flits.map Flit.at_ = [.router (n.val / 2) (4 + n.val % 2)] ∧
      Packet.opc g.pk = 8 ∧ Packet.status g.pk = st ∧ Packet.tag g.pk = Packet.tag f.pk ∧ g.pk.lay = .c
    (s.niFenced n.val = true →
      (Packet.opc f.pk = 1 → ∃ t, exec (.nocRd n) s = .next t ∧ answered t 2 ∧ t.mem = s.mem) ∧
      (Packet.opc f.pk = 2 → ∃ t, exec (.nocWr n) s = .next t ∧ answered t 2 ∧ t.mem = s.mem) ∧
      (Packet.opc f.pk = 3 → ∃ t, exec (.nocWrp n) s = .next t ∧ t.noc.flights = [] ∧ s.counts t Reg.nocFenceDrop 1 ∧
        t.mem = s.mem)) ∧
    (s.niFenced n.val = false → s.stackGate a = .go → s.soundSect (a / 32) →
      let d := word ((f.pk.body.headD 0#512).toNat / 4294967296)
      (Packet.opc f.pk = 1 → ∃ t, exec (.nocRd n) s = .next t ∧ answered t 0 ∧ t.mem = s.mem ∧
        ∀ g ∈ t.noc.flights, g.pk.body = [BitVec.ofNat 512 (s.memWord (a / 4)).toNat]) ∧
      (Packet.opc f.pk = 2 → ∃ t, exec (.nocWr n) s = .next t ∧ answered t 0 ∧
        ∀ i, t.memWord i = if i = a / 4 then d else s.memWord i) ∧
      (Packet.opc f.pk = 3 → ∃ t, exec (.nocWrp n) s = .next t ∧ t.noc.flights = [] ∧ t.resp = s.resp ∧
        ∀ i, t.memWord i = if i = a / 4 then d else s.memWord i))

/-- Requests of a line of stacked memory. With one packet in the network, a D-layer request of one whole line of an
accessible stack with correct sectors, at the NI of its pseudo-channel, which is not fenced and whose regulator and
router let the answer go: LRD is answered with status OK, no poison and the sixteen words of the line; LWR and LWRP with
every byte enabled and no poison write the line and nothing else, and LWR alone is answered. Memory is kept by words
(log 11) (R205, R206, R226, R227) -/
def Obligations.RequestsOfLines : Prop :=
  ∀ (n : Fin 48) (f : Flight) (h : BitVec 512) (a : Nat) (s : State), s.noc.flights = [f] → f.atNi n.val = true →
    f.pk.lay = .d → f.pk.body.head? = some h → a = bitsOf h.toNat 47 0 → a % 64 = 0 → a < 0x800000000 → n.val = homeNi a →
    s.niFenced n.val = false → s.stackGate a = .go → s.soundSect (a / 32) → s.soundSect (a / 32 + 1) →
    (s.ni n.val).queue = [] → s.conforms n.val (Packet.tc f.pk) = true → s.regB (rtStat .d (n.val / 2)) 0 = false →
    let answered (t : State) (op : Nat) : Prop := ∃ g, t.noc.flights = [g] ∧
      g.flits.map Flit.at_ = [.router (n.val / 2) (4 + n.val % 2)] ∧
      Packet.opc g.pk = op ∧ Packet.status g.pk = 0 ∧ Packet.tag g.pk = Packet.tag f.pk
    (Packet.opc f.pk = 1 → bitsOf h.toNat 49 48 = 0 →
      ∃ t, exec (.lrd n) s = .next t ∧ answered t 8 ∧ t.mem = s.mem ∧
        ∀ g ∈ t.noc.flights, g.pk.body = [wordsFlit (s.sectWords (a / 32) ++ s.sectWords (a / 32 + 1))]) ∧
    (∀ line : BitVec 512, f.pk.body = [h, line] → bitsOf h.toNat 127 64 = 2 ^ 64 - 1 → Packet.f f.pk 57 50 = 0 →
      (s.reg (Reg.memInj (stackOf a))).bit 0 = false →
      let written (t : State) : Prop := ∀ i, t.memWord i =
        if i / 16 = a / 64 then word (bitsOf line.toNat (32 * (i % 16) + 31) (32 * (i % 16))) else s.memWord i
      (Packet.opc f.pk = 2 → ∃ t, exec (.lwr n) s = .next t ∧ answered t 9 ∧ written t) ∧
      (Packet.opc f.pk = 3 → ∃ t, exec (.lwrp n) s = .next t ∧ t.noc.flights = [] ∧ written t ∧ t.regs = s.regs))

/-- Responses, stray responses and timeouts. With one packet in the network, a response at NI n: when the NI has an
outstanding request of its TAG and layer, that request is no longer outstanding and the response is delivered to the
NI's unit; otherwise NOC_STRAY counts it. REQUEST_TIMEOUT of an outstanding request delivers a response with status
TIMEOUT to the unit and counts it; NOC statistics that are cleared read 0, and SLMIN reads all ones (R227, R235,
R237) -/
def Obligations.ResponsesAndTimeouts : Prop :=
  (∀ (n : Fin 48) (f : Flight) (op : Fin 3) (s : State), s.noc.flights = [f] → f.atNi n.val = true →
    f.pk.lay = (if op = 0 then .c else .d) → Packet.opc f.pk = (if op = 2 then 9 else 8) →
    let c : Instr := if op = 0 then .nocRsp n else if op = 1 then .lrsp n else .lack n
    (∀ o, (s.ni n.val).outst.find? (fun o => o.tag == Packet.tag f.pk && o.lay == f.pk.lay) = some o →
      ∃ t, exec c s = .next t ∧ t.noc.flights = [] ∧ (t.ni n.val).outst = (s.ni n.val).outst.erase o ∧
        (t.ni n.val).got = f.pk :: (s.ni n.val).got ∧ t.mem = s.mem) ∧
    ((s.ni n.val).outst.find? (fun o => o.tag == Packet.tag f.pk && o.lay == f.pk.lay) = none →
      ∃ t, exec c s = .next t ∧ t.noc.flights = [] ∧ (t.ni n.val) = s.ni n.val ∧ s.counts t Reg.nocStray 1)) ∧
  (∀ (n : Fin 48) (tag : BitVec 6) (o : Outst) (s : State), s.quiet = true →
    (s.ni n.val).outst.find? (fun o => o.tag == tag.toNat) = some o →
    ∃ t r, exec (.requestTimeout n tag) s = .next t ∧ (t.ni n.val).outst = (s.ni n.val).outst.erase o ∧
      (t.ni n.val).got = r :: (s.ni n.val).got ∧ Packet.status r = 4 ∧ Packet.tag r = tag.toNat ∧
      s.counts t (Reg.niTmo n.val) 1) ∧
  ∀ (n : Fin 48) (s : State), s.opens .noc → ∃ t, exec (.statsClr n) s = .next t ∧ t.reg (Reg.niSlmin n.val) = 0xFFFFFFFF#32 ∧
    t.reg (Reg.niSlmax n.val) = 0#32 ∧ t.reg (Reg.niSpkts n.val) = 0#32 ∧ t.reg (Reg.niSlcnt n.val) = 0#32 ∧
    (∀ i : Fin 8, t.reg (Reg.niShist n.val i.val) = 0#32) ∧ t.reg (Reg.niSctl n.val) = s.reg (Reg.niSctl n.val) ∧
    t.noc = s.noc

/-- Fences and breaches of a guarantee. FENCE_REQ while accesses reach the NOC block makes the NIs of the domain answer
FENCED; FENCE_ACK acknowledges exactly when the domain is fenced and drained; FENCE_RELEASE ends request and
acknowledgement, and a domain that is ON is then not fenced. GUARANTEE_BREACH of the one flit of its class that waits at
a router counts it once; a class not yet named in the epoch is reported, in a report of its own or, in a cycle whose
report still stands last in the collector's inbox, in that one (R234, R236, R237) -/
def Obligations.FencesAndBreaches : Prop :=
  (∀ (d : Fin 11) (s : State),
    (s.opens .noc → ∃ t, exec (.fenceReq d) s = .next t ∧ t.domFenced d.val = true ∧
      ∀ e : Fin 11, e ≠ d → t.regB Reg.nocFreq e.val = s.regB Reg.nocFreq e.val) ∧
    (s.regB Reg.nocFreq d.val = true → s.drained d.val = true →
      ∃ t, exec (.fenceAck d) s = .next t ∧ t.regB Reg.nocFack d.val = true ∧ t.noc = s.noc) ∧
    (s.drained d.val = false → exec (.fenceAck d) s = .next s) ∧
    (s.opens .noc → ∃ t, exec (.fenceRelease d) s = .next t ∧ t.regB Reg.nocFreq d.val = false ∧
      t.regB Reg.nocFack d.val = false ∧ (s.domOn d.val = true → t.domFenced d.val = false) ∧ t.noc = s.noc)) ∧
  ∀ (n : Fin 48) (c : Fin 4) (f : Flight) (x : Flit) (r i : Nat) (s : State), s.noc.flights = [f] → f.flits = [x] →
    x.at_ = .router r i → x.breached = false →
    Packet.src f.pk = n.val → Packet.tc f.pk = c.val → (c.val = 1 → Packet.conf f.pk = true) →
    ∃ t, exec (.guaranteeBreach n c) s = .next t ∧ t.noc.flights = [{ f with flits := [{ x with breached := true }] }] ∧
      (c.val < 2 → t.regF (Reg.niBrk01 n.val) (16 * c.val + 15) (16 * c.val) =
        Nat.min (s.regF (Reg.niBrk01 n.val) (16 * c.val + 15) (16 * c.val) + 1) 65535) ∧
      (2 ≤ c.val → t.regF (Reg.niBrk23 n.val) (16 * (c.val - 2) + 15) (16 * (c.val - 2)) =
        Nat.min (s.regF (Reg.niBrk23 n.val) (16 * (c.val - 2) + 15) (16 * (c.val - 2)) + 1) 65535) ∧
      (Nat.testBit (s.ni n.val).named c.val = false → Nat.testBit (t.ni n.val).named c.val = true) ∧
      (Nat.testBit (s.ni n.val).named c.val = false → (s.ni n.val).brkAt ≠ some s.cyc →
        ∃ q, t.int.inbox = s.int.inbox ++ [q] ∧ q.code = 0x30 + 2 ^ c.val) ∧
      (∀ (l : List Report) (q : Report), Nat.testBit (s.ni n.val).named c.val = false →
        (s.ni n.val).brkAt = some s.cyc → s.int.inbox = l ++ [q] → q.unit = 0x1500 + n.val → 0x30 < q.code →
        q.code < 0x40 → t.int.inbox = l ++ [{ q with code := q.code + 2 ^ c.val }]) ∧
      (Nat.testBit (s.ni n.val).named c.val = true → t.int = s.int)

/-- The states of a Shaga link. TRAIN_DONE of a link in TRAIN takes it to IDENT and sends one IDENT cell. IDENT of
another device, with both ends asking for no authentication, takes a link with a measurement to UP; an IDENT with the
own device ID shows a conflict and the link stays; where an end asks for authentication the link enters AUTH.
LINK_RETRAIN of a link in conflict, and LINK_DOWN and LCTL_TIMEOUT of a link beyond TRAIN, return it to TRAIN; a drop is
counted and shown. In AUTH, STEP 0 records the peer's nonce, STEP 2 its signature, and STEP 3 takes a measured link
without conflict to UP, with AUTHOK when the own end authenticates and accepts the peer, and without it when the own end
asks for no authentication. The checks of certificate and signature are uninterpreted (log 9) (R242, R258) -/
def Obligations.ShagaLinkStates : Prop :=
  ∀ (l : Fin 32) (s : State),
    (s.linkState l.val = 1 → ∃ t c, exec (.trainDone l) s = .next t ∧ t.linkState l.val = 2 ∧ (t.link l.val).tx = [c] ∧
      cCtype c = 8 ∧ cSrc c = s.did ∧ t.can = s.can) ∧
    (∀ (did : BitVec 14) (code : BitVec 5) (au : BitVec 2), s.linkState l.val = 2 →
      (did.toNat ≠ s.did → s.regF Reg.shgCfg 5 4 = 0 → au = 0#2 → (s.link l.val).conflict = false →
        (s.link l.val).rts ≠ [] → ∃ t, exec (.ident l did code au) s = .next t ∧ t.linkState l.val = 4 ∧
          t.regF (Reg.shgLpeer l.val) 13 0 = did.toNat) ∧
      (did.toNat = s.did → ∃ t, exec (.ident l did code au) s = .next t ∧ t.linkState l.val = 2 ∧
        (t.link l.val).conflict = true ∧ t.regB (Reg.shgLstat l.val) 7 = true ∧ t.regB Reg.shgStat 5 = true) ∧
      (did.toNat ≠ s.did → s.regF Reg.shgCfg 5 4 ≠ 0 → ∃ t c, exec (.ident l did code au) s = .next t ∧
        t.linkState l.val = 3 ∧ (t.link l.val).tx = [c] ∧ cCtype c = 7)) ∧
    (2 ≤ s.linkState l.val →
      ((s.link l.val).conflict = true → ∃ t, exec (.linkRetrain l) s = .next t ∧ t.linkState l.val = 1 ∧
        (t.link l.val).conflict = false) ∧
      (∃ t, exec (.linkDown l) s = .next t ∧ t.linkState l.val = 1 ∧ s.counts t (Reg.shgLdown l.val) 1 ∧
        t.regB (Reg.shgLstat l.val) 5 = true ∧ (t.link l.val).wait = []) ∧
      (∃ t, exec (.lctlTimeout l) s = .next t ∧ t.linkState l.val = 1 ∧ s.counts t (Reg.shgLdown l.val) 1)) ∧
    (s.linkState l.val < 2 → exec (.linkDown l) s = .next s ∧ exec (.lctlTimeout l) s = .next s) ∧
    ∀ (body : BitVec 576) (d : List Byte), s.linkState l.val = 3 →
      d = (List.range (Nat.min 64 (bitsOf body.toNat 15 8))).map (fun i => BitVec.ofNat 8 (body.toNat / 2 ^ (16 + 8 * i))) →
      (bitsOf body.toNat 3 0 = 0 → ∃ t, exec (.auth l body) s = .next t ∧
        (t.link l.val).auth.peer = some (BitVec.ofNat 256 (leAt d 0 32)) ∧ t.regs = s.regs) ∧
      (bitsOf body.toNat 3 0 = 2 → ∃ t, exec (.auth l body) s = .next t ∧ (t.link l.val).auth.sig = d ∧ t.regs = s.regs) ∧
      (bitsOf body.toNat 3 0 = 3 → (s.link l.val).rts ≠ [] → (s.link l.val).conflict = false →
        (s.link l.val).peerAuth.isSome = true →
        (s.regF Reg.shgCfg 5 4 = 0 → ∃ t, exec (.auth l body) s = .next t ∧ t.linkState l.val = 4 ∧
          t.regB (Reg.shgLstat l.val) 4 = s.regB (Reg.shgLstat l.val) 4) ∧
        (s.regF Reg.shgCfg 5 4 ≠ 0 → s.accepts? l.val d = true → ∃ t, exec (.auth l body) s = .next t ∧
          t.linkState l.val = 4 ∧ t.regB (Reg.shgLstat l.val) 4 = true))

/-- Cells, credits and routes. CREDIT adds to the credits of a link without waiting cells, at most 64 each; CREDIT_SEND
sends one cell and returns what was owed. A flit cell with a failing header check is counted in SHG_LCRC and discarded;
a good FAULT cell for the own device reaches the collector's inbox; another one goes on, with its hop index one higher,
on the link its route names, if that link is UP and holds credit, and its place in the receive buffer is owed as a
credit. A token the engine holds for another device leaves on the first link of the own route; without a route it is
counted. FOLD_SEND hands a sound folded report on. SDAT that carries a whole frame delivers it to its ingress stream,
or, without an ingress path, is counted in SHG_TUNDROP. RTCMD writes and reads the indexed route entry (R243, R245,
R246, R247, R251, R252, R259) -/
def Obligations.ShagaCells : Prop :=
  (∀ (l : Fin 32) (c0 c1 c2 c3 : Byte) (s : State), 2 ≤ s.linkState l.val →
    ((s.link l.val).wait = [] → ∃ t, exec (.credit l c0 c1 c2 c3) s = .next t ∧
      (t.link l.val).cr0 = Nat.min 64 ((s.link l.val).cr0 + c0.toNat) ∧
      (t.link l.val).cr1 = Nat.min 64 ((s.link l.val).cr1 + c1.toNat) ∧
      (t.link l.val).cr2 = Nat.min 64 ((s.link l.val).cr2 + c2.toNat) ∧
      (t.link l.val).cr3 = Nat.min 64 ((s.link l.val).cr3 + c3.toNat) ∧ t.regs = s.regs) ∧
    ∃ t c, exec (.creditSend l) s = .next t ∧ (t.link l.val).tx = [c] ∧ cCtype c = 8 ∧ (t.link l.val).ow0 = 0 ∧
      (t.link l.val).ow1 = 0 ∧ (t.link l.val).ow2 = 0 ∧ (t.link l.val).ow3 = 0) ∧
  (∀ (l : Fin 32) (h : BitVec 128) (b : BitVec 576) (c : Cell) (s : State), s.quiet = true → s.linkUpQ l.val = true →
    c = { hdr := h, body := b } →
    (cellGood h = false → ∃ t, exec (.flitCell l h b) s = .next t ∧ s.counts t (Reg.shgLcrc l.val) 1 ∧ t.shg = s.shg) ∧
    (cellGood h = true → cCtype c = 1 → cDst c = s.did → bitsOf (cellFlit c).toNat 47 44 = 5 →
      ∃ t, exec (.flitCell l h b) s = .next t ∧ t.regs = s.regs ∧
        t.int.inbox = s.int.inbox ++ [faultOf (cellFlit c).toNat (cellPay c).toNat]) ∧
    (cellGood h = true → (cCtype c = 1 ∨ cCtype c = 2) → cDst c ≠ s.did →
      (cCtype c = 1 → bitsOf (cellFlit c).toNat 47 44 ≠ 5) → cHidx c < 15 →
      ∀ k, k = hopCode (cRoute c) (cHidx c + 1) → k ≠ l.val → s.linkUpQ k = true → (s.link k).wait = [] →
        (s.link k).credit (cTc c) ≠ 0 → ∃ t g, exec (.flitCell l h b) s = .next t ∧ (t.link k).tx = [g] ∧
          cHidx g = cHidx c + 1 ∧ cDst g = cDst c ∧ cSrc g = cSrc c ∧ g.body = b ∧
          (t.link k).credit (cTc c) = (s.link k).credit (cTc c) - 1 ∧
          (cTc c = 0 → (t.link l.val).ow0 = (s.link l.val).ow0 + 1) ∧
          (cTc c = 2 → (t.link l.val).ow2 = (s.link l.val).ow2 + 1))) ∧
  (∀ (dev : Nat) (tk : Token) (s : State), s.quiet = true → s.shg.outq = [.token dev tk] → dev ≠ s.did → dev < 16384 →
    (s.shgRouteOf dev = none → ∃ t, exec .remoteOriginate s = .next t ∧ t.shg.outq = [] ∧ s.counts t Reg.shgNoroute 1) ∧
    (∀ rt, s.shgRouteOf dev = some rt → s.linkUpQ (hopCode rt 0) = true → (s.link (hopCode rt 0)).wait = [] →
      (s.link (hopCode rt 0)).credit 2 ≠ 0 → ∃ t g, exec .remoteOriginate s = .next t ∧ t.shg.outq = [] ∧
        (t.link (hopCode rt 0)).tx = [g] ∧ cDst g = dev ∧ cSrc g = s.did ∧ t.regs = s.regs)) ∧
  (∀ (i : Fin 64) (e : FoldE) (s : State), s.shg.fold.get i.val none = some e → s.wordEcc 10 (utbFold i.val) = .ok →
    ∃ t r, exec (.foldSend i) s = .next t ∧
    t.shg.fold.get i.val none = none ∧ t.shg.outq = s.shg.outq ++ [.fault e.dst r] ∧ r.code = e.rep.code ∧
    r.count = e.rep.count ∧ t.regs = s.regs) ∧
  (∀ (src : BitVec 14) (p : List Byte) (m : Byte) (s : State), s.hasShaga = true → s.released = true →
    Nat.testBit (leAt p 0 8) 10 = true → Nat.testBit (leAt p 0 8) 11 = true → s.shg.tfr = [] → s.shg.rnum = [] →
    s.tunHeld + 9216 ≤ 65536 →
    let sid := bitsOf (leAt p 0 8) 9 0
    let e0 := s.reg (Reg.spxIng0 sid)
    (s.ingressPath sid = false → ∃ t, exec (.sdat src p m) s = .next t ∧ s.counts t Reg.shgTundrop 1 ∧
      t.str.tunnel = s.str.tunnel ∧ t.can = s.can) ∧
    (s.ingressPath sid = true → s.stripeBlocked (e0.bits 26 20) (e0.bits 30 27 + 1) = false →
      ∃ t d, exec (.sdat src p m) s = .next t ∧ t.str.tunnel = s.str.tunnel ++ [d] ∧ d.sid = sid ∧
        d.pbase = e0.bits 26 20 ∧ d.ports = e0.bits 30 27 + 1 ∧ d.order = s.str.order ∧
        d.held = Nat.min (p.length - 8) (bitsOf (leAt p 0 8) 19 12 + 1) ∧
        t.str.seqNo.get sid 0 = (s.str.seqNo.get sid 0 + 1) % 4294967296 ∧ t.regs = s.regs ∧ t.can = s.can)) ∧
  ∀ s : State, s.opens .shg →
    (∃ t, exec .rtcmdWrite s = .next t ∧ t.regs = s.regs ∧ t.shg.routes.get (s.regF Reg.shgRtidx 13 0) 0 =
      (s.reg Reg.shgRtw0).toNat + (s.reg Reg.shgRtw1).toNat * 2 ^ 32 + (s.reg Reg.shgRtw2).toNat * 2 ^ 64) ∧
    ∃ t, exec .rtcmdRead s = .next t ∧ t.shg = s.shg ∧
      t.reg Reg.shgRtw0 = word (s.shg.routes.get (s.regF Reg.shgRtidx 13 0) 0)

/-- Delay measurement, beacons and the system latch. DREQ_SEND sends one DREQ cell and remembers its SEQ and T1; DREQ is
answered with one DRSP cell; DRSP with the outstanding SEQ in time records the round trip. BEACON_SEND of an exportable
axis with no extra beacon waiting sends one beacon cell where SHG_LXP exports it, whose AGE is a part of one EKL cycle,
which the model leaves free (log 66). A beacon for exactly one enabled remote axis of the link, in an opened cycle, sets
its velocity and its moving flag and ends its LOST; no other axis changes. A SKETCH cell seen before changes nothing; a
new one is remembered and sent on over every other UP link with SKFWD, with the origin as its SRC. With a Sketch
enabled, free and without a trigger, SYSTEM_LATCH at a latch that is hit and SKLATE raise the trigger for the next
cycle, SKLATE as late and shown in SHG_STAT. What opens an EKL cycle of an axis is the model's reading (log 3) (R253,
R254, R255, R257) -/
def Obligations.ShagaTime : Prop :=
  (∀ (l : Fin 32) (s : State), 2 ≤ s.linkState l.val →
    (∀ t1 : BitVec 64, ∃ t c, exec (.dreqSend l t1) s = .next t ∧ (t.link l.val).tx = [c] ∧ cCtype c = 4 ∧
      (t.link l.val).dpend = some ((s.link l.val).dseq, t1.toNat) ∧
      (t.link l.val).dseq = ((s.link l.val).dseq + 1) % 256 ∧ t.regs = s.regs) ∧
    (∀ (t1 t2 t3 : BitVec 64) (q : Byte), ∃ t c, exec (.dreq l t1 q t2 t3) s = .next t ∧ (t.link l.val).tx = [c] ∧
      cCtype c = 5 ∧ t.regs = s.regs) ∧
    (∀ (t1 t2 t3 t4 : BitVec 64) (q : Byte) (u : Nat), (s.link l.val).dpend = some (q.toNat, u) →
      (t4 - t1).toNat ≤ 125000 * 65536 → ∃ t, exec (.drsp l t1 t2 t3 q t4) s = .next t ∧ (t.link l.val).dpend = none ∧
        (t.link l.val).rts = (((t4 - t1) - (t3 - t2)).toInt :: (s.link l.val).rts).take 16 ∧
        t.reg (Reg.shgLrtt l.val) = wordI ((t4 - t1) - (t3 - t2)).toInt)) ∧
  (∀ (l : Fin 32) (n : Fin 16) (s : State), s.linkUpQ l.val = true →
    (s.exportable n.val = false → exec (.beaconSend l n) s = .next s) ∧
    (s.exportable n.val = true → (s.link l.val).extra = [] → s.regB (Reg.shgLxp l.val) n.val = true →
      ∃ t age, age < 65536 ∧ exec (.beaconSend l n) s = .next t ∧
        (t.link l.val).tx = [s.localCell l.val 3 (BitVec.ofNat 576 ((s.beaconBody n.val).toNat + age * 2 ^ 128))] ∧
        t.regs = s.regs ∧ t.eas = s.eas) ∧
    ∀ (b : BitVec 576) (ta : BitVec 64),
      (∀ k : Fin 16, (axEn (s.reg (Reg.axCfg k.val)) && axSrc (s.reg (Reg.axCfg k.val)) == 5 &&
          (s.reg (Reg.shgRax k.val)).bit 5 && (s.reg (Reg.shgRax k.val)).bits 4 0 == l.val &&
          s.regF (Reg.axPin k.val) 13 0 == bitsOf b.toNat 173 160 &&
          s.regF (Reg.axPin k.val) 19 16 == bitsOf b.toNat 177 174) = decide (k = n)) →
      (s.axis n.val).opened = true →
      ∃ t, exec (.beacon l b ta) s = .next t ∧ (t.axis n.val).lost = false ∧
        (t.axis n.val).rmoving = Nat.testBit b.toNat 182 ∧
        (t.axis n.val).rvel = (if Nat.testBit b.toNat 182 then sextN (bitsOf b.toNat 127 64) 64 else 0) ∧
        t.shg.hops.get n.val 0 = bitsOf b.toNat 181 178 ∧ ∀ k, k ≠ n.val → t.axis k = s.axis k) ∧
  (∀ (l : Fin 32) (b : BitVec 576) (s : State), s.linkUpQ l.val = true →
    (s.shg.skseq.get (bitsOf b.toNat 13 0) none = some (bitsOf b.toNat 21 14) → exec (.sketchCell l b) s = .next s) ∧
    (s.shg.skseq.get (bitsOf b.toNat 13 0) none ≠ some (bitsOf b.toNat 21 14) → s.regB Reg.shgSkcfg 4 = false →
      ∃ t, exec (.sketchCell l b) s = .next t ∧
        t.shg.skseq.get (bitsOf b.toNat 13 0) none = some (bitsOf b.toNat 21 14) ∧ t.regs = s.regs ∧
        ∀ k : Fin 32, k ≠ l → (s.linkUpQ k.val && s.regB (Reg.shgLcfg k.val) 5) = true →
          (t.link k.val).tx =
            [{ hdr := mkHdr 6 0 0 (s.regF (Reg.shgLpeer k.val) 13 0) (bitsOf b.toNat 13 0) 0, body := b }])) ∧
  ∀ (x : SysLatch) (s : State), s.shg.latch = some x →
    (s.latchHit x = false → exec .systemLatch s = .next s) ∧
    (s.regB Reg.mgtSkctrl 0 = true → s.released = true → s.sk.locked = false → s.sk.t0 = none →
      (s.latchHit x = true → ∃ t, exec .systemLatch s = .next t ∧ t.shg.latch = none ∧ t.sk.t0 = some (s.cyc + 1) ∧
        t.sk.src = 2 ∧ t.sk.tdev = x.tdev ∧ t.sk.seq = x.seq ∧ t.sk.late = false) ∧
      ∃ t, exec .sklate s = .next t ∧ t.shg.latch = none ∧ t.sk.t0 = some (s.cyc + 1) ∧ t.sk.late = true ∧
        t.regB Reg.shgStat 7 = true)

/-- Instruction words of the conductors. For every instruction with operand fields it may have, its word decodes to that
instruction and holds every operand of its format; and every word that decodes to an instruction is the word of that
instruction with the operands read from it, which it may have. So no two instructions share a word and no bit of a legal
word is ignored (R267, R268, R274, R275, R277) -/
def Obligations.ConductorWords : Prop :=
  (∀ (op : COp) (f : CFields), legalC op f = true →
    decodeC (encodeC op f) = some op ∧ sameOperands op (fieldsC (encodeC op f)) f) ∧
  ∀ (w : Word) (op : COp), decodeC w = some op → legalC op (fieldsC w) = true ∧ encodeC op (fieldsC w) = w

/-- Arithmetic of the conductors. A conductor that issues an ALU instruction, of format R or I, writes the result of
Tables CO-5 and CO-6 to rd and Z, N, C and V to sr, moves pc on by 4 and changes nothing else; LUI writes its immediate
and leaves sr. A division by 0 raises DIVZ and leaves rd. That the row names the core alone is the model's choice (log
13) (R265, R267, R268, R282) -/
def Obligations.ConductorArithmetic : Prop :=
  ∀ (op : COp) (c : Fin 8) (w : Word) (s : State), s.runsOne c.val w → decodeC w = some op →
    (∀ o, condAlu op w (s.gReg c.val (cRa w)) (s.gReg c.val (cRb w)) ((s.csr c.val).bit 2) = some o →
      ∃ t, exec (condInstr op c) s = .next t ∧ s.plainStep t c.val ∧ t.cpc c.val = s.cpc c.val + 4#32 ∧
        (∀ r, t.gReg c.val r = if r = cRd w then o.r else s.gReg c.val r) ∧
        (t.csr c.val).bits 3 0 = (if o.r = 0#32 then 1 else 0) + (if o.r.bit 31 then 2 else 0) + (if o.c then 4 else 0) +
          (if o.v then 8 else 0) ∧
        (t.csr c.val).bits 31 4 = (s.csr c.val).bits 31 4) ∧
    (op = .lui → ∃ t, exec (.lui c) s = .next t ∧ s.plainStep t c.val ∧ t.cpc c.val = s.cpc c.val + 4#32 ∧
      t.csr c.val = s.csr c.val ∧ ∀ r, t.gReg c.val r = if r = cRd w then w <<< 10 else s.gReg c.val r) ∧
    (op = .div ∨ op = .divu ∨ op = .rem ∨ op = .remu → s.gReg c.val (cRb w) = 0#32 → s.actBank c.val ≠ 0 →
      ∃ t, exec (condInstr op c) s = .next t ∧ s.trapsTo t c.val 8 0#32 ∧ s.sameOutside t c.val ∧
        ∀ r, (t.bank c.val (s.actBank c.val)).g.get r 0#32 = s.gReg c.val r)

/-- Loads and stores of the conductors. A load whose address lies in X, Y or cluster memory, is aligned and meets sound
words, writes the addressed byte, half (extended as the instruction says), word or pair of words to rd, and moves pc on;
it waits for a buffered store of the core to its cluster word. A store there, with no store buffered, changes exactly
the addressed bytes. A load of the register space holds the bank and issues one access. A store of the register space,
or one to cluster memory behind such a store, is buffered while fewer than eight are, and the core goes on; it stalls
while eight are. An address that no region holds, or that is misaligned, raises the address trap with that address. That
the row names the core alone, and that a load of a buffered word waits, is the model's choice (log 13, 43) (R263, R264,
R267, R269, R271, R273) -/
def Obligations.ConductorLoadsAndStores : Prop :=
  (∀ (c : Fin 8) (w a v : Word) (op : COp) (sz : Nat) (un : Bool) (s : State), s.runsOne c.val w → decodeC w = some op →
    (op, sz, un) ∈ [(COp.ldb, 0, false), (.ldbu, 0, true), (.ldh, 1, false), (.ldhu, 1, true), (.ldw, 2, false),
      (.ldd, 3, false)] → a = s.gReg c.val (cRa w) + wordI (cSimm w) →
    (plainRegion a.toNat = true → a.toNat % 2 ^ sz = 0 → s.pendingAt c.val a.toNat = false →
      s.cRead c.val (a.toNat / 4 * 4) = (some v, s) →
      (op ≠ .ldd → ∃ t, exec (condInstr op c) s = .next t ∧ s.plainStep t c.val ∧ t.cpc c.val = s.cpc c.val + 4#32 ∧
        t.csr c.val = s.csr c.val ∧
        ∀ r, t.gReg c.val r = if r = cRd w then loadValue v a.toNat sz un else s.gReg c.val r) ∧
      (∀ v2, op = .ldd → s.cRead c.val (a.toNat + 4) = (some v2, s) →
        ∃ t, exec (.ldd c) s = .next t ∧ s.plainStep t c.val ∧ t.cpc c.val = s.cpc c.val + 4#32 ∧
          ∀ r, t.gReg c.val r = if r = cRd w then v else if r = cRd w + 1 then v2 else s.gReg c.val r)) ∧
    (regionOf a.toNat = .cl → a.toNat % 2 ^ sz = 0 → s.pendingAt c.val a.toNat = true →
      exec (condInstr op c) s = .next s) ∧
    (regionOf a.toNat = .reg → a.toNat % 2 ^ sz = 0 → ∃ t q, exec (condInstr op c) s = .next t ∧
      (t.bank c.val (s.actBank c.val)).load = true ∧ (t.core c.val).bus = (s.core c.val).bus ++ [q] ∧ q.load = true ∧
      q.addr = a ∧ q.rd = cRd w ∧ t.cpc c.val = s.cpc c.val ∧ t.regs = s.regs ∧ s.sameOutside t c.val) ∧
    (regionOf a.toNat = .bad ∨ a.toNat % 2 ^ sz ≠ 0 → s.actBank c.val ≠ 0 →
      ∃ t, exec (condInstr op c) s = .next t ∧ s.trapsTo t c.val 2 a ∧ s.sameOutside t c.val)) ∧
  ∀ (c : Fin 8) (w a old : Word) (op : COp) (sz : Nat) (s : State), s.runsOne c.val w → decodeC w = some op →
    (op, sz) ∈ [(COp.stb, 0), (.sth, 1), (.stw, 2), (.std, 3)] → a = s.gReg c.val (cRa w) + wordI (cSimm w) →
    (plainRegion a.toNat = true → a.toNat % 2 ^ sz = 0 → (s.core c.val).bus = [] →
      s.cRead c.val (a.toNat / 4 * 4) = (some old, s) →
      (op ≠ .std → ∃ t, exec (condInstr op c) s = .next t ∧ s.sameOutside t c.val ∧ t.regs = s.regs ∧
        t.cpc c.val = s.cpc c.val + 4#32 ∧ (∀ r, t.gReg c.val r = s.gReg c.val r) ∧
        (t.cRead c.val (a.toNat / 4 * 4)).1 = some (if sz = 2 then s.gReg c.val (cRd w) else
          mergeMask old (s.gReg c.val (cRd w) <<< (8 * (a.toNat % 4))) ((2 ^ (2 ^ sz) - 1) * 2 ^ (a.toNat % 4))) ∧
        ∀ b, b % 4 = 0 → plainRegion b = true → b ≠ a.toNat / 4 * 4 →
          (t.cRead c.val b).1 = (s.cRead c.val b).1) ∧
      (∀ old2, op = .std → s.cRead c.val (a.toNat + 4) = (some old2, s) →
        ∃ t, exec (.std c) s = .next t ∧ s.sameOutside t c.val ∧ t.cpc c.val = s.cpc c.val + 4#32 ∧
          (t.cRead c.val a.toNat).1 = some (s.gReg c.val (cRd w)) ∧
          (t.cRead c.val (a.toNat + 4)).1 = some (s.gReg c.val (cRd w + 1)) ∧
          ∀ b, b % 4 = 0 → plainRegion b = true → b ≠ a.toNat → b ≠ a.toNat + 4 →
            (t.cRead c.val b).1 = (s.cRead c.val b).1)) ∧
    (a.toNat % 2 ^ sz = 0 → ((s.core c.val).bus.filter (fun q => !q.load)).length < 8 →
      regionOf a.toNat = .reg ∧ (∀ q, (s.core c.val).bus.find? (fun q => !q.load) = some q → regionOf q.addr.toNat ≠ .cl) ∨
        regionOf a.toNat = .cl ∧ s.cRead c.val (a.toNat / 4 * 4) = (some old, s) ∧
          (∃ q, (s.core c.val).bus.find? (fun q => !q.load) = some q ∧ regionOf q.addr.toNat ≠ .cl) →
      ∃ t q, exec (condInstr op c) s = .next t ∧ (t.core c.val).bus = (s.core c.val).bus ++ [q] ∧ q.load = false ∧
        q.addr = a ∧ q.data = s.gReg c.val (cRd w) ∧ s.plainStep t c.val ∧ t.cpc c.val = s.cpc c.val + 4#32) ∧
    (a.toNat % 2 ^ sz = 0 → 8 ≤ ((s.core c.val).bus.filter (fun q => !q.load)).length →
      regionOf a.toNat = .reg ∨ regionOf a.toNat = .cl → exec (condInstr op c) s = .next s) ∧
    (regionOf a.toNat = .bad ∨ a.toNat % 2 ^ sz ≠ 0 → s.actBank c.val ≠ 0 →
      ∃ t, exec (condInstr op c) s = .next t ∧ s.trapsTo t c.val 2 a ∧ s.sameOutside t c.val)

/-- Control flow, tokens, special registers and banks of the conductors. NOP, and SYNC with no store waiting and no
failed store, only move pc on; B moves pc by its displacement when its condition holds; CALL, JALR and JR set pc and the
link register; RPT before an instruction it may repeat arms the repetitions, or skips that instruction when they are
none; TRAP takes a software trap and BREAK halts the core in debugging and traps otherwise. POST with room and credit
sends one token. MFS, MTS, BKRD and BKWR move a special register or a register of a bank, and RTT and RTTN return from
b0 to the bank that trapped; where they may not they raise ILLEGAL. DONE in a thread bank leaves the core idle when
nothing is to run next. That the row names the core alone is the model's choice (log 13) (R266, R267, R271, R272, R278,
R281, R282, R283) -/
def Obligations.ConductorControl : Prop :=
  ∀ (op : COp) (c : Fin 8) (w : Word) (s : State), s.runsOne c.val w → decodeC w = some op →
    let x := s.core c.val
    let b := s.actBank c.val
    let illegal : Prop := ∃ t, exec (condInstr op c) s = .next t ∧ s.trapsTo t c.val 1 w ∧ s.sameOutside t c.val
    (op = .nop → exec (.nopOp c) s = .next (s.setCpc c.val (s.cpc c.val + 4#32))) ∧
    (op = .sync → x.bus = [] → (x.syncErr = false → exec (.sync c) s = .next (s.setCpc c.val (s.cpc c.val + 4#32))) ∧
      (x.syncErr = true → b ≠ 0 → ∃ t, exec (.sync c) s = .next t ∧
        s.trapsTo t c.val 3 (s.reg (Reg.cndWerraddr c.val)))) ∧
    (op = .b → exec (.branch c) s = .next (s.setCpc c.val (if condC (cRd w) (s.csr c.val)
      then s.cpc c.val + wordI (4 * sextN (w.bits 21 0) 22) else s.cpc c.val + 4#32))) ∧
    (op = .jr → exec (.jr c) s = .next (s.setCpc c.val (s.gReg c.val (cRa w)))) ∧
    (op = .call → ∃ t, exec (.callOp c) s = .next t ∧ s.plainStep t c.val ∧ t.csr c.val = s.csr c.val ∧
      t.cpc c.val = s.cpc c.val + wordI (4 * sextN (w.bits 25 0) 26) ∧
      ∀ r, t.gReg c.val r = if r = 14 then s.cpc c.val + 4#32 else s.gReg c.val r) ∧
    (op = .jalr → ∃ t, exec (.jalr c) s = .next t ∧ s.plainStep t c.val ∧ t.cpc c.val = s.gReg c.val (cRa w) ∧
      ∀ r, t.gReg c.val r = if r = cRd w then s.cpc c.val + 4#32 else s.gReg c.val r) ∧
    (∀ v o n, op = .rpt → s.peekC c.val (s.cpc c.val + 4#32) = some v → decodeC v = some o →
      n = (if w.bit 12 then Nat.min ((s.gReg c.val (cRa w)).bits 12 0) 4096 else w.bits 11 0 + 1) →
      (repeatable o = true → n ≠ 0 → ∃ t, exec (.rpt c) s = .next t ∧ (t.core c.val).rpt = some n ∧
        t.cpc c.val = s.cpc c.val + 4#32 ∧ s.plainStep t c.val) ∧
      (repeatable o = true → n = 0 → exec (.rpt c) s = .next (s.setCpc c.val (s.cpc c.val + 8#32))) ∧
      (repeatable o = false → b ≠ 0 → illegal)) ∧
    (op = .trap → b ≠ 0 → ∃ t, exec (.trapOp c) s = .next t ∧ s.trapsTo t c.val 9 (word (cImm w))) ∧
    (op = .break → (s.regB (Reg.cndCtrl c.val) 1 = true → ∃ t, exec (.breakOp c) s = .next t ∧
        t.coreHalted c.val = true ∧ t.cpc c.val = s.cpc c.val + 4#32 ∧ s.plainStep t c.val) ∧
      (s.regB (Reg.cndCtrl c.val) 1 = false → b ≠ 0 → ∃ t, exec (.breakOp c) s = .next t ∧
        s.trapsTo t c.val 10 0#32)) ∧
    (op = .post → x.posts = [] → s.domFenced 10 = false → s.maySend (6 + c.val) = true →
      ∃ t tk, exec (.post c) s = .next t ∧ t.cpc c.val = s.cpc c.val + 4#32 ∧ (t.core c.val).posts = [] ∧
        (t.chan (6 + c.val)).transit = (s.chan (6 + c.val)).transit ++ [tk] ∧ tk.tid = (s.gReg c.val (cRa w)).bits 9 0 ∧
        tk.slot = (s.gReg c.val (cRa w)).bits 11 10 ∧ tk.val = s.gReg c.val (cRd w) ∧
        (∀ r, t.gReg c.val r = s.gReg c.val r) ∧ t.mem = s.mem ∧ t.can = s.can) ∧
    (op = .mfs → extNum (w.bits 17 12) = false → w.bits 17 12 ≠ 5 →
      (∀ v, s.special c.val (w.bits 17 12) = some v → ∃ t, exec (.mfs c) s = .next t ∧ s.plainStep t c.val ∧
        t.cpc c.val = s.cpc c.val + 4#32 ∧ ∀ r, t.gReg c.val r = if r = cRd w then v else s.gReg c.val r) ∧
      (s.special c.val (w.bits 17 12) = none → b ≠ 0 → illegal)) ∧
    (op = .mts → (w.bits 17 12 = 0 → ∃ t, exec (.mts c) s = .next t ∧ s.plainStep t c.val ∧
        t.csr c.val = s.gReg c.val (cRa w) &&& 0x3F#32 ∧ t.cpc c.val = s.cpc c.val + 4#32) ∧
      (w.bits 17 12 = 1 → ∃ t, exec (.mts c) s = .next t ∧ s.plainStep t c.val ∧
        (t.bank c.val b).slh = s.gReg c.val (cRa w) ∧ t.csr c.val = s.csr c.val) ∧
      (2 ≤ w.bits 17 12 → w.bits 17 12 ≤ 6 → b ≠ 0 → illegal)) ∧
    (op = .bkrd ∨ op = .bkwr ∨ op = .rtt ∨ op = .rttn → x.active ≠ some 0 → b ≠ 0 → illegal) ∧
    (x.active = some 0 →
      (∀ v, op = .bkrd → (s.bank c.val (w.bits 11 9)).reg (w.bits 17 12) = some v →
        ∃ t, exec (.bkrd c) s = .next t ∧ s.plainStep t c.val ∧
          ∀ r, t.gReg c.val r = if r = cRd w then v else s.gReg c.val r) ∧
      (op = .bkwr → w.bits 17 12 < 16 → w.bits 11 9 ≠ 0 → ∃ t, exec (.bkwr c) s = .next t ∧ t.regs = s.regs ∧
        (∀ r, (t.bank c.val (w.bits 11 9)).g.get r 0#32 =
          if r = w.bits 17 12 then s.gReg c.val (cRa w) else (s.bank c.val (w.bits 11 9)).g.get r 0#32) ∧
        t.cpc c.val = s.cpc c.val + 4#32) ∧
      (∀ k, k = (s.reg (Reg.cndTcause c.val)).bits 10 8 → k ≠ 0 → (s.reg (Reg.cndTcause c.val)).bits 23 11 = 0 →
        (op = .rtt → ∃ t, exec (.rtt c) s = .next t ∧ (t.core c.val).active = some k ∧
          t.cpc c.val = s.reg (Reg.cndTpc c.val) ∧ (t.bank c.val k).state = 2 ∧ (t.bank c.val 0).state = 0 ∧
          (∀ r, (t.bank c.val k).g.get r 0#32 = (s.bank c.val k).g.get r 0#32) ∧ s.sameOutside t c.val) ∧
        (op = .rttn → ∃ t, exec (.rttn c) s = .next t ∧ (t.core c.val).active = some k ∧
          t.cpc c.val = s.reg (Reg.cndTpc c.val) + 4#32 ∧ s.sameOutside t c.val))) ∧
    (∀ k p, op = .done → x.active = some k → k ≠ 0 → x.run = some ((x.bank k).tid, p) → x.stack = [] →
      s.regF Reg.disCtrl 1 0 = 0 → (s.thread (x.bank k).tid).complete = false → (s.thread (x.bank k).tid).dying = false →
      ∃ t, exec (.doneOp c) s = .next t ∧ (t.core c.val).active = none ∧ (t.core c.val).run = none ∧
        (t.bank c.val k).state = 1 ∧ (t.bank c.val k).pc = s.cpc c.val + 4#32 ∧ t.regs = s.regs)

/-- Pointers, accumulators and save lists of the conductors. In a bank whose extended state is live: an X-format
instruction without moves sets its accumulator to the result of Table CO-8, saturated to 72 bits, and sets the overflow
bit of sr when it saturates; NONE with one load move loads its register and advances its pointer. EXTR, SCLA, EXPB and
BXC act as R277 says; a pointer access loads or stores a word and makes the pointer update of its mode. In another bank,
an extended instruction waits while the owner's state is saved. SAVEL and SAVEU write the next free node and move slh to
it, and RESTL, RESTLJ and RESTU load a full node and move slh back; an empty node raises its trap. That the row names
the core alone is the model's choice (log 13) (R274, R275, R276, R277, R285, R286) -/
def Obligations.ConductorExtendedRegisters : Prop :=
  ∀ (op : COp) (c : Fin 8) (w : Word) (s : State), s.runsOne c.val w → decodeC w = some op →
    let x := s.core c.val
    let b := s.actBank c.val
    (b ≠ 0 → (x.bank b).xst ≠ 1 → x.xown ≠ 0 → x.xown ≠ b → (x.bank x.xown).xst = 1 → (x.bank x.xown).xbad = false →
      op ∈ dspOps ++ extOps ++ [COp.pointer] → ∃ t, exec (condInstr op c) s = .next t ∧
        (t.core c.val).save = some x.xown ∧ (t.core c.val).want = some b ∧ t.cpc c.val = s.cpc c.val ∧ t.regs = s.regs) ∧
    ((x.bank b).xst = 1 →
      (op ∈ dspOps → w.bit 12 = false → w.bit 6 = false →
        ∃ t, exec (condInstr op c) s = .next t ∧ s.sameOutside t c.val ∧ t.regs = s.regs ∧
          t.cpc c.val = s.cpc c.val + 4#32 ∧ (∀ r, t.gReg c.val r = s.gReg c.val r) ∧
          (∀ i : Fin 2, (t.core c.val).acc i.val =
            if i.val = w.bits 21 21 then ((dspResult op (x.acc i.val) (s.gReg c.val (w.bits 20 17))
              (s.gReg c.val (w.bits 16 13))).map (satInt 72)).getD (x.acc i.val) else x.acc i.val) ∧
          (dspResult op (x.acc (w.bits 21 21)) (s.gReg c.val (w.bits 20 17)) (s.gReg c.val (w.bits 16 13)) = none →
            t.csr c.val = s.csr c.val) ∧
          (∀ r, dspResult op (x.acc (w.bits 21 21)) (s.gReg c.val (w.bits 20 17)) (s.gReg c.val (w.bits 16 13)) = some r →
            t.csr c.val = if outRange 72 r then s.csr c.val ||| 0x10#32 else s.csr c.val)) ∧
      (∀ a v, op = .none → w.bit 12 = true → w.bit 11 = false → w.bit 6 = false →
        a = x.p.get (w.bits 8 7) 0#32 → a.toNat < 0x10000 → a.toNat % 4 = 0 → s.cRead c.val a.toNat = (some v, s) →
        ∃ t, exec (.noneOp c) s = .next t ∧ t.gReg c.val (4 + w.bits 10 9) = v ∧ t.cpc c.val = s.cpc c.val + 4#32 ∧
          (t.core c.val).p.get (w.bits 8 7) 0#32 =
            advance a (x.m.get (w.bits 8 7) 0#32) (x.l.get (w.bits 8 7) 0#32) ∧ (t.core c.val).a0 = x.a0) ∧
      (op = .extr → ∃ t, exec (.extr c) s = .next t ∧ t.gReg c.val (cRd w) = wordI (satInt 32 (rne (x.acc (w.bits 17 17)) (cE w))) ∧
        t.csr c.val = (if outRange 32 (rne (x.acc (w.bits 17 17)) (cE w)) then s.csr c.val ||| 0x20#32 else s.csr c.val) ∧
        s.plainStep t c.val) ∧
      (op = .scla → ∃ t, exec (.scla c) s = .next t ∧
        (t.core c.val).acc (w.bits 17 17) = rne (x.acc (w.bits 17 17)) (cE w) ∧
        (t.core c.val).acc (1 - w.bits 17 17) = x.acc (1 - w.bits 17 17) ∧ ∀ r, t.gReg c.val r = s.gReg c.val r) ∧
      (op = .expb → ∃ t, exec (.expb c) s = .next t ∧ s.plainStep t c.val ∧
        (t.core c.val).head = Nat.min x.head (cls32 (s.gReg c.val (cRa w))) ∧ ∀ r, t.gReg c.val r = s.gReg c.val r) ∧
      (op = .bxc → ∃ t, exec (.bxc c) s = .next t ∧ s.plainStep t c.val ∧ (t.core c.val).head = 31 ∧
        (t.core c.val).exp = Nat.min (x.exp + (cE w - x.head)) 255 ∧ t.gReg c.val (cRd w) = word (cE w - x.head)) ∧
      (∀ a old, op = .pointer → w.bits 17 16 = 2 → w.bits 15 14 = 1 → a = x.p.get (w.bits 21 19) 0#32 → x.bus = [] →
        plainRegion a.toNat = true → a.toNat % 4 = 0 → s.cRead c.val a.toNat = (some old, s) →
        ∃ t, exec (.pointerAccess c) s = .next t ∧ t.cpc c.val = s.cpc c.val + 4#32 ∧ t.regs = s.regs ∧
          (t.core c.val).p.get (w.bits 21 19) 0#32 = a + x.m.get (w.bits 13 11) 0#32 ∧
          (w.bit 18 = false → t.gReg c.val (cRd w) = old) ∧
          (w.bit 18 = true → (t.cRead c.val a.toNat).1 = some (s.gReg c.val (cRd w))))) ∧
    (∀ (h n : Word) (lo : Bool), op = (if lo then .savel else .saveu) → h = (s.bank c.val b).slh →
      s.pendingCl c.val = false → nodeOk h = true → s.cRead c.val h.toNat = (some n, s) → n ≠ 0#32 → n.toNat < 0x20000 →
      n.toNat % 64 = 0 →
      ∃ t, exec (condInstr op c) s = .next t ∧ (t.bank c.val b).slh = n ∧ t.cpc c.val = s.cpc c.val + 4#32 ∧
        (t.cRead c.val (n.toNat + 4)).1 = some h ∧ (t.cRead c.val (n.toNat + 8)).1 = some (if lo then 1#32 else 2#32) ∧
        (∀ i, i < 8 → (t.cRead c.val (n.toNat + 12 + 4 * i)).1 = some (s.gReg c.val ((if lo then 0 else 8) + i))) ∧
        (lo = true → (t.cRead c.val (n.toNat + 44)).1 = some (s.cpc c.val + 4#32) ∧
          (t.cRead c.val (n.toNat + 48)).1 = some (s.csr c.val)) ∧ t.regs = s.regs) ∧
    ∀ (h : Word) (ws : Nat → Word) (lo : Bool), (op = .restu ∧ lo = false ∨ (op = .restl ∨ op = .restlj) ∧ lo = true) →
      h = (s.bank c.val b).slh → s.pendingCl c.val = false → nodeOk h = true →
      (∀ i, i < 13 → s.cRead c.val (h.toNat + 4 * i) = (some (ws i), s)) →
      (ws 2 = (if lo then 1#32 else 2#32) → ∃ t, exec (condInstr op c) s = .next t ∧ (t.bank c.val b).slh = ws 1 ∧
        (∀ i, i < 8 → t.gReg c.val ((if lo then 0 else 8) + i) = ws (3 + i)) ∧
        t.cpc c.val = (if op = .restlj then ws 11 else s.cpc c.val + 4#32) ∧
        t.csr c.val = (if lo then ws 12 &&& 0x3F#32 else s.csr c.val) ∧ t.regs = s.regs) ∧
      (ws 2 = 0#32 → b ≠ 0 → ∃ t, exec (condInstr op c) s = .next t ∧ s.trapsTo t c.val 6 h)

/-- Events of a conductor core. ILLEGAL and FETCH_ADDR trap where the fetched word is no instruction and where pc cannot
be fetched from. A written HALT stops the core and STEP lets a halted one execute one instruction; CRST empties every
bank and keeps the memories. EXTENDED_SAVE_DONE writes the owner's registers to its area and hands them over;
EXTENDED_RESTORE_DONE loads the saved words. SWITCH_REQUEST of a dispatch starts the thread at its entry with its slot
values and leaves a running bank PREEMPTED, and one of a resumption runs the bank on. The response of a register load
writes rd and that of a store leaves the buffer; at a fence both fail, and a load behind a store to the same destination
waits. EVICT_DONE gives the saved bank to the thread that waits for it, and RELOAD_DONE restores both halves of a
thread's registers. How the engine's work is queued is the model's reading (log 64) (R263, R267, R269, R271, R280, R284,
R285, R286, R288) -/
def Obligations.ConductorEvents : Prop :=
  ∀ (c : Fin 8) (s : State),
    let x := s.core c.val
    (∀ w, s.issues c.val w → s.cleanFetch c.val → decodeC w = none → s.actBank c.val ≠ 0 →
      ∃ t, exec (.illegal c) s = .next t ∧ s.trapsTo t c.val 1 w ∧ s.sameOutside t c.val) ∧
    (s.canIssue c.val = true → s.coreHalted c.val = false → pcOk (s.cpc c.val) = false → s.actBank c.val ≠ 0 →
      ∃ t, exec (.fetchAddr c) s = .next t ∧ s.trapsTo t c.val 2 (s.cpc c.val) ∧ s.sameOutside t c.val) ∧
    (s.opens (.cnd c.val) →
      (x.rpt = none → ∃ t, exec (.coreHalt c true) s = .next t ∧ t.coreHalted c.val = true ∧ t.core c.val = x ∧
        ∀ a, a ≠ Reg.cndCtrl c.val → t.reg a = s.reg a) ∧
      (∃ t, exec (.coreHalt c false) s = .next t ∧ t.coreHalted c.val = false ∧ (t.core c.val).banks = x.banks ∧
        ∀ a, a ≠ Reg.cndCtrl c.val → t.reg a = s.reg a) ∧
      (∀ w, s.canIssue c.val = true → s.coreHalted c.val = true → s.peekC c.val (s.cpc c.val) = some w →
        s.cleanFetch c.val →
        (decodeC w = some .nop → ∃ t, exec (.coreStep c) s = .next t ∧ t.cpc c.val = s.cpc c.val + 4#32 ∧
          t.coreHalted c.val = true ∧ t.regs = s.regs) ∧
        (∀ op o, decodeC w = some op →
          condAlu op w (s.gReg c.val (cRa w)) (s.gReg c.val (cRb w)) ((s.csr c.val).bit 2) = some o →
          ∃ t, exec (.coreStep c) s = .next t ∧ t.gReg c.val (cRd w) = o.r ∧ t.cpc c.val = s.cpc c.val + 4#32 ∧
            t.coreHalted c.val = true ∧ t.regs = s.regs)) ∧
      ∃ t, exec (.crst c) s = .next t ∧ (t.core c.val).banks = [] ∧ (t.core c.val).active = none ∧
        (t.core c.val).a0 = 0 ∧ (t.core c.val).xmem = x.xmem ∧ (t.core c.val).imem = x.imem ∧
        ∀ k, k ≠ c.val → t.core k = s.core k) ∧
    (∀ o b, x.save = some o → x.want = some b → o ≠ b → x.rpt = none →
      (s.bank c.val o).xarea.toNat < 0x10000 - 160 → (s.bank c.val o).xarea.toNat % 8 = 0 →
      ∃ t, exec (.extendedSaveDone c) s = .next t ∧ (t.core c.val).save = none ∧ (t.core c.val).xown = b ∧
        (t.bank c.val b).xst = 1 ∧ (t.bank c.val o).xst = 2 ∧ (t.core c.val).a0 = 0 ∧
        s.counts t (Reg.cndXstall c.val) 40 ∧
        ∀ i, i < 8 → (t.cRead c.val ((s.bank c.val o).xarea.toNat + 4 * i)).1 = some (x.p.get i 0#32)) ∧
    (∀ b (ws : Nat → Word), x.restore = some b → x.save = none → x.active = some b → (s.bank c.val b).loadErr = none →
      (∀ i, i < 40 → s.cRead c.val ((s.bank c.val b).xarea.toNat + 4 * i) = (some (ws i), s)) →
      ∃ t, exec (.extendedRestoreDone c) s = .next t ∧ (t.core c.val).restore = none ∧ (t.core c.val).xown = b ∧
        (t.bank c.val b).xst = 1 ∧ t.gReg c.val 15 = s.gReg c.val 15 + 160#32 ∧
        ∀ i, i < 8 → (t.core c.val).p.get i 0#32 = ws i ∧ (t.core c.val).m.get i 0#32 = ws (8 + i)) ∧
    (∀ q rest, x.reqs = q :: rest → s.coreRuns c.val = true → x.rpt = none → (s.bank c.val q.bank).state ≠ 5 →
      (∀ tid, q.disp = some tid → x.active = none → ∃ t, exec (.switchRequest c) s = .next t ∧
        (t.core c.val).active = some q.bank ∧ (t.core c.val).reqs = rest ∧ t.cpc c.val = (s.thread tid).ent ∧
        t.csr c.val = 0#32 ∧ s.counts t (Reg.cndSwitch c.val) 1 ∧
        ∀ r, t.gReg c.val r = (q.vals.foldl (fun g p => SMap.set g p.1 p.2 0#32) (s.bank c.val q.bank).g).get r 0#32) ∧
      (∀ tid a, q.disp = some tid → x.active = some a → a ≠ 0 → a ≠ q.bank → x.restore = none →
        ∃ t, exec (.switchRequest c) s = .next t ∧ (t.core c.val).active = some q.bank ∧
          t.cpc c.val = (s.thread tid).ent ∧ (t.bank c.val a).state = 3 ∧ (t.bank c.val a).pc = (s.bank c.val a).pc ∧
          (t.bank c.val a).xarea = (s.bank c.val a).g.get 15 0#32 - 160#32) ∧
      (q.disp = none → x.active = none → (s.bank c.val q.bank).xst = 0 → (s.bank c.val q.bank).loadErr = none →
        ∃ t, exec (.switchRequest c) s = .next t ∧ (t.core c.val).active = some q.bank ∧ (t.core c.val).reqs = rest ∧
          t.cpc c.val = (s.bank c.val q.bank).pc ∧ (t.bank c.val q.bank).state = 2 ∧
          t.gReg c.val 15 = (s.bank c.val q.bank).g.get 15 0#32 + 160#32)) ∧
    (∀ q, x.bus = [q] → q.sent = false → q.addr = word (0x40000000 + Reg.disInjv) → q.size = 2 → q.ptr = none →
      s.quiet = true → s.conforms (36 + c.val / 4) 2 = true →
      (s.domFenced 10 = false → s.opens .dis →
        (q.load = false → ∃ t, exec (.storeResponse c) s = .next t ∧ (t.core c.val).bus = [] ∧
          t.reg Reg.disInjv = q.data ∧ (t.core c.val).syncErr = x.syncErr ∧ t.dis = s.dis ∧ t.mem = s.mem) ∧
        (q.load = true → ∃ t, exec (.registerLoadResponse c) s = .next t ∧ (t.core c.val).bus = [] ∧
          (t.bank c.val q.bank).load = false ∧ (t.bank c.val q.bank).pc = (s.bank c.val q.bank).pc + 4#32 ∧
          (∀ r, (t.bank c.val q.bank).g.get r 0#32 =
            if r = q.rd then s.reg Reg.disInjv else (s.bank c.val q.bank).g.get r 0#32) ∧
          t.reg Reg.disInjv = s.reg Reg.disInjv)) ∧
      (s.domFenced 10 = true →
        (q.load = false → ∃ t, exec (.storeResponse c) s = .next t ∧ (t.core c.val).bus = [] ∧
          (t.core c.val).syncErr = true ∧ t.regB (Reg.cndStat c.val) 9 = true ∧ t.reg Reg.disInjv = s.reg Reg.disInjv) ∧
        (q.load = true → x.active ≠ some q.bank → ∃ t, exec (.registerLoadResponse c) s = .next t ∧
          (t.core c.val).bus = [] ∧ (t.bank c.val q.bank).load = false ∧
          (t.bank c.val q.bank).loadErr = some q.addr))) ∧
    (∀ q r, x.bus = [q, r] → q.load = false → r.load = true → regionOf q.addr.toNat = .reg →
      regNi (q.addr.toNat - 0x40000000) = regNi (r.addr.toNat - 0x40000000) → s.quiet = true →
      exec (.registerLoadResponse c) s = .next s) ∧
    (∀ m rest n r, x.moves = m :: rest → m.evict = true → x.rpt = none →
      (s.moveEnd c.val).tryEvict c.val m.bank = some (n, r) → (r.bank c.val m.bank).tid ≠ m.thread →
      (r.thread (r.bank c.val m.bank).tid).res = some (c.val, m.bank) →
      ((r.thread m.thread).cold = true → x.run.map Prod.fst = some m.thread →
        ∃ t q, exec (.evictDone c) s = .next t ∧ (t.bank c.val m.bank).tid = m.thread ∧ (t.bank c.val m.bank).state = 1 ∧
          (t.thread m.thread).res = some (c.val, m.bank) ∧ (t.thread (r.bank c.val m.bank).tid).res = none ∧
          (t.thread (r.bank c.val m.bank).tid).slh = n ∧ (t.bank c.val m.bank).g.get 15 0#32 = (r.thread m.thread).sp ∧
          (t.core c.val).reqs = x.reqs ++ [q] ∧ q.bank = m.bank ∧ q.disp = some m.thread ∧ q.vals = m.vals ∧
          (t.core c.val).moves = rest) ∧
      ((r.thread m.thread).cold = false →
        ∃ t, exec (.evictDone c) s = .next t ∧ (t.bank c.val m.bank).state = 5 ∧
          (t.thread m.thread).res = some (c.val, m.bank) ∧ (t.thread (r.bank c.val m.bank).tid).res = none ∧
          (t.core c.val).moves = { m with evict := false } :: rest)) ∧
    (∀ (m : Move) (rest : List Move) (h n : Word) (ws vs : Nat → Word) (u : State), x.moves = m :: rest →
      m.evict = false → x.rpt = none → x.run.map Prod.fst = some m.thread → u = s.moveEnd c.val →
      h = (s.bank c.val m.bank).slh → nodeOk h = true →
      (∀ i, i < 13 → u.cRead c.val (h.toNat + 4 * i) = (some (ws i), u)) → ws 2 = 1#32 → n = ws 1 → nodeOk n = true →
      (∀ i, i < 11 → u.cRead c.val (n.toNat + 4 * i) = (some (vs i), u)) → vs 2 = 2#32 →
      ∃ t q, exec (.reloadDone c) s = .next t ∧ (t.bank c.val m.bank).state = 1 ∧ (t.bank c.val m.bank).slh = vs 1 ∧
        (t.bank c.val m.bank).pc = ws 11 ∧ (t.bank c.val m.bank).sr = ws 12 &&& 0x3F#32 ∧
        (t.core c.val).moves = rest ∧ (t.core c.val).reqs = x.reqs ++ [q] ∧ q.bank = m.bank ∧ q.disp = some m.thread ∧
        (∀ i, i < 8 → (t.bank c.val m.bank).g.get i 0#32 = ws (3 + i) ∧
          (t.bank c.val m.bank).g.get (8 + i) 0#32 = vs (3 + i))) ∧
    (x.moves = [] → exec (.evictDone c) s = .next s ∧ exec (.reloadDone c) s = .next s)

/-- Tokens, threads and selection. A token that arrives on a channel of the Canvas or the Easel lands in its buffer, or
is refused and counted where the mode does not accept it. TOKEN_MATCH with a sound descriptor: a token for an empty slot
of a valid thread fills it, and the thread becomes READY when its mask is then complete; a token for a full slot joins
the overflow queue; one that no slot takes is counted as bad. SELECTION with one READY thread, resident on the idle core
chosen for it, makes it ACTIVE with that core's next switch, and does nothing while the Dispatcher is stopped. A cancel
empties the slots and the queue of the thread. The entry address, the slot list and the stack of a valid thread cannot
change, a cleared V disables an inactive thread, DIS_INJ injects one token, and DIS_CORE cannot enable a core with a
double fault (R291, R292, R293, R294, R296, R298, R302, R303, R424) -/
def Obligations.Dispatcher : Prop :=
  (∀ (ch : Fin 18) (tk : Token) (r : List Token) (s : State), ch.val < 5 → s.quiet = true →
    ((s.chan ch.val).transit = tk :: r → s.domFenced 10 = false →
      (s.accepts ch.val = true → ∃ t, exec (.tokenLand ch) s = .next t ∧ (t.chan ch.val).transit = r ∧
        (t.chan ch.val).landing = (s.chan ch.val).landing ++ [tk] ∧ t.regs = s.regs) ∧
      (s.accepts ch.val = false → ∃ t, exec (.tokenLand ch) s = .next t ∧ (t.chan ch.val).transit = r ∧
        (t.chan ch.val).landing = (s.chan ch.val).landing ∧ s.counts t Reg.disRefused 1)) ∧
    ((s.chan ch.val).landing = tk :: r → s.domOn 10 = true → s.proxyOf tk.tid = none → tk.slot < 4 →
      s.descRead tk.tid 0 = (true, s) →
      let x := s.thread tk.tid
      ((x.valid && x.mask tk.slot) = true → x.slot tk.slot = none → ∃ t, exec (.tokenMatch ch) s = .next t ∧
        (t.chan ch.val).landing = r ∧ (t.thread tk.tid).slot tk.slot = some tk.val ∧ t.dis.overflow = s.dis.overflow ∧
        (x.state = 1 → (x.setSlot tk.slot (some tk.val)).complete = true → (t.thread tk.tid).state = 2 ∧
          t.readyList x.prio = s.readyList x.prio ++ [tk.tid])) ∧
      ((x.valid && x.mask tk.slot) = true → x.slot tk.slot ≠ none → s.dis.overflow.length < 2047 →
        ∃ t q, exec (.tokenMatch ch) s = .next t ∧ (t.chan ch.val).landing = r ∧ t.thread tk.tid = x ∧
          t.dis.overflow = s.dis.overflow ++ [q] ∧ q.tk = tk) ∧
      ((x.valid && x.mask tk.slot) = false → ∃ t, exec (.tokenMatch ch) s = .next t ∧ (t.chan ch.val).landing = r ∧
        t.thread tk.tid = x ∧ s.counts t Reg.disBadtok 1))) ∧
  (∀ s : State,
    (s.regF Reg.disCtrl 1 0 = 0 → exec .selection s = .next s) ∧
    (∀ (tid c b : Nat), s.domOn 10 = true → s.regF Reg.disCtrl 1 0 = 1 → s.readyOrder = [tid] →
      s.chooseCore tid = some (c, false) → (s.unblocked tid).dispatchReads tid = (true, s.unblocked tid) →
      (s.thread tid).res = some (c, b) → (s.bank c b).state ≠ 5 → s.dis.overflow = [] →
      ∃ t q, exec .selection s = .next t ∧ (t.thread tid).state = 3 ∧
        (t.core c).run = some (tid, (s.thread tid).prio) ∧ (t.core c).reqs = (s.core c).reqs ++ [q] ∧ q.bank = b ∧
        q.disp = some tid ∧ (∀ k, k < 4 → (s.thread tid).mask k = true → (t.thread tid).slot k = none) ∧
        s.counts t Reg.disDispatches 1 ∧ t.can = s.can)) ∧
  ∀ s : State, s.opens .dis →
    (∀ tid : Fin 1024, ∃ t, exec (.disCancel tid) s = .next t ∧ t.resp.status = 0 ∧
      (∀ k, (t.thread tid.val).slot k = none) ∧ (∀ q ∈ t.dis.overflow, q.tk.tid ≠ tid.val) ∧
      ((s.thread tid.val).state = 2 → (t.thread tid.val).state = 1) ∧ (∀ u, u ≠ tid.val → t.thread u = s.thread u) ∧
      (t.reg Reg.disCancelDiscard).toNat = Nat.min ((s.reg Reg.disCancelDiscard).toNat + (s.thread tid.val).filled +
        (s.dis.overflow.filter (fun q => q.tk.tid == tid.val)).length) 4294967295) ∧
    (∀ (tid : Fin 1024) (r : Fin 4) (d : Word),
      ((s.thread tid.val).valid = true → r = 2 ∨ r = 3 ∨ (r = 1 ∧ d &&& 0xFFFC#32 ≠ (s.thread tid.val).ent) →
        ∃ t, exec (.threadCfgWrite tid r d) s = .next t ∧ t.resp.status = 1 ∧ (t.reg Reg.disErr).bit 5 = true ∧
          t.dis = s.dis) ∧
      ((s.thread tid.val).valid = false → r ≠ 0 → ∃ t, exec (.threadCfgWrite tid r d) s = .next t ∧ t.resp.status = 0 ∧
        (r = 1 → (t.thread tid.val).ent = d &&& 0xFFFC#32) ∧ (r = 2 → (t.thread tid.val).slh = d) ∧
        (r = 3 → (t.thread tid.val).sp = d) ∧ ∀ u, u ≠ tid.val → t.thread u = s.thread u) ∧
      (r = 0 → d.bit 16 = false → (s.thread tid.val).state ≠ 3 → s.runsNow tid.val = false →
        ∃ t, exec (.threadCfgWrite tid r d) s = .next t ∧
        (t.thread tid.val).state = 0 ∧ (t.thread tid.val).res = none ∧ (t.thread tid.val).cfg = d &&& 0x7FFFF#32)) ∧
    (∀ d : Word, s.quiet = true → s.dis.injWait = [] → s.chanCredit 17 = true →
      ∃ t tk, exec (.disInj d) s = .next t ∧ t.resp.status = 0 ∧
        (t.chan 17).transit = (s.chan 17).transit ++ [tk] ∧ tk.tid = d.bits 9 0 ∧ tk.slot = d.bits 11 10 ∧
        tk.val = s.reg Reg.disInjv ∧ t.regs = s.regs) ∧
    ∀ d : Word,
      ((∃ c, c < 8 ∧ d.bit c = true ∧ (s.core c).dfault = true) → exec (.disCoreWrite d) s = .next s.err) ∧
      ((∀ c, c < 8 → d.bit c = true → (s.core c).dfault = false) → ∃ t, exec (.disCoreWrite d) s = .next t ∧
        t.reg Reg.disCore = d &&& 0xFF#32 ∧ t.cnd = s.cnd ∧ t.dis = s.dis)

/-- The circular advance of the conductors. With l = 0 the pointer moves by m modulo 2^32; otherwise, with k the
smallest k for which 2^k is at least l, it becomes the base of its 2^k-aligned buffer plus the non-negative remainder of
its offset plus m modulo l, so that a pointer outside its buffer is drawn back into it by one advance (R274) -/
def Obligations.CircularAdvance : Prop :=
  ∀ (p m l : Word),
    (l = 0#32 → advance p m l = p + m) ∧
    (l ≠ 0#32 → ∀ k : Nat, l.toNat ≤ 2 ^ k → (∀ j, l.toNat ≤ 2 ^ j → k ≤ j) →
      let base := p.toNat / 2 ^ k * 2 ^ k
      ∃ o : Nat, (o : Int) = (((p.toNat - base : Nat) : Int) + m.toInt) % (l.toNat : Int) ∧ o < l.toNat ∧
        (advance p m l).toNat = base + o)

/-- An index load. An index load sets the count of the axis to the loaded value and A, and so G, to 0, and keeps INC, e
and d as step 1 of its cycle left them (R53) -/
def Obligations.IndexLoad : Prop :=
  ∀ (n : Fin 16) (s : State),
    let u := if (s.axis n.val).opened then s else (s.openCycle n.val).axAdvance n.val
    let x := (s.idxLoad n.val).axis n.val
    x.c = s.idxValue n.val ∧ x.a = 0 ∧ x.a / 4294967296 = 0 ∧ x.inc = (u.axis n.val).inc ∧ x.e = (u.axis n.val).e ∧
      x.neg = (u.axis n.val).neg

/-- DEV_BOOT_OK and the watchdog. A write of DEV_BOOT_OK with the key and OK = 1 after release, by any initiator, stops
the watchdog, sets BOOTOK, clears the failed-start count and programs rollback bits for an image with RB_ADV until N is
its ROLLBACK; a write before release, in Primer mode, with another key or after BOOTOK changes nothing. When the
watchdog expires, cause 0x09 is pushed with the loaded Bay and step 9, a failed start is counted and the device takes a
warm reset (R322) -/
def Obligations.BootOk : Prop :=
  (∀ (p : Path) (d : Word) (s : State),
    (keyed d 0 → s.released = true → s.primer = false → s.regB Reg.devStatus 2 = false →
      ∃ t, exec (.bootOk p d) s = .next t ∧ t.resp.status = 0 ∧ t.boot.wdog = 0 ∧
        t.reg Reg.devStatus = (s.reg Reg.devStatus &&& ~~~0x40#32) ||| 4#32 ∧ t.boot.count = 0 ∧
        t.otp.roll = (if s.boot.image.adv = true ∧ s.otp.roll < s.boot.image.roll then s.boot.image.roll else s.otp.roll) ∧
        (∀ a, a ≠ Reg.devStatus → a ≠ Reg.devWdog → t.reg a = s.reg a) ∧ s.dataSame { t with otp := s.otp }) ∧
    (¬ keyed d 0 ∨ s.released = false ∨ s.primer = true ∨ s.regB Reg.devStatus 2 = true →
      exec (.bootOk p d) s = .next s.ok)) ∧
  ∀ s : State, s.boot.wdog ≠ 0 →
    ∃ t, exec .bootOkWatchdog s = .next t ∧
      t.reg (Reg.devBootCause 0) = word (9 + s.regF Reg.devStatus 5 4 * 256 + 9 * 1024 + 2147483648) ∧
      t.reg (Reg.devBootCause 1) = s.reg (Reg.devBootCause 0) ∧ t.reg (Reg.devBootCause 2) = s.reg (Reg.devBootCause 1) ∧
      t.boot.count = Nat.min 3 (s.boot.count + 1) ∧
      ∃ u : State, u.warmTo t 4 s.pwr.straps ∧ u.otp = s.otp ∧ u.flash = s.flash ∧ u.part = s.part ∧
        u.pending = s.pending ∧ u.cyc = s.cyc ∧
        ∀ a, (∀ n, n < 3 → a ≠ Reg.devBootCause n) → a ≠ Reg.devWdog → a ≠ Reg.mgtIrq → u.reg a = s.reg a

/-- Resets, starts and Primer mode. At reset every axis is disabled with position 0 and REV 0. The rise of PORST_N
leaves every register at its reset value but for the strapped device ID (with banks A and C detected), and clears the
failed-start count. RST_N, a keyed SWRST, a keyed RETRY and a clock loss take a warm reset, which keeps the count (RETRY
clears it); a clock loss holds the device in reset until CLOCK_RECOVERY. NEW_START begins a start after a failed one;
START with a count of 3 enters Primer mode with every domain off where PRIMER_LANE_EN is 0, and an attempt that passes
every check releases the image. Which banks are detected is an operand of the row (log 5); signatures and digests are
uninterpreted (log 9) (R65, R244, R317, R320, R323, R324, R403, R408, R409, R410) -/
def Obligations.ResetsAndStarts : Prop :=
  (∀ n : Fin 16, axEn (State.reset.reg (Reg.axCfg n.val)) = false ∧ State.reset.axPos n.val = 0#64 ∧
    State.reset.reg (Reg.axRev n.val) = 0#32 ∧ (State.reset.axis n.val).known = false) ∧
  (∀ (straps : BitVec 14) (banks : BitVec 4) (s : State), banks.getLsbD 0 = true → banks.getLsbD 2 = true →
    ∃ t, exec (.powerOnReset straps banks) s = .next t ∧ t.boot.count = 0 ∧ t.boot.stage = .due ∧ t.eas = {} ∧
      t.can = {} ∧ t.mem = {} ∧ t.cnd = {} ∧ t.otp = s.otp ∧ t.flash = s.flash ∧ t.part = s.part ∧
      t.reg Reg.shgDid = straps.setWidth 32 ∧ ∀ a, a ≠ Reg.shgDid → t.reg a = regReset a) ∧
  (∀ (straps : BitVec 14) (d : Word) (s : State),
    (∃ t, exec (.warmReset straps) s = .next t ∧ s.warmTo t 2 straps ∧ t.boot.count = s.boot.count) ∧
    (keyed d 0 → ∃ t, exec (.softwareReset d) s = .next t ∧ s.warmTo t 16 s.pwr.straps ∧ t.boot.count = s.boot.count) ∧
    (keyed d 0 → ∃ t, exec (.retryStart d) s = .next t ∧ s.warmTo t 8 s.pwr.straps ∧ t.boot.count = 0) ∧
    (¬ keyed d 0 → exec (.softwareReset d) s = .next s.ok ∧ exec (.retryStart d) s = .next s.ok) ∧
    (∃ t, exec .clockLoss s = .next t ∧ s.warmTo t 64 s.pwr.straps ∧ t.pwr.holdC = true ∧ t.boot.count = s.boot.count ∧
      exec .startImage t = .next t) ∧
    exec .clockRecovery s = .next { s with pwr.holdC := false } ∧
    (s.boot.stage = .failed → ∃ t, exec .newStart s = .next t ∧ t.boot.stage = .due ∧ t.boot.tried = [] ∧
      t.boot.counted = false ∧ t.boot.count = s.boot.count ∧ t.regs = s.regs) ∧
    (s.boot.stage = .due → s.pwr.holdT = false → s.pwr.holdC = false → s.boot.count = 3 →
      ∃ t, exec .startImage s = .next t ∧ t.boot.stage = .primer ∧ t.primer = true ∧ t.released = false ∧
        t.regF Reg.ldrStat 3 0 = 10 ∧ t.regB Reg.mgtIrq 3 = true ∧
        (s.otp.plane = false → ∀ k, k < 11 → t.domOn k = false))) ∧
  ∀ (b : Fin 2) (s : State), s.boot.stage = .waiting b.val → s.lastSteps b.val = some 0 →
    ∃ t, exec .startImage s = .next t ∧ t.released = true ∧ t.primer = false ∧ t.regF Reg.devStatus 5 4 = b.val + 1 ∧
      t.regF Reg.ldrStat 3 0 = 9

/-- CUST_HASH, attestation and the update path. A keyed PROGCUST over the management port in Primer mode programs
SEC_BUF into a blank CUST_HASH and is refused otherwise; READCUST copies it into SEC_BUF. ATTGO takes the record as it
stands, ATTESTATION_DONE makes it readable with its signature, and the data registers step through record and
certificate by four. BEGIN of an inactive Bay with room for LEN uncommits it and starts ERASE; ERASE_DONE leaves the
image bytes erased; a word within LEN joins the page; FINISH starts VERIFY; a failed check commits nothing, and a passed
one commits the Bay; ABORT leaves FAILED with cause 0. Digests and signatures are uninterpreted (log 9) (R315, R325,
R327, R328, Table BS-13) -/
def Obligations.IdentityAndUpdate : Prop :=
  (∀ (p : Path) (d : Word) (s : State), keyed d 0 →
    (s.otp.cust = 0#256 ∧ s.primer = true ∧ p = .mgmt → ∃ t, exec (.progcust p d) s = .next t ∧ t.resp.status = 0 ∧
      t.otp = { s.otp with cust := digAt (s.bytesOf Reg.secBuf) 0 } ∧ t.regs = s.regs ∧ t.flash = s.flash) ∧
    (¬ (s.otp.cust = 0#256 ∧ s.primer = true ∧ p = .mgmt) → exec (.progcust p d) s = .next s.err)) ∧
  (∀ (d : Word) (s : State),
    (keyed d 2 → ∃ t, exec (.readcust d) s = .next t ∧ t.bytesOf Reg.secBuf = digBytes s.otp.cust ∧ t.otp = s.otp ∧
      ∀ a, (∀ i, i < 8 → a ≠ Reg.secBuf i) → t.reg a = s.reg a) ∧
    (keyed d 1 → s.sec.attReq = none → ∃ t, exec (.attgo d) s = .next t ∧ t.sec.attReq = some s.attRecord ∧
      t.sec.att = [] ∧ t.regs = s.regs) ∧
    (keyed d 1 → s.sec.attReq ≠ none → exec (.attgo d) s = .next s.ok) ∧
    (∀ r, s.sec.attReq = some r → ∃ t, exec .attestationDone s = .next t ∧ t.sec.att = r ++ Config.sm2Sign r ∧
      t.sec.attReq = none ∧ (t.reg Reg.secStat).bit 2 = true ∧ ∀ a, a ≠ Reg.secStat → t.reg a = s.reg a) ∧
    (∃ t, exec .attDataRead s = .next t ∧ t.resp.data = word (leAt s.sec.att (s.regF Reg.secAttPtr 11 0) 4) ∧
      t.reg Reg.secAttPtr = word ((s.regF Reg.secAttPtr 11 0 + 4) % 4096) ∧ t.sec = s.sec) ∧
    (∃ t, exec .certDataRead s = .next t ∧ t.resp.data = word (leAt s.otp.cert (s.regF Reg.secCertPtr 11 0) 4) ∧
      t.reg Reg.secCertPtr = word ((s.regF Reg.secCertPtr 11 0 + 4) % 4096) ∧ t.otp = s.otp)) ∧
  (∀ s : State,
    let b := s.regF Reg.ldrUpdCtrl 0 0
    let len := (s.reg Reg.ldrUpdLen).toNat
    let free := s.regF Reg.devStatus 5 4 ≠ b + 1 ∧ s.updBusy = false ∧ len ≤ bayCap b
    (free → ∃ t, exec .beginUpdate s = .next t ∧ t.resp.status = 0 ∧ t.updState = 1 ∧ t.updBay = b ∧
      t.reg Reg.ldrUpdOff = 0#32 ∧ t.boot.updLen = len ∧ t.boot.page = [] ∧ t.committed b = false ∧ t.progByte b 0 = 0) ∧
    (¬ free → exec .beginUpdate s = .next s.err)) ∧
  ∀ (d : Word) (s : State),
    let b := s.updBay
    let off := (s.reg Reg.ldrUpdOff).toNat
    (s.updState = 1 → ∃ t, exec .eraseDone s = .next t ∧ t.updState = 2 ∧ t.updBay = b ∧ t.progByte b 1 = 0 ∧
      ∀ i, i < s.boot.updLen → t.flashByte (imgBase b + i) = 255) ∧
    (s.updState = 2 → off + 4 ≤ s.boot.updLen → s.boot.page.length < 252 →
      ∃ t, exec (.updateData d) s = .next t ∧ t.resp.status = 0 ∧ t.boot.page = s.boot.page ++ leBytes d.toNat 4 ∧
        (t.reg Reg.ldrUpdOff).toNat = (off + 4) % 4294967296 ∧ t.flash = s.flash) ∧
    (s.updState ≠ 2 ∨ s.boot.updLen < off + 4 → exec (.updateData d) s = .next s.err) ∧
    (s.updState = 2 → ∃ t, exec .finishUpdate s = .next t ∧ t.updState = 3 ∧ t.updBay = b ∧ t.boot.page = [] ∧
      t.progByte b 2 = 0) ∧
    (s.updState = 3 → s.checkHeader b none ≠ 0 → ∃ t, exec .verifyDone s = .next t ∧ t.updState = 6 ∧
      t.flash = s.flash ∧ t.regF Reg.ldrUpdStatus 15 8 = s.checkHeader b none) ∧
    (s.updState = 3 → s.checkHeader b none = 0 → s.checkDigests b = 0 → s.regB Reg.ldrUpdCtrl 1 = false →
      (∀ i, i < 0x34 → s.flashByte (bayBase b + i) = 255) →
      ∃ t, exec .verifyDone s = .next t ∧ t.updState = 5 ∧ t.committed b = true ∧ t.progByte b 3 = 0) ∧
    (s.updBusy = true → ∃ t, exec .abortUpdate s = .next t ∧ t.updState = 6 ∧ t.regF Reg.ldrUpdStatus 15 8 = 0 ∧
      t.boot.page = [] ∧ t.flash = s.flash) ∧
    (s.updBusy = false → exec .abortUpdate s = .next s.ok)

/-- In-band sessions. OPEN1 of a taken frame with a known key, on a channel that no holdoff covers, with no exchange
running and fewer than four sessions, begins an exchange with its sender; with an unknown key it fails, is counted, and
holds the channel off. OPEN3 whose SA verifies opens a session on a free slot; another SA fails. A session frame passes
with the right channel, sender and tag and a sequence number above the last, which it becomes. CLOSE and SESSION_IDLE
close the session and drop its requests. A REQ of one RD flit of DEV_UNITS is answered at once, and IB_RSP sends its
response. The holdoff of a channel ends with OPEN_HOLDOFF_END. Exchange and tags are uninterpreted (log 9) (R329, R330,
R378, R380) -/
def Obligations.Sessions : Prop :=
  (∀ (ch : Fin 32) (b : List Byte) (s : State), s.ibTakes ch.val 1 b = true → ch.val ∉ s.sec.holdoff → s.sec.exch = none →
    s.openSessions < 4 →
    (∀ key, s.ibKey (byteAt (parseIb b).body 0) = some key → ∃ t e, exec (.open1 ch b) s = .next t ∧
      t.sec.exch = some e ∧ e.chan = ch.val ∧ e.mac = (parseIb b).src ∧ e.vlan = (parseIb b).vlan ∧ t.sec.sess = s.sec.sess ∧
      s.counts t (chA Reg.chTxFrames ch.val) 1 ∧ s.counts t Reg.mgtIbrx 1 ∧ s.dataSame t) ∧
    (s.ibKey (byteAt (parseIb b).body 0) = none → ∃ t, exec (.open1 ch b) s = .next t ∧ t.sec.exch = none ∧
      t.sec.holdoff = ch.val :: s.sec.holdoff ∧ t.sec.sess = s.sec.sess ∧ s.counts t Reg.secIbfail 1 ∧ s.dataSame t)) ∧
  (∀ (ch : Fin 32) (b : List Byte) (s : State) (e : Exchange) (i : Nat), s.ibTakes ch.val 3 b = true →
    s.sec.exch = some e → e.chan = ch.val → e.mac = (parseIb b).src → e.sid = (parseIb b).sid → i < 4 →
    s.session i = none → (∀ j, j < i → s.session j ≠ none) →
    ((parseIb b).body.take 32 = e.sa → ∃ t x, exec (.open3 ch b) s = .next t ∧ t.session i = some x ∧ x.sid = e.sid ∧
      x.chan = ch.val ∧ x.mac = e.mac ∧ x.k1 = e.k1 ∧ x.k2 = e.k2 ∧ x.rx = 0 ∧ t.sec.exch = none ∧
      (∀ j, j ≠ i → t.session j = s.session j) ∧ s.counts t Reg.secIbopens 1 ∧ s.dataSame t) ∧
    ((parseIb b).body.take 32 ≠ e.sa → ∃ t, exec (.open3 ch b) s = .next t ∧ t.sec.exch = none ∧
      ch.val ∈ t.sec.holdoff ∧ t.sec.sess = s.sec.sess ∧ s.counts t Reg.secIbfail 1)) ∧
  (∀ (ch : Fin 32) (s : State), ∃ t, exec (.openHoldoffEnd ch) s = .next t ∧ ch.val ∉ t.sec.holdoff ∧
    (∀ k, k ≠ ch.val → (k ∈ t.sec.holdoff ↔ k ∈ s.sec.holdoff)) ∧ t.sec.sess = s.sec.sess ∧ t.regs = s.regs) ∧
  (∀ (ch : Fin 32) (b : List Byte) (s : State) (i : Nat) (x : Session), i < 4 → s.session i = some x →
    x.sid = (parseIb b).sid → (∀ j, j < i → ∀ y, s.session j = some y → y.sid ≠ x.sid) → x.chan = ch.val →
    x.mac = (parseIb b).src → digBytes (Config.hmacSm3 x.k1 (parseIb b).head) = (parseIb b).tag → x.rx < (parseIb b).seq →
    s.ibAuth ch.val (parseIb b) = (some i, s.setSession i (some { x with rx := (parseIb b).seq, bad := 0 })) ∧
    (s.ibTakes ch.val 0x13 b = true → ∃ t, exec (.closeFrame ch b) s = .next t ∧ t.session i = none ∧
      (∀ j, j ≠ i → t.session j = s.session j) ∧ (∀ q ∈ t.sec.reqs, q.sess ≠ i) ∧ s.counts t Reg.mgtIbrx 1 ∧
      s.dataSame t) ∧
    (s.ibTakes ch.val 0x10 b = true → s.quiet = true → s.conforms 42 3 = true → byteAt (parseIb b).body 0 = 1 →
      leAt (parseIb b).body 4 8 / 2 ^ 44 % 16 = 1 →
      flitAddr (leAt (parseIb b).body 4 8) (leAt (parseIb b).body 12 8) = 0x200000000000 + Reg.devUnits →
      ∃ t q h, exec (.reqFrame ch b) s = .next t ∧ t.sec.reqs = [q] ∧ q.sess = i ∧
        q.flits = [.done h (BitVec.ofNat 64 (devUnits s.part.variant))] ∧ t.answers = [] ∧ s.counts t Reg.mgtIbrx 1)) ∧
  (∀ (i : Fin 4) (s : State),
    (∀ x, s.session i.val = some x → ∃ t, exec (.sessionIdle i) s = .next t ∧ t.session i.val = none ∧
      (∀ j, j ≠ i.val → t.session j = s.session j) ∧ (∀ q ∈ t.sec.reqs, q.sess ≠ i.val) ∧
      t.regB Reg.mgtIrq 4 = true ∧ s.dataSame t) ∧
    (s.session i.val = none → exec (.sessionIdle i) s = .next s)) ∧
  ∀ (s : State) (q : IbReq) (x : Session) (h p : BitVec 64), s.sec.reqs = [q] → q.flits = [.done h p] → q.sess < 4 →
    s.session q.sess = some x → s.chRuns x.chan = true →
    ∃ t, exec .ibRsp s = .next t ∧ t.sec.reqs = [] ∧ t.session q.sess = some { x with tx := x.tx + 1 } ∧
      s.counts t (chA Reg.chTxFrames x.chan) 1 ∧ s.dataSame t

/-- Scrubbers, commanded passes and the tracker. A scrubber that is enabled and whose next word reads without effect
moves its pointer past that word, or ends its lap, counting it and starting anew, when no word follows; a disabled one
does nothing. PASS_GO starts a pass and clears its summary, and is refused while one runs, for START above END and for a
class above 10. A pass read counts a sound word as read and a word of an absent part as skipped, goes on to the next
class address, and is done after the last. An abort ends the pass; TRACKER_CLR clears one entry (R355, R356, R357) -/
def Obligations.ScrubbersAndPasses : Prop :=
  (∀ (c : Fin 11) (s : State), (s.regB (Reg.intScrb c.val) 0 = false → exec (.scrubRead c) s = .next s) ∧
    (∀ a, s.regB (Reg.intScrb c.val) 0 = true → c.val ≠ 1 → s.nextWord c.val (s.int.scrubPtr.get c.val 0) = some a →
      s.classRead c.val a = s →
      (∀ b, s.nextWord c.val (a + 1) = some b → ∃ t, exec (.scrubRead c) s = .next t ∧
        t.int.scrubPtr.get c.val 0 = a + 1 ∧ t.regs = s.regs) ∧
      (s.nextWord c.val (a + 1) = none → ∃ t, exec (.scrubRead c) s = .next t ∧ t.int.scrubPtr.get c.val 0 = 0 ∧
        t.reg (Reg.intLaps c.val) = s.reg (Reg.intLaps c.val) + 1#32 ∧ t.mem = s.mem ∧ t.can = s.can))) ∧
  (∀ (d : Word) (s : State),
    let lo := (s.reg Reg.intPassStart).toNat
    let hi := (s.reg Reg.intPassEnd).toNat
    (s.int.pass = none → lo ≤ hi → d.bits 3 0 ≤ 10 → ∃ t, exec (.passGo d) s = .next t ∧ t.resp.status = 0 ∧
      t.int.pass = some (d.bits 3 0, lo) ∧ t.int.passEnd = Nat.min hi (classSize (d.bits 3 0) - 1) ∧
      t.regB Reg.intPassStat 0 = true ∧ t.reg Reg.intPassRead = 0#32 ∧ t.reg Reg.intPassCorr = 0#32 ∧
      t.reg Reg.intPassUe = 0#32 ∧ t.reg Reg.intPassSkip = 0#32) ∧
    (s.int.pass ≠ none ∨ hi < lo ∨ 10 < d.bits 3 0 → exec (.passGo d) s = .next s.err)) ∧
  (∀ (s : State) (c a : Nat), s.int.pass = some (c, a) → c ≤ 10 → a ≤ s.int.passEnd → s.int.passAbort = false →
    let ends (t : State) : Prop :=
      (a = s.int.passEnd → t.int.pass = none ∧ t.regB Reg.intPassStat 0 = false ∧ t.regB Reg.intPassStat 1 = true ∧
        t.regB Reg.intStat 4 = true) ∧ (a ≠ s.int.passEnd → t.int.pass = some (c, a + 1))
    (s.instOk c (a / (classShape c).1) = false → ∃ t, exec .passRead s = .next t ∧ s.counts t Reg.intPassSkip 1 ∧
      t.reg Reg.intPassRead = s.reg Reg.intPassRead ∧ ends t) ∧
    (s.instOk c (a / (classShape c).1) = true → s.classFind c a = (.good, s) → ∃ t, exec .passRead s = .next t ∧
      s.counts t Reg.intPassRead 1 ∧ t.reg Reg.intPassSkip = s.reg Reg.intPassSkip ∧ ends t) ∧
    (s.instOk c (a / (classShape c).1) = true → s.classFind c a = (.failed, s) → s.int.passHit = false →
      ∃ t, exec .passRead s = .next t ∧ s.counts t Reg.intPassRead 1 ∧ s.counts t Reg.intPassUe 1 ∧
        t.reg Reg.intPassFirst = word a ∧ t.reg Reg.intPassLast = word a ∧ ends t)) ∧
  ∀ (c : Fin 11) (i : Fin 32) (s : State),
    (s.int.pass ≠ none → ∃ t, exec .passAbort s = .next t ∧ t.int.pass = none ∧ t.regB Reg.intPassStat 2 = true ∧
      t.regB Reg.intPassStat 0 = false) ∧
    (s.int.pass = none → exec .passAbort s = .next s.ok) ∧
    ∃ t, exec (.trackerClr c i) s = .next t ∧ t.resp.status = 0 ∧ t.track (32 * c.val + i.val) = {} ∧ t.regs = s.regs ∧
      ∀ k, k ≠ 32 * c.val + i.val → t.track k = s.track k

/-- The fault collector. A FAULT flit whose key an entry holds is merged into that entry; another takes the lowest free
entry and sets MGT_IRQ.FLT, and with no entry free it is lost and counted. (Stated with the token, the Sketch trigger,
the reports and the forwarding of R364, R365 and R381 off.) FLT_ACK with ALL frees every entry; without, it frees the
named entry when that is valid with the written count and is refused otherwise. EPOCH_END lets every report be sent
again and takes the epoch of FLT_EPOCH (R358, R361, R362, R364) -/
def Obligations.Collector : Prop :=
  (∀ (r : Report) (rest : List Report) (s : State), s.int.inbox = r :: rest → s.regB Reg.fltTok 12 = false →
    s.codeIn Reg.mgtSkfmaskLo Reg.mgtSkfmaskHi r.code = false → s.regB Reg.mgtIbCfg 1 = false →
    s.regB Reg.fltCtrl 14 = false →
    let u : State := { s with int.inbox := rest }
    (∀ i, u.collFind r = (some i, u) → ∃ t, exec .faultFlit s = .next t ∧ t.int.inbox = rest ∧
      t.fentry i = { s.fentry i with count := Nat.min ((s.fentry i).count + r.count) 0xFFFF, last := r.last,
                                     tl := s.fltTime, merged := true } ∧
      (∀ j, j ≠ i → t.fentry j = s.fentry j) ∧ t.regs = s.regs) ∧
    (∀ i, u.collFind r = (none, u) → i < 256 → (s.fentry i).valid = false → (∀ j, j < i → (s.fentry j).valid = true) →
      ∃ t, exec .faultFlit s = .next t ∧ t.int.inbox = rest ∧ (t.fentry i).valid = true ∧ (t.fentry i).unit = r.unit ∧
        (t.fentry i).subj = r.subj ∧ (t.fentry i).code = r.code ∧ (t.fentry i).count = r.count ∧
        (t.fentry i).first = r.first ∧ (t.fentry i).last = r.last ∧ (t.fentry i).tl = s.fltTime ∧
        t.regB Reg.mgtIrq 0 = true ∧ ∀ j, j ≠ i → t.fentry j = s.fentry j) ∧
    (u.collFind r = (none, u) → (∀ j, j < 256 → (s.fentry j).valid = true) → ∃ t, exec .faultFlit s = .next t ∧
      t.int.inbox = rest ∧ t.int.entries = s.int.entries ∧ s.counts t Reg.fltLost 1 ∧ t.regB Reg.intStat 5 = true)) ∧
  (∀ (d : Word) (s : State),
    let e := s.fentry (d.bits 7 0)
    (d.bit 8 = true → ∃ t, exec (.fltAck d) s = .next t ∧ t.resp.status = 0 ∧ (∀ j, t.fentry j = {}) ∧ t.regs = s.regs) ∧
    (d.bit 8 = false → e.valid = true → e.count = d.bits 31 16 → ∃ t, exec (.fltAck d) s = .next t ∧ t.resp.status = 0 ∧
      t.fentry (d.bits 7 0) = {} ∧ (∀ j, j ≠ d.bits 7 0 → t.fentry j = s.fentry j) ∧ t.regs = s.regs) ∧
    (d.bit 8 = false → (e.valid = false ∨ e.count ≠ d.bits 31 16) → exec (.fltAck d) s = .next s.err)) ∧
  ∀ s : State, s.sec.reports = [] → s.regB Reg.fltTok 12 = false →
    ∃ t, exec .epochEnd s = .next t ∧ t.int.sent = [] ∧ t.int.fwd = [] ∧ t.shg.kinds = [] ∧
      t.int.epochMs = Nat.max 1 (Nat.min (s.regF Reg.fltEpoch 9 0) 1000) ∧ (∀ i, i < 256 → (t.fentry i).merged = false) ∧
      t.regs = s.regs

/-- The Sketch and the read-back. With MGT_SKCTRL.EN and after release, TRIG (and SKETCH_IN with INEN) starts a Sketch
of an unlocked device, joins one whose t0 is at most fifteen cycles before, and is counted as missed on a locked one.
The latch instant lies sixteen cycles after t0; the Sketch is then locked with the next LSEQ. A record marked ready
raises MGT_IRQ.SKRDY and, with AUTO, unlocks; REARM unlocks. The record data register steps by four. A read-back needs
its key and MGT_DBG.EN, which only MGTACC and CFG records may write; the layout of the words it gives belongs to the
silicon (free, log 8) (R382, R383, R384, R386, R389, R390, R393) -/
def Obligations.SketchAndReadback : Prop :=
  (∀ s : State, s.regB Reg.mgtSkctrl 0 = true → s.released = true →
    (s.sk.locked = false → s.sk.t0 = none →
      (∃ t, exec .trig s = .next t ∧ t.resp.status = 0 ∧ t.sk.t0 = some (s.cyc + 1) ∧ t.sk.src = 8 ∧ t.regs = s.regs) ∧
      (s.regB Reg.mgtSkctrl 1 = true → ∃ t, exec .sketchIn s = .next t ∧ t.sk.t0 = some (s.cyc + 2) ∧ t.sk.src = 4 ∧
        t.regs = s.regs)) ∧
    (∀ u, s.sk.locked = false → s.sk.t0 = some u → s.cyc + 1 ≤ u + 15 → ∃ t, exec .trig s = .next t ∧
      t.sk.t0 = some u ∧ t.sk.src = s.sk.src ||| 8 ∧ t.regs = s.regs) ∧
    (s.sk.locked = true → ∃ t, exec .trig s = .next t ∧ t.resp.status = 0 ∧ t.sk = s.sk ∧ s.counts t Reg.mgtSkmiss 1 ∧
      t.regB Reg.mgtSkstat 3 = true)) ∧
  (∀ s : State,
    (s.regB Reg.mgtSkctrl 0 = false → exec .trig s = .next s.ok) ∧
    (s.regB Reg.mgtSkctrl 1 = false → exec .sketchIn s = .next s) ∧
    (s.sk.t0 = none → exec .sketchLatch s = .next s) ∧
    (∀ u, s.sk.t0 = some u → s.cyc + 1 < u + 16 → exec .sketchLatch s = .next s) ∧
    (∀ u, s.sk.t0 = some u → u + 16 ≤ s.cyc + 1 → ∃ t, exec .sketchLatch s = .next t ∧ t.sk.locked = true ∧
      t.sk.t0 = none ∧ t.sk.last = some u ∧ t.sk.rdy = false ∧ t.sk.lseq = (s.sk.lseq + 1) % 256 ∧ t.sk.src = s.sk.src ∧
      t.sk.record.getD 0 0#32 = 0x4B5A534B#32 ∧ t.eas = s.eas ∧ t.dis = s.dis) ∧
    (s.sk.built = true → ∃ t, exec .sketchRecordReady s = .next t ∧ t.sk.rdy = true ∧ t.sk.record = s.sk.record ∧
      (t.sk.locked = true ↔ (s.sk.locked = true ∧ s.regB Reg.mgtSkctrl 3 = false)) ∧ t.regB Reg.mgtIrq 1 = true) ∧
    exec .rearm s = .next (s.ok.setSk { s.sk with locked := false }) ∧
    (∃ t, exec .skrecDataRead s = .next t ∧ t.resp.data = s.sk.record.getD (s.regF Reg.mgtSkrecPtr 8 0 / 4) 0#32 ∧
      t.reg Reg.mgtSkrecPtr = word ((s.regF Reg.mgtSkrecPtr 8 0 + 4) % 512) ∧ t.sk = s.sk) ∧
    (s.regF Reg.mgtRbStat 1 0 = 2 → ∃ t, exec .rbDataRead s = .next t ∧ t.resp.data = Config.freeWord s.free ∧
      t.reg Reg.mgtRbPtr = word ((s.regF Reg.mgtRbPtr 15 0 + 1) % 65536) ∧ t.can = s.can) ∧
    (s.regF Reg.mgtRbStat 1 0 ≠ 2 → exec .rbDataRead s = .next s.ok)) ∧
  ∀ (p : Path) (d : Word) (s : State),
    (p = .jtag ∨ p = .loader → exec (.mgtDbgWrite p d) s = .next (s.ok.setReg Reg.mgtDbg (d &&& 1#32))) ∧
    (p ≠ .jtag → p ≠ .loader → exec (.mgtDbgWrite p d) s = .next s.err) ∧
    (¬ keyed d 7 → exec (.readbackGo d) s = .next (s.ok.plainWrite Reg.mgtRbCtrl d)) ∧
    (keyed d 7 → s.regB Reg.mgtDbg 0 = false → exec (.readbackGo d) s = .next s.err) ∧
    (keyed d 7 → s.regB Reg.mgtDbg 0 = true → s.quadOpen (quadOfPanel (d.bits 5 0)) = true →
      ∃ t, exec (.readbackGo d) s = .next t ∧ t.resp.status = 0 ∧
        t.reg Reg.mgtRbStat = word ((if d.bit 6 then 1 else 2) + d.bits 5 0 * 4))

/-- Register accesses, the management port, windows and JTAG. With nothing on its way: an access of another size than 4,
of an address off its boundary, or of no block is answered with an error; DEV_UNITS reads the units of the variant over
every path, over the management port, MGTACC and a window, and MGT_TLIM takes its writable bits over each. A read of an
RC counter returns it and clears it alone. A frame with a wrong CRC is not performed, is counted and leaves the stored
response; LAST returns it; AON returns DEV_PRIMER_REASON; another command is answered BADCMD; a frame cut short is
counted. The JTAG instructions select their data registers, and those of R392 act while reset is held or in Primer mode
and are refused with MGT_STAT.JBLK otherwise. Where a response stands is the model's choice (log 7) (R16, R17, R18,
R369, R370, R371, R372, R375, R376, R391, R392, R393) -/
def Obligations.PortsAndRegisters : Prop :=
  (∀ (p : Path) (addr d : Word) (size : Nat) (s : State), s.quiet = true →
    (size ≠ 4 ∨ addr.toNat % 4 ≠ 0 ∨ blockOf addr.toNat = none →
      (∀ k : Fin 8, addr.toNat ≠ Reg.mgtWdata k.val) →
      exec (.registerWrite p addr size d) s = .next s.err ∧ exec (.rcRead p addr size) s = .next s.err) ∧
    exec (.rcRead p (word Reg.devUnits) 4) s = .next (s.ok (word (devUnits s.part.variant))) ∧
    exec (.registerWrite p (word Reg.mgtTlim) 4 d) s = .next (s.plainWrite Reg.mgtTlim d).ok ∧
    (∀ a ∈ [Reg.mgtStat, Reg.mgtIrq, Reg.mgtIrqen, Reg.mgtTlim],
      exec (.rcRead p (word a) 4) s = .next (s.ok (s.reg a))) ∧
    (∀ a ∈ [Reg.mgtMcrcerr, Reg.mgtMshort, Reg.mgtIbrx, Reg.mgtIbdrop, Reg.mgtSkmiss],
      exec (.rcRead p (word a) 4) s = .next ((s.ok (s.reg a)).setReg a 0#32)) ∧
    (∀ (b : Block) (a : Nat), (b, a) ∈ [(Block.int, Reg.fltLost), (.eas, Reg.easColl), (.pal, Reg.palIssued),
        (.noc, Reg.nocStray), (.spx, Reg.spxMarkdrop), (.shg, Reg.shgHopexc), (.tbl, Reg.tblMiss),
        (.dis, Reg.disCancelDiscard)] → s.opens b → ∃ t, exec (.rcRead p (word a) 4) s = .next t ∧
      t.resp.status = 0 ∧ t.resp.data = s.reg a ∧ t.reg a = 0#32 ∧ (∀ r, r ≠ a → t.reg r = s.reg r) ∧
      s.dataSame t ∧ t.noc = s.noc ∧ t.str = s.str)) ∧
  (∀ (tag cmd crc : Byte) (addr d : Word) (s : State), s.quiet = true → s.mgt.msp.busy = none →
    s.conforms 42 3 = true →
    let crcOf (c : Byte) (a : Word) : Byte := mspCrc ([c, tag] ++ leBytes a.toNat 4 ++ leBytes d.toNat 4)
    (∃ t, exec (.mspRd tag (word Reg.devUnits) d (crcOf 1#8 (word Reg.devUnits))) s = .next t ∧
      t.mgt.msp.out = hostBytes 0 tag.toNat (word (devUnits s.part.variant)) ∧ t.mgt.msp.busy = none ∧
      t.mgt.msp.stored = some { status := 0, tag := tag.toNat, data := word (devUnits s.part.variant) } ∧
      s.dataSame t) ∧
    (∃ t, exec (.mspWr tag (word Reg.mgtTlim) d (crcOf 2#8 (word Reg.mgtTlim))) s = .next t ∧
      t.mgt.msp.out = hostBytes 0 tag.toNat 0#32 ∧ t.reg Reg.mgtTlim = (s.plainWrite Reg.mgtTlim d).reg Reg.mgtTlim ∧
      s.dataSame t) ∧
    (crc ≠ crcOf 1#8 addr → ∃ t, exec (.mspRd tag addr d crc) s = .next t ∧ t.mgt.msp.out = hostBytes 0x10 tag.toNat 0#32 ∧
      t.mgt.msp.stored = s.mgt.msp.stored ∧ s.counts t Reg.mgtMcrcerr 1 ∧ t.regB Reg.mgtStat 0 = true) ∧
    (∃ t, exec (.lastCmd tag addr d (crcOf 4#8 addr)) s = .next t ∧ t.mgt.msp.stored = s.mgt.msp.stored ∧
      (∀ r, s.mgt.msp.stored = some r → t.mgt.msp.out = hostBytes r.status tag.toNat r.data) ∧
      (s.mgt.msp.stored = none → t.mgt.msp.out = hostBytes 1 tag.toNat 0#32) ∧ t.regs = s.regs) ∧
    (∃ t, exec (.aon tag addr d (crcOf 5#8 addr)) s = .next t ∧ t.mgt.msp.out = hostBytes 0 tag.toNat s.primerReason ∧
      t.regs = s.regs) ∧
    (cmd ≠ 1#8 → cmd ≠ 2#8 → cmd ≠ 4#8 → cmd ≠ 5#8 → ∃ t, exec (.badcmd cmd tag addr d (crcOf cmd addr)) s = .next t ∧
      t.mgt.msp.out = hostBytes 0x11 tag.toNat 0#32 ∧ t.mgt.msp.stored = s.mgt.msp.stored ∧ t.regs = s.regs)) ∧
  (∀ (n : Nat) (s : State), (11 ≤ n → exec (.mspShort n) s = .next s) ∧
    (n < 11 → ∃ t, exec (.mspShort n) s = .next t ∧ s.counts t Reg.mgtMshort 1 ∧ t.regB Reg.mgtStat 1 = true ∧
      t.mgt = s.mgt)) ∧
  (∀ (p : Path) (k : Fin 8) (d : Word) (s : State), s.quiet = true → s.reg (Reg.mgtWctl k.val) = 0#32 →
    s.reg (Reg.mgtWaddrHi k.val) = 0x2000#32 → s.conforms 42 3 = true →
    (s.reg (Reg.mgtWaddrLo k.val) = word Reg.devUnits → ∃ t, exec (.windowRead p k) s = .next t ∧ t.resp.status = 0 ∧
      t.resp.data = word (devUnits s.part.variant) ∧ t.regF (Reg.mgtWstat k.val) 2 0 = 0) ∧
    (s.reg (Reg.mgtWaddrLo k.val) = word Reg.mgtTlim → ∃ t, exec (.windowWrite p k d) s = .next t ∧ t.resp.status = 0 ∧
      t.reg Reg.mgtTlim = (s.plainWrite Reg.mgtTlim d).reg Reg.mgtTlim ∧ t.regF (Reg.mgtWstat k.val) 2 0 = 0)) ∧
  ∀ (v : BitVec 176) (f : BitVec 88) (s : State),
    (∃ t, exec .idcode s = .next t ∧ t.mgt.jir = 1 ∧ t.mgt.jdr = s.part.rev % 16 * 268435456 + 0xB064DA7 ∧
      t.regs = s.regs) ∧
    (∃ t, exec (.samplePreload v) s = .next t ∧ t.mgt.jir = 2 ∧ t.mgt.bsr = v ∧ t.regs = s.regs) ∧
    (s.jtagPins = true →
      (∃ t, exec .extest s = .next t ∧ t.mgt.jir = 3 ∧ t.mgt.bsr = s.mgt.bsr ∧ t.regs = s.regs) ∧
      (∃ t, exec .extestPulse s = .next t ∧ t.mgt.jir = 4 ∧ t.mgt.bsr = s.mgt.bsr ∧ t.regs = s.regs) ∧
      (∃ t, exec .extestTrain s = .next t ∧ t.mgt.jir = 5 ∧ t.mgt.bsr = s.mgt.bsr ∧ t.regs = s.regs) ∧
      (∃ t, exec .clamp s = .next t ∧ t.mgt.jir = 6 ∧ t.mgt.bsr = s.mgt.bsr ∧ t.regs = s.regs) ∧
      ∃ t, exec .highz s = .next t ∧ t.mgt.jir = 7 ∧ t.mgt.bsr = s.mgt.bsr ∧ t.regs = s.regs) ∧
    (s.jtagPins = false → ∀ i ∈ [Instr.extest, .extestPulse, .extestTrain, .clamp, .highz],
      ∃ t, exec i s = .next t ∧ t.mgt.jir = 0xFF ∧ t.regB Reg.mgtStat 3 = true ∧ t.pwr = s.pwr) ∧
    (∃ t, exec .rbscan s = .next t ∧ t.mgt.jir = 0x21 ∧
      t.mgt.jdr = (if s.regF Reg.mgtRbStat 1 0 = 2 then (Config.freeWord s.free).toNat else 0)) ∧
    (∃ t, exec .bypass s = .next t ∧ t.mgt.jir = 0xFF ∧ t.mgt.jdr = 0 ∧ t.regs = s.regs) ∧
    (s.quiet = true → s.mgt.jtag.busy = none → s.conforms 42 3 = true →
      f.toNat % 256 = 1 → f.toNat / 65536 % 4294967296 = Reg.devUnits →
      BitVec.ofNat 8 (f.toNat / 2 ^ 80) = mspCrc ([1#8, BitVec.ofNat 8 (f.toNat / 256)] ++ leBytes Reg.devUnits 4 ++
        leBytes (f.toNat / 2 ^ 48 % 4294967296) 4) →
      ∃ t, exec (.mgtacc f) s = .next t ∧ t.mgt.jir = 0x20 ∧ t.mgt.jdr = leAt s.mgt.jtag.out 0 8 ∧
        t.mgt.jtag.out = hostBytes 0 (f.toNat / 256 % 256) (word (devUnits s.part.variant)) ∧ s.dataSame t)

/-- Power domains, clocks, monitors, the safe profile and the pins. With no change under way and none asked for, a
request for another state of a present domain (not a stack) starts its change, and a downward one without its FACK is
refused and counted. A change between ON and SLEEP ends in its state with nothing lost, but that the channels of the
Dispatcher start afresh when PD_CND wakes; PD_CND that goes OFF loses the conductors and the Dispatcher; a failed rise
is shown in PWR_DOMCTLd and PWR_STAT. PLL unlock is shown. A conversion of a powered sensor or monitor is stored with
VALID, crossings of the limits are shown and raise MGT_IRQ, and 120 °C takes a warm reset with its cause. SAFE_PROG
needs the key, Primer mode, the management port and no clash; GP_INPUT changes one pin. MSP_IRQ_N is low while a bit of
MGT_IRQ is enabled, and SKETCH_OUT high for 16 cycles from a latch instant. When limits act is the model's reading (log
53) (R374, R385, R394, R395, R403, R404, R405, R407, R410, R412, R414, R417) -/
def Obligations.DomainsAndMonitors : Prop :=
  (∀ (d : Fin 11) (w : Word) (s : State), s.hasDom d.val = true → d.val ≠ 8 → d.val ≠ 9 → s.pwr.change = none →
    s.pwr.asked = 0#11 →
    let cur := s.domState d.val
    let dst := domTarget d.val (w.bits 1 0)
    (dst < cur → s.regB Reg.nocFack d.val = false → ∃ t, exec (.domainRequest d w) s = .next t ∧ t.resp.status = 1 ∧
      t.pwr = s.pwr ∧ s.counts t Reg.pwrRefuse 1 ∧ t.regB Reg.pwrStat 0 = true) ∧
    (dst ≠ cur → (cur < dst ∨ s.regB Reg.nocFack d.val = true) → ∃ t, exec (.domainRequest d w) s = .next t ∧
      t.resp.status = 0 ∧ t.pwr.change = some (d.val, cur, dst) ∧ t.domState d.val = 3 ∧
      t.regF (Reg.pwrDomctl d.val) 1 0 = w.bits 1 0 ∧ ∀ a, a ≠ Reg.pwrDomctl d.val → t.reg a = s.reg a)) ∧
  (∀ (d f u : Nat) (s : State), s.pwr.change = some (d, f, u) → s.pwr.asked = 0#11 → d < 11 →
    (f ≠ 0 → u ≠ 0 → u < 4 → (u = 2 → d ≠ 10) → ∃ t, exec .domainChangeDone s = .next t ∧ t.pwr.change = none ∧
      t.regF (Reg.pwrDomctl d) 3 2 = u ∧ t.can.tiles = s.can.tiles ∧ t.cnd = s.cnd ∧ t.dis = s.dis ∧
      (u = 2 → 4 ≤ d ∨ s.regB Reg.nocFreq d = true → t.can = s.can) ∧ ∀ a, a ≠ Reg.pwrDomctl d → t.reg a = s.reg a) ∧
    (d = 10 → f ≠ 0 → u = 2 → ∃ t, exec .domainChangeDone s = .next t ∧ t.pwr.change = none ∧ t.domState 10 = 2 ∧
      (∀ ch, (t.chan ch).landing = []) ∧ t.dis.threads = s.dis.threads ∧ t.dis.overflow = s.dis.overflow ∧
      t.cnd.cluster = s.cnd.cluster ∧ t.can = s.can) ∧
    (d = 10 → u = 0 → ∃ t, exec .domainChangeDone s = .next t ∧ t.pwr.change = none ∧ t.domState 10 = 0 ∧ t.cnd = {} ∧
      t.dis = {} ∧ t.can = s.can) ∧
    (d = 10 → u = 2 → ∃ t, exec .domFail s = .next t ∧ t.pwr.change = none ∧ t.domState 10 = 0 ∧
      t.regB (Reg.pwrDomctl 10) 4 = true ∧ t.regB Reg.pwrStat 1 = true ∧ t.cnd = {} ∧ t.dis = {})) ∧
  (∀ (g : Fin 4) (s : State), (s.hasLg g.val = false → exec (.pllUnlock g) s = .next s) ∧
    (s.hasLg g.val = true → ∃ t, exec (.pllUnlock g) s = .next t ∧ t.regB Reg.pwrStat 2 = true ∧
      t.pwr.unl.getLsbD g.val = true)) ∧
  (∀ (n : Fin 16) (temp : BitVec 10) (s : State),
    let hot := temp.toInt
    let lim := 4 * sextN ((s.reg Reg.mgtTlim).bits 7 0) 8
    (s.sensorOn n.val = false → exec (.temperatureConversion n temp) s = .next s) ∧
    (s.sensorOn n.val = true → hot < 480 → s.regB Reg.pwrThctrl 0 = false → ∃ t,
      exec (.temperatureConversion n temp) s = .next t ∧ t.reg (Reg.mgtTs n.val) = temp.setWidth 32 ||| 0x8000#32 ∧
      (lim < hot → s.mgt.warm.getLsbD n.val = false → t.regB Reg.mgtStat 4 = true ∧ t.regB Reg.mgtIrq 5 = true) ∧
      t.eas = s.eas ∧ t.can = s.can ∧ t.boot = s.boot) ∧
    (s.sensorOn n.val = true → 480 ≤ hot → s.pwr.holdT = false → ∃ t,
      exec (.temperatureConversion n temp) s = .next t ∧ t.pwr.holdT = true ∧ t.boot.stage = .due ∧ t.eas = {} ∧
      t.can = {} ∧ t.regB Reg.pwrRstcause 5 = true ∧ t.boot.count = s.boot.count)) ∧
  (∀ (k : Fin 8) (mv : BitVec 13) (s : State),
    let lim := s.reg (Reg.mgtVmLim k.val)
    (s.monitorOn k.val = false → exec (.voltageConversion k mv) s = .next s) ∧
    (s.monitorOn k.val = true → ∃ t, exec (.voltageConversion k mv) s = .next t ∧
      t.reg (Reg.mgtVm k.val) = mv.setWidth 32 ||| 0x8000#32 ∧
      (mv.toNat < lim.bits 12 0 → t.regB Reg.mgtStat 6 = true ∧ t.regB Reg.mgtIrq 6 = true) ∧
      (lim.bits 28 16 < mv.toNat → t.regB Reg.mgtStat 7 = true ∧ t.regB Reg.mgtIrq 6 = true))) ∧
  (∀ (p : Path) (d : Word) (s : State),
    let old : SMap Word := s.pwr.prog.getD s.otp.safe
    let clash := (List.range 18).any (fun w => fieldClash (s.safeBuf w) (old.get w 0#32))
    (¬ keyed d 0 → exec (.safeProg p d) s = .next s.ok) ∧
    (keyed d 0 → s.primer = true → p = .mgmt → clash = false → ∃ t m, exec (.safeProg p d) s = .next t ∧
      t.resp.status = 0 ∧ t.pwr.prog = some m ∧ (∀ w, w < 18 → m.get w 0#32 = old.get w 0#32 ||| s.safeBuf w) ∧
      t.otp = s.otp ∧ t.regs = s.regs) ∧
    (keyed d 0 → s.primer = false ∨ p ≠ .mgmt ∨ clash = true → exec (.safeProg p d) s = .next s.err)) ∧
  ∀ (n : Fin 96) (b : Bool) (s : State),
    (∀ m, s.pwr.prog = some m → ∃ t, exec .safeProgDone s = .next t ∧ t.otp = { s.otp with safe := m } ∧
      t.pwr.prog = none ∧ t.regs = s.regs) ∧
    (s.mspIrqN = .drive false ↔ s.reg Reg.mgtIrq &&& s.reg Reg.mgtIrqen ≠ 0#32) ∧
    (s.sketchPad = .drive true ↔ s.released = true ∧ s.primer = false ∧ s.regB Reg.mgtSkctrl 2 = true ∧
      ∃ u, s.sk.last = some u ∧ u + 16 ≤ s.cyc ∧ s.cyc < u + 32) ∧
    ∃ t, exec (.gpInput n b) s = .next t ∧ t.pwr.gpin.getLsbD n.val = b ∧
      (∀ k, k < 96 → k ≠ n.val → t.pwr.gpin.getLsbD k = s.pwr.gpin.getLsbD k) ∧ t.regs = s.regs ∧ t.eas = s.eas
end

