-- ==== Sys2Proof/Laws/Maps.lean ====
section
/-! SUPPORT. Sys2Proof/Laws/Maps.lean: reads after writes, and the canonical form, of the sparse maps that hold every
memory of the model (log 11). -/
namespace Sys2Proof

theorem SMap.get_put_same {α : Type} (m : SMap α) (k : Nat) (v d : α) : (SMap.put m k v).get k d = v := by
  induction m with
  | nil => simp [SMap.put, SMap.get]
  | cons p r ih =>
    obtain ⟨j, w⟩ := p
    unfold SMap.put
    split
    · simp [SMap.get]
    · split
      · simp [SMap.get]
      · have : j ≠ k := by omega
        simp [SMap.get, this, ih]

theorem SMap.get_put_ne {α : Type} (m : SMap α) (k j : Nat) (v d : α) (h : j ≠ k) :
    (SMap.put m k v).get j d = m.get j d := by
  induction m with
  | nil => simp [SMap.put, SMap.get, h.symm]
  | cons p r ih =>
    obtain ⟨i, w⟩ := p
    unfold SMap.put
    split
    · simp [SMap.get, h.symm]
    · split
      · rename_i hk
        subst hk
        simp [SMap.get, h.symm]
      · simp [SMap.get, ih]

theorem SMap.get_drop_same {α : Type} (m : SMap α) (k : Nat) (d : α) : (SMap.drop m k).get k d = d := by
  induction m with
  | nil => rfl
  | cons p r ih =>
    obtain ⟨i, w⟩ := p
    unfold SMap.drop
    split
    · exact ih
    · rename_i hk
      simp [SMap.get, hk, ih]

theorem SMap.get_drop_ne {α : Type} (m : SMap α) (k j : Nat) (d : α) (h : j ≠ k) :
    (SMap.drop m k).get j d = m.get j d := by
  induction m with
  | nil => rfl
  | cons p r ih =>
    obtain ⟨i, w⟩ := p
    unfold SMap.drop
    split
    · rename_i hk
      subst hk
      simp [SMap.get, h.symm, ih]
    · simp [SMap.get, ih]

/-- A read of what was just written. -/
theorem SMap.get_set_same {α : Type} [DecidableEq α] (m : SMap α) (k : Nat) (v d : α) : (SMap.set m k v d).get k d = v := by
  unfold SMap.set
  split
  · rename_i h
    rw [h]
    exact SMap.get_drop_same m k d
  · exact SMap.get_put_same m k v d

/-- A write leaves every other key alone. -/
theorem SMap.get_set_ne {α : Type} [DecidableEq α] (m : SMap α) (k j : Nat) (v d e : α) (h : j ≠ k) :
    (SMap.set m k v d).get j e = m.get j e := by
  unfold SMap.set
  split
  · exact SMap.get_drop_ne m k j e h
  · exact SMap.get_put_ne m k j v e h

/-! ## The canonical form -/

theorem SMap.rises_cons {α : Type} (p : Nat × α) (r : SMap α) (b : Option Nat) :
    SMap.rises (p :: r) b = true ↔ (∀ lo, b = some lo → lo < p.1) ∧ r.rises (some p.1) = true := by
  obtain ⟨j, w⟩ := p
  cases b <;> simp [SMap.rises]

theorem SMap.rises_put {α : Type} (m : SMap α) (k : Nat) (v : α) (b : Option Nat) (h : m.rises b = true)
    (hb : ∀ lo, b = some lo → lo < k) : (SMap.put m k v).rises b = true := by
  induction m generalizing b with
  | nil => simp [SMap.put, SMap.rises_cons, SMap.rises]; exact hb
  | cons p r ih =>
    obtain ⟨j, w⟩ := p
    rw [SMap.rises_cons] at h
    unfold SMap.put
    split
    · rename_i hk
      rw [SMap.rises_cons, SMap.rises_cons]
      refine ⟨hb, ?_, h.2⟩
      intro lo hlo
      simp at hlo
      omega
    · split
      · rename_i hk
        rw [SMap.rises_cons]
        subst hk
        exact h
      · rw [SMap.rises_cons]
        refine ⟨h.1, ih _ h.2 ?_⟩
        intro lo hlo
        simp at hlo
        omega

theorem SMap.rises_weaken {α : Type} (m : SMap α) (a : Nat) (b : Option Nat) (h : m.rises (some a) = true)
    (hb : ∀ lo, b = some lo → lo < a) : m.rises b = true := by
  cases m with
  | nil => rfl
  | cons p r =>
    rw [SMap.rises_cons] at h ⊢
    refine ⟨?_, h.2⟩
    intro lo hlo
    have := hb lo hlo
    have := h.1 a rfl
    omega

theorem SMap.rises_drop {α : Type} (m : SMap α) (k : Nat) (b : Option Nat) (h : m.rises b = true) :
    (SMap.drop m k).rises b = true := by
  induction m generalizing b with
  | nil => exact h
  | cons p r ih =>
    obtain ⟨j, w⟩ := p
    rw [SMap.rises_cons] at h
    unfold SMap.drop
    split
    · exact ih _ (SMap.rises_weaken r j b h.2 h.1)
    · rw [SMap.rises_cons]
      exact ⟨h.1, ih _ h.2⟩

theorem SMap.mem_put {α : Type} (m : SMap α) (k : Nat) (v : α) (q : Nat × α) (h : q ∈ SMap.put m k v) :
    q = (k, v) ∨ q ∈ m := by
  induction m with
  | nil => simp [SMap.put] at h; exact Or.inl h
  | cons p r ih =>
    obtain ⟨j, w⟩ := p
    unfold SMap.put at h
    split at h
    · simpa using h
    · split at h
      · simp at h ⊢
        tauto
      · simp at h ⊢
        rcases h with h | h
        · tauto
        · rcases ih h with h | h <;> tauto

theorem SMap.mem_drop {α : Type} (m : SMap α) (k : Nat) (q : Nat × α) (h : q ∈ SMap.drop m k) : q ∈ m := by
  induction m with
  | nil => exact h
  | cons p r ih =>
    obtain ⟨j, w⟩ := p
    unfold SMap.drop at h
    split at h
    · exact List.mem_cons_of_mem _ (ih h)
    · simp at h ⊢
      rcases h with h | h
      · exact Or.inl h
      · exact Or.inr (ih h)

/-- Every memory operation keeps the canonical form: the one write of the maps does. -/
theorem SMap.wf_set {α : Type} [DecidableEq α] (m : SMap α) (k : Nat) (v : α) (d : Nat → α) (h : m.wf d = true) :
    (SMap.set m k v (d k)).wf d = true := by
  simp only [SMap.wf, Bool.and_eq_true, List.all_eq_true, decide_eq_true_eq] at h ⊢
  unfold SMap.set
  split
  · refine ⟨SMap.rises_drop m k none h.1, ?_⟩
    intro q hq
    exact h.2 q (SMap.mem_drop m k q hq)
  · rename_i hv
    refine ⟨SMap.rises_put m k v none h.1 (by simp), ?_⟩
    intro q hq
    rcases SMap.mem_put m k v q hq with rfl | hq
    · exact hv
    · exact h.2 q hq

/-- Keys that rise from `k`: `k` itself reads its default. -/
theorem SMap.get_of_rises {α : Type} (m : SMap α) (k : Nat) (d : α) (h : m.rises (some k) = true) : m.get k d = d := by
  induction m with
  | nil => rfl
  | cons p r ih =>
    obtain ⟨j, w⟩ := p
    rw [SMap.rises_cons] at h
    have hj : k < j := h.1 k rfl
    have hne : j ≠ k := by omega
    have hr : SMap.rises r (some k) = true :=
      SMap.rises_weaken r j (some k) h.2 (by intro lo hlo; simp at hlo; omega)
    simp [SMap.get, hne, ih hr]

end Sys2Proof
end

