-- ==== Sys2Proof/Laws/State.lean ====
section
/-! SUPPORT. Sys2Proof/Laws/State.lean: what each update of the state leaves, field by field, and what it reads back. -/
namespace Sys2Proof.Machine

/-! ## setReg -/

@[simp] theorem State.setReg_pending (s : State) (a : Nat) (v : Word) : (s.setReg a v).pending = s.pending := rfl
@[simp] theorem State.setReg_free (s : State) (a : Nat) (v : Word) : (s.setReg a v).free = s.free := rfl
@[simp] theorem State.setReg_cyc (s : State) (a : Nat) (v : Word) : (s.setReg a v).cyc = s.cyc := rfl
@[simp] theorem State.setReg_resp (s : State) (a : Nat) (v : Word) : (s.setReg a v).resp = s.resp := rfl
@[simp] theorem State.setReg_part (s : State) (a : Nat) (v : Word) : (s.setReg a v).part = s.part := rfl
@[simp] theorem State.setReg_answers (s : State) (a : Nat) (v : Word) : (s.setReg a v).answers = s.answers := rfl
@[simp] theorem State.setReg_eas (s : State) (a : Nat) (v : Word) : (s.setReg a v).eas = s.eas := rfl
@[simp] theorem State.setReg_int (s : State) (a : Nat) (v : Word) : (s.setReg a v).int = s.int := rfl
@[simp] theorem State.setReg_dis (s : State) (a : Nat) (v : Word) : (s.setReg a v).dis = s.dis := rfl
@[simp] theorem State.setReg_noc (s : State) (a : Nat) (v : Word) : (s.setReg a v).noc = s.noc := rfl
@[simp] theorem State.setReg_can (s : State) (a : Nat) (v : Word) : (s.setReg a v).can = s.can := rfl
@[simp] theorem State.setReg_pal (s : State) (a : Nat) (v : Word) : (s.setReg a v).pal = s.pal := rfl
@[simp] theorem State.setReg_str (s : State) (a : Nat) (v : Word) : (s.setReg a v).str = s.str := rfl
@[simp] theorem State.setReg_mem (s : State) (a : Nat) (v : Word) : (s.setReg a v).mem = s.mem := rfl
@[simp] theorem State.setReg_tbl (s : State) (a : Nat) (v : Word) : (s.setReg a v).tbl = s.tbl := rfl
@[simp] theorem State.setReg_shg (s : State) (a : Nat) (v : Word) : (s.setReg a v).shg = s.shg := rfl
@[simp] theorem State.setReg_cnd (s : State) (a : Nat) (v : Word) : (s.setReg a v).cnd = s.cnd := rfl
@[simp] theorem State.setReg_relCyc (s : State) (a : Nat) (v : Word) : (s.setReg a v).relCyc = s.relCyc := rfl
@[simp] theorem State.setReg_mgt (s : State) (a : Nat) (v : Word) : (s.setReg a v).mgt = s.mgt := rfl
@[simp] theorem State.setReg_rstCyc (s : State) (a : Nat) (v : Word) : (s.setReg a v).rstCyc = s.rstCyc := rfl
@[simp] theorem State.setReg_otp (s : State) (a : Nat) (v : Word) : (s.setReg a v).otp = s.otp := rfl
@[simp] theorem State.setReg_flash (s : State) (a : Nat) (v : Word) : (s.setReg a v).flash = s.flash := rfl
@[simp] theorem State.setReg_sfdp (s : State) (a : Nat) (v : Word) : (s.setReg a v).sfdp = s.sfdp := rfl
@[simp] theorem State.setReg_boot (s : State) (a : Nat) (v : Word) : (s.setReg a v).boot = s.boot := rfl
@[simp] theorem State.setReg_sec (s : State) (a : Nat) (v : Word) : (s.setReg a v).sec = s.sec := rfl
@[simp] theorem State.setReg_pwr (s : State) (a : Nat) (v : Word) : (s.setReg a v).pwr = s.pwr := rfl
@[simp] theorem State.setReg_reg_same (s : State) (a : Nat) (v : Word) : (s.setReg a v).reg a = v := SMap.get_set_same _ _ _ _
theorem State.setReg_reg_ne (s : State) (a : Nat) (v : Word) (j : Nat) (h : j ≠ a) : (s.setReg a v).reg j = s.reg j := by
  unfold State.reg State.setReg; exact SMap.get_set_ne _ _ _ _ _ _ h

/-! ## respond -/

@[simp] theorem State.respond_pending (s : State) (k : Nat) (d : Word) : (s.respond k d).pending = s.pending := rfl
@[simp] theorem State.respond_free (s : State) (k : Nat) (d : Word) : (s.respond k d).free = s.free := rfl
@[simp] theorem State.respond_cyc (s : State) (k : Nat) (d : Word) : (s.respond k d).cyc = s.cyc := rfl
@[simp] theorem State.respond_regs (s : State) (k : Nat) (d : Word) : (s.respond k d).regs = s.regs := rfl
@[simp] theorem State.respond_part (s : State) (k : Nat) (d : Word) : (s.respond k d).part = s.part := rfl
@[simp] theorem State.respond_answers (s : State) (k : Nat) (d : Word) : (s.respond k d).answers = s.answers := rfl
@[simp] theorem State.respond_eas (s : State) (k : Nat) (d : Word) : (s.respond k d).eas = s.eas := rfl
@[simp] theorem State.respond_int (s : State) (k : Nat) (d : Word) : (s.respond k d).int = s.int := rfl
@[simp] theorem State.respond_dis (s : State) (k : Nat) (d : Word) : (s.respond k d).dis = s.dis := rfl
@[simp] theorem State.respond_noc (s : State) (k : Nat) (d : Word) : (s.respond k d).noc = s.noc := rfl
@[simp] theorem State.respond_can (s : State) (k : Nat) (d : Word) : (s.respond k d).can = s.can := rfl
@[simp] theorem State.respond_pal (s : State) (k : Nat) (d : Word) : (s.respond k d).pal = s.pal := rfl
@[simp] theorem State.respond_str (s : State) (k : Nat) (d : Word) : (s.respond k d).str = s.str := rfl
@[simp] theorem State.respond_mem (s : State) (k : Nat) (d : Word) : (s.respond k d).mem = s.mem := rfl
@[simp] theorem State.respond_tbl (s : State) (k : Nat) (d : Word) : (s.respond k d).tbl = s.tbl := rfl
@[simp] theorem State.respond_shg (s : State) (k : Nat) (d : Word) : (s.respond k d).shg = s.shg := rfl
@[simp] theorem State.respond_cnd (s : State) (k : Nat) (d : Word) : (s.respond k d).cnd = s.cnd := rfl
@[simp] theorem State.respond_relCyc (s : State) (k : Nat) (d : Word) : (s.respond k d).relCyc = s.relCyc := rfl
@[simp] theorem State.respond_mgt (s : State) (k : Nat) (d : Word) : (s.respond k d).mgt = s.mgt := rfl
@[simp] theorem State.respond_rstCyc (s : State) (k : Nat) (d : Word) : (s.respond k d).rstCyc = s.rstCyc := rfl
@[simp] theorem State.respond_otp (s : State) (k : Nat) (d : Word) : (s.respond k d).otp = s.otp := rfl
@[simp] theorem State.respond_flash (s : State) (k : Nat) (d : Word) : (s.respond k d).flash = s.flash := rfl
@[simp] theorem State.respond_sfdp (s : State) (k : Nat) (d : Word) : (s.respond k d).sfdp = s.sfdp := rfl
@[simp] theorem State.respond_boot (s : State) (k : Nat) (d : Word) : (s.respond k d).boot = s.boot := rfl
@[simp] theorem State.respond_sec (s : State) (k : Nat) (d : Word) : (s.respond k d).sec = s.sec := rfl
@[simp] theorem State.respond_pwr (s : State) (k : Nat) (d : Word) : (s.respond k d).pwr = s.pwr := rfl
@[simp] theorem State.respond_reg (s : State) (k : Nat) (d : Word) (j : Nat) : (s.respond k d).reg j = s.reg j := rfl

/-! ## setNi -/

@[simp] theorem State.setNi_pending (s : State) (n : Nat) (v : NI) : (s.setNi n v).pending = s.pending := rfl
@[simp] theorem State.setNi_free (s : State) (n : Nat) (v : NI) : (s.setNi n v).free = s.free := rfl
@[simp] theorem State.setNi_cyc (s : State) (n : Nat) (v : NI) : (s.setNi n v).cyc = s.cyc := rfl
@[simp] theorem State.setNi_resp (s : State) (n : Nat) (v : NI) : (s.setNi n v).resp = s.resp := rfl
@[simp] theorem State.setNi_regs (s : State) (n : Nat) (v : NI) : (s.setNi n v).regs = s.regs := rfl
@[simp] theorem State.setNi_part (s : State) (n : Nat) (v : NI) : (s.setNi n v).part = s.part := rfl
@[simp] theorem State.setNi_answers (s : State) (n : Nat) (v : NI) : (s.setNi n v).answers = s.answers := rfl
@[simp] theorem State.setNi_eas (s : State) (n : Nat) (v : NI) : (s.setNi n v).eas = s.eas := rfl
@[simp] theorem State.setNi_int (s : State) (n : Nat) (v : NI) : (s.setNi n v).int = s.int := rfl
@[simp] theorem State.setNi_dis (s : State) (n : Nat) (v : NI) : (s.setNi n v).dis = s.dis := rfl
@[simp] theorem State.setNi_can (s : State) (n : Nat) (v : NI) : (s.setNi n v).can = s.can := rfl
@[simp] theorem State.setNi_pal (s : State) (n : Nat) (v : NI) : (s.setNi n v).pal = s.pal := rfl
@[simp] theorem State.setNi_str (s : State) (n : Nat) (v : NI) : (s.setNi n v).str = s.str := rfl
@[simp] theorem State.setNi_mem (s : State) (n : Nat) (v : NI) : (s.setNi n v).mem = s.mem := rfl
@[simp] theorem State.setNi_tbl (s : State) (n : Nat) (v : NI) : (s.setNi n v).tbl = s.tbl := rfl
@[simp] theorem State.setNi_shg (s : State) (n : Nat) (v : NI) : (s.setNi n v).shg = s.shg := rfl
@[simp] theorem State.setNi_cnd (s : State) (n : Nat) (v : NI) : (s.setNi n v).cnd = s.cnd := rfl
@[simp] theorem State.setNi_relCyc (s : State) (n : Nat) (v : NI) : (s.setNi n v).relCyc = s.relCyc := rfl
@[simp] theorem State.setNi_mgt (s : State) (n : Nat) (v : NI) : (s.setNi n v).mgt = s.mgt := rfl
@[simp] theorem State.setNi_rstCyc (s : State) (n : Nat) (v : NI) : (s.setNi n v).rstCyc = s.rstCyc := rfl
@[simp] theorem State.setNi_otp (s : State) (n : Nat) (v : NI) : (s.setNi n v).otp = s.otp := rfl
@[simp] theorem State.setNi_flash (s : State) (n : Nat) (v : NI) : (s.setNi n v).flash = s.flash := rfl
@[simp] theorem State.setNi_sfdp (s : State) (n : Nat) (v : NI) : (s.setNi n v).sfdp = s.sfdp := rfl
@[simp] theorem State.setNi_boot (s : State) (n : Nat) (v : NI) : (s.setNi n v).boot = s.boot := rfl
@[simp] theorem State.setNi_sec (s : State) (n : Nat) (v : NI) : (s.setNi n v).sec = s.sec := rfl
@[simp] theorem State.setNi_pwr (s : State) (n : Nat) (v : NI) : (s.setNi n v).pwr = s.pwr := rfl
@[simp] theorem State.setNi_ni_same (s : State) (n : Nat) (v : NI) : (s.setNi n v).ni n = v := SMap.get_set_same _ _ _ _
theorem State.setNi_ni_ne (s : State) (n : Nat) (v : NI) (j : Nat) (h : j ≠ n) : (s.setNi n v).ni j = s.ni j := SMap.get_set_ne _ _ _ _ _ _ h
@[simp] theorem State.setNi_reg (s : State) (n : Nat) (v : NI) (j : Nat) : (s.setNi n v).reg j = s.reg j := rfl

/-! ## setChan -/

@[simp] theorem State.setChan_pending (s : State) (n : Nat) (v : Chan) : (s.setChan n v).pending = s.pending := rfl
@[simp] theorem State.setChan_free (s : State) (n : Nat) (v : Chan) : (s.setChan n v).free = s.free := rfl
@[simp] theorem State.setChan_cyc (s : State) (n : Nat) (v : Chan) : (s.setChan n v).cyc = s.cyc := rfl
@[simp] theorem State.setChan_resp (s : State) (n : Nat) (v : Chan) : (s.setChan n v).resp = s.resp := rfl
@[simp] theorem State.setChan_regs (s : State) (n : Nat) (v : Chan) : (s.setChan n v).regs = s.regs := rfl
@[simp] theorem State.setChan_part (s : State) (n : Nat) (v : Chan) : (s.setChan n v).part = s.part := rfl
@[simp] theorem State.setChan_answers (s : State) (n : Nat) (v : Chan) : (s.setChan n v).answers = s.answers := rfl
@[simp] theorem State.setChan_eas (s : State) (n : Nat) (v : Chan) : (s.setChan n v).eas = s.eas := rfl
@[simp] theorem State.setChan_int (s : State) (n : Nat) (v : Chan) : (s.setChan n v).int = s.int := rfl
@[simp] theorem State.setChan_noc (s : State) (n : Nat) (v : Chan) : (s.setChan n v).noc = s.noc := rfl
@[simp] theorem State.setChan_can (s : State) (n : Nat) (v : Chan) : (s.setChan n v).can = s.can := rfl
@[simp] theorem State.setChan_pal (s : State) (n : Nat) (v : Chan) : (s.setChan n v).pal = s.pal := rfl
@[simp] theorem State.setChan_str (s : State) (n : Nat) (v : Chan) : (s.setChan n v).str = s.str := rfl
@[simp] theorem State.setChan_mem (s : State) (n : Nat) (v : Chan) : (s.setChan n v).mem = s.mem := rfl
@[simp] theorem State.setChan_tbl (s : State) (n : Nat) (v : Chan) : (s.setChan n v).tbl = s.tbl := rfl
@[simp] theorem State.setChan_shg (s : State) (n : Nat) (v : Chan) : (s.setChan n v).shg = s.shg := rfl
@[simp] theorem State.setChan_cnd (s : State) (n : Nat) (v : Chan) : (s.setChan n v).cnd = s.cnd := rfl
@[simp] theorem State.setChan_relCyc (s : State) (n : Nat) (v : Chan) : (s.setChan n v).relCyc = s.relCyc := rfl
@[simp] theorem State.setChan_mgt (s : State) (n : Nat) (v : Chan) : (s.setChan n v).mgt = s.mgt := rfl
@[simp] theorem State.setChan_rstCyc (s : State) (n : Nat) (v : Chan) : (s.setChan n v).rstCyc = s.rstCyc := rfl
@[simp] theorem State.setChan_otp (s : State) (n : Nat) (v : Chan) : (s.setChan n v).otp = s.otp := rfl
@[simp] theorem State.setChan_flash (s : State) (n : Nat) (v : Chan) : (s.setChan n v).flash = s.flash := rfl
@[simp] theorem State.setChan_sfdp (s : State) (n : Nat) (v : Chan) : (s.setChan n v).sfdp = s.sfdp := rfl
@[simp] theorem State.setChan_boot (s : State) (n : Nat) (v : Chan) : (s.setChan n v).boot = s.boot := rfl
@[simp] theorem State.setChan_sec (s : State) (n : Nat) (v : Chan) : (s.setChan n v).sec = s.sec := rfl
@[simp] theorem State.setChan_pwr (s : State) (n : Nat) (v : Chan) : (s.setChan n v).pwr = s.pwr := rfl
@[simp] theorem State.setChan_chan_same (s : State) (n : Nat) (v : Chan) : (s.setChan n v).chan n = v := SMap.get_set_same _ _ _ _
theorem State.setChan_chan_ne (s : State) (n : Nat) (v : Chan) (j : Nat) (h : j ≠ n) : (s.setChan n v).chan j = s.chan j := SMap.get_set_ne _ _ _ _ _ _ h
@[simp] theorem State.setChan_reg (s : State) (n : Nat) (v : Chan) (j : Nat) : (s.setChan n v).reg j = s.reg j := rfl

/-! ## setThread -/

@[simp] theorem State.setThread_pending (s : State) (n : Nat) (v : Thread) : (s.setThread n v).pending = s.pending := rfl
@[simp] theorem State.setThread_free (s : State) (n : Nat) (v : Thread) : (s.setThread n v).free = s.free := rfl
@[simp] theorem State.setThread_cyc (s : State) (n : Nat) (v : Thread) : (s.setThread n v).cyc = s.cyc := rfl
@[simp] theorem State.setThread_resp (s : State) (n : Nat) (v : Thread) : (s.setThread n v).resp = s.resp := rfl
@[simp] theorem State.setThread_regs (s : State) (n : Nat) (v : Thread) : (s.setThread n v).regs = s.regs := rfl
@[simp] theorem State.setThread_part (s : State) (n : Nat) (v : Thread) : (s.setThread n v).part = s.part := rfl
@[simp] theorem State.setThread_answers (s : State) (n : Nat) (v : Thread) : (s.setThread n v).answers = s.answers := rfl
@[simp] theorem State.setThread_eas (s : State) (n : Nat) (v : Thread) : (s.setThread n v).eas = s.eas := rfl
@[simp] theorem State.setThread_int (s : State) (n : Nat) (v : Thread) : (s.setThread n v).int = s.int := rfl
@[simp] theorem State.setThread_noc (s : State) (n : Nat) (v : Thread) : (s.setThread n v).noc = s.noc := rfl
@[simp] theorem State.setThread_can (s : State) (n : Nat) (v : Thread) : (s.setThread n v).can = s.can := rfl
@[simp] theorem State.setThread_pal (s : State) (n : Nat) (v : Thread) : (s.setThread n v).pal = s.pal := rfl
@[simp] theorem State.setThread_str (s : State) (n : Nat) (v : Thread) : (s.setThread n v).str = s.str := rfl
@[simp] theorem State.setThread_mem (s : State) (n : Nat) (v : Thread) : (s.setThread n v).mem = s.mem := rfl
@[simp] theorem State.setThread_tbl (s : State) (n : Nat) (v : Thread) : (s.setThread n v).tbl = s.tbl := rfl
@[simp] theorem State.setThread_shg (s : State) (n : Nat) (v : Thread) : (s.setThread n v).shg = s.shg := rfl
@[simp] theorem State.setThread_cnd (s : State) (n : Nat) (v : Thread) : (s.setThread n v).cnd = s.cnd := rfl
@[simp] theorem State.setThread_relCyc (s : State) (n : Nat) (v : Thread) : (s.setThread n v).relCyc = s.relCyc := rfl
@[simp] theorem State.setThread_mgt (s : State) (n : Nat) (v : Thread) : (s.setThread n v).mgt = s.mgt := rfl
@[simp] theorem State.setThread_rstCyc (s : State) (n : Nat) (v : Thread) : (s.setThread n v).rstCyc = s.rstCyc := rfl
@[simp] theorem State.setThread_otp (s : State) (n : Nat) (v : Thread) : (s.setThread n v).otp = s.otp := rfl
@[simp] theorem State.setThread_flash (s : State) (n : Nat) (v : Thread) : (s.setThread n v).flash = s.flash := rfl
@[simp] theorem State.setThread_sfdp (s : State) (n : Nat) (v : Thread) : (s.setThread n v).sfdp = s.sfdp := rfl
@[simp] theorem State.setThread_boot (s : State) (n : Nat) (v : Thread) : (s.setThread n v).boot = s.boot := rfl
@[simp] theorem State.setThread_sec (s : State) (n : Nat) (v : Thread) : (s.setThread n v).sec = s.sec := rfl
@[simp] theorem State.setThread_pwr (s : State) (n : Nat) (v : Thread) : (s.setThread n v).pwr = s.pwr := rfl
@[simp] theorem State.setThread_thread_same (s : State) (n : Nat) (v : Thread) : (s.setThread n v).thread n = v := SMap.get_set_same _ _ _ _
theorem State.setThread_thread_ne (s : State) (n : Nat) (v : Thread) (j : Nat) (h : j ≠ n) : (s.setThread n v).thread j = s.thread j := SMap.get_set_ne _ _ _ _ _ _ h
@[simp] theorem State.setThread_reg (s : State) (n : Nat) (v : Thread) (j : Nat) : (s.setThread n v).reg j = s.reg j := rfl

/-! ## setTile -/

@[simp] theorem State.setTile_pending (s : State) (n : Nat) (v : Tile) : (s.setTile n v).pending = s.pending := rfl
@[simp] theorem State.setTile_free (s : State) (n : Nat) (v : Tile) : (s.setTile n v).free = s.free := rfl
@[simp] theorem State.setTile_cyc (s : State) (n : Nat) (v : Tile) : (s.setTile n v).cyc = s.cyc := rfl
@[simp] theorem State.setTile_resp (s : State) (n : Nat) (v : Tile) : (s.setTile n v).resp = s.resp := rfl
@[simp] theorem State.setTile_regs (s : State) (n : Nat) (v : Tile) : (s.setTile n v).regs = s.regs := rfl
@[simp] theorem State.setTile_part (s : State) (n : Nat) (v : Tile) : (s.setTile n v).part = s.part := rfl
@[simp] theorem State.setTile_answers (s : State) (n : Nat) (v : Tile) : (s.setTile n v).answers = s.answers := rfl
@[simp] theorem State.setTile_eas (s : State) (n : Nat) (v : Tile) : (s.setTile n v).eas = s.eas := rfl
@[simp] theorem State.setTile_int (s : State) (n : Nat) (v : Tile) : (s.setTile n v).int = s.int := rfl
@[simp] theorem State.setTile_dis (s : State) (n : Nat) (v : Tile) : (s.setTile n v).dis = s.dis := rfl
@[simp] theorem State.setTile_noc (s : State) (n : Nat) (v : Tile) : (s.setTile n v).noc = s.noc := rfl
@[simp] theorem State.setTile_pal (s : State) (n : Nat) (v : Tile) : (s.setTile n v).pal = s.pal := rfl
@[simp] theorem State.setTile_str (s : State) (n : Nat) (v : Tile) : (s.setTile n v).str = s.str := rfl
@[simp] theorem State.setTile_mem (s : State) (n : Nat) (v : Tile) : (s.setTile n v).mem = s.mem := rfl
@[simp] theorem State.setTile_tbl (s : State) (n : Nat) (v : Tile) : (s.setTile n v).tbl = s.tbl := rfl
@[simp] theorem State.setTile_shg (s : State) (n : Nat) (v : Tile) : (s.setTile n v).shg = s.shg := rfl
@[simp] theorem State.setTile_cnd (s : State) (n : Nat) (v : Tile) : (s.setTile n v).cnd = s.cnd := rfl
@[simp] theorem State.setTile_relCyc (s : State) (n : Nat) (v : Tile) : (s.setTile n v).relCyc = s.relCyc := rfl
@[simp] theorem State.setTile_mgt (s : State) (n : Nat) (v : Tile) : (s.setTile n v).mgt = s.mgt := rfl
@[simp] theorem State.setTile_rstCyc (s : State) (n : Nat) (v : Tile) : (s.setTile n v).rstCyc = s.rstCyc := rfl
@[simp] theorem State.setTile_otp (s : State) (n : Nat) (v : Tile) : (s.setTile n v).otp = s.otp := rfl
@[simp] theorem State.setTile_flash (s : State) (n : Nat) (v : Tile) : (s.setTile n v).flash = s.flash := rfl
@[simp] theorem State.setTile_sfdp (s : State) (n : Nat) (v : Tile) : (s.setTile n v).sfdp = s.sfdp := rfl
@[simp] theorem State.setTile_boot (s : State) (n : Nat) (v : Tile) : (s.setTile n v).boot = s.boot := rfl
@[simp] theorem State.setTile_sec (s : State) (n : Nat) (v : Tile) : (s.setTile n v).sec = s.sec := rfl
@[simp] theorem State.setTile_pwr (s : State) (n : Nat) (v : Tile) : (s.setTile n v).pwr = s.pwr := rfl
@[simp] theorem State.setTile_tile_same (s : State) (n : Nat) (v : Tile) : (s.setTile n v).tile n = v := SMap.get_set_same _ _ _ _
theorem State.setTile_tile_ne (s : State) (n : Nat) (v : Tile) (j : Nat) (h : j ≠ n) : (s.setTile n v).tile j = s.tile j := SMap.get_set_ne _ _ _ _ _ _ h
@[simp] theorem State.setTile_reg (s : State) (n : Nat) (v : Tile) (j : Nat) : (s.setTile n v).reg j = s.reg j := rfl

/-! ## setAxis -/

@[simp] theorem State.setAxis_pending (s : State) (n : Nat) (v : Axis) : (s.setAxis n v).pending = s.pending := rfl
@[simp] theorem State.setAxis_free (s : State) (n : Nat) (v : Axis) : (s.setAxis n v).free = s.free := rfl
@[simp] theorem State.setAxis_cyc (s : State) (n : Nat) (v : Axis) : (s.setAxis n v).cyc = s.cyc := rfl
@[simp] theorem State.setAxis_resp (s : State) (n : Nat) (v : Axis) : (s.setAxis n v).resp = s.resp := rfl
@[simp] theorem State.setAxis_regs (s : State) (n : Nat) (v : Axis) : (s.setAxis n v).regs = s.regs := rfl
@[simp] theorem State.setAxis_part (s : State) (n : Nat) (v : Axis) : (s.setAxis n v).part = s.part := rfl
@[simp] theorem State.setAxis_answers (s : State) (n : Nat) (v : Axis) : (s.setAxis n v).answers = s.answers := rfl
@[simp] theorem State.setAxis_int (s : State) (n : Nat) (v : Axis) : (s.setAxis n v).int = s.int := rfl
@[simp] theorem State.setAxis_dis (s : State) (n : Nat) (v : Axis) : (s.setAxis n v).dis = s.dis := rfl
@[simp] theorem State.setAxis_noc (s : State) (n : Nat) (v : Axis) : (s.setAxis n v).noc = s.noc := rfl
@[simp] theorem State.setAxis_can (s : State) (n : Nat) (v : Axis) : (s.setAxis n v).can = s.can := rfl
@[simp] theorem State.setAxis_pal (s : State) (n : Nat) (v : Axis) : (s.setAxis n v).pal = s.pal := rfl
@[simp] theorem State.setAxis_str (s : State) (n : Nat) (v : Axis) : (s.setAxis n v).str = s.str := rfl
@[simp] theorem State.setAxis_mem (s : State) (n : Nat) (v : Axis) : (s.setAxis n v).mem = s.mem := rfl
@[simp] theorem State.setAxis_tbl (s : State) (n : Nat) (v : Axis) : (s.setAxis n v).tbl = s.tbl := rfl
@[simp] theorem State.setAxis_shg (s : State) (n : Nat) (v : Axis) : (s.setAxis n v).shg = s.shg := rfl
@[simp] theorem State.setAxis_cnd (s : State) (n : Nat) (v : Axis) : (s.setAxis n v).cnd = s.cnd := rfl
@[simp] theorem State.setAxis_relCyc (s : State) (n : Nat) (v : Axis) : (s.setAxis n v).relCyc = s.relCyc := rfl
@[simp] theorem State.setAxis_mgt (s : State) (n : Nat) (v : Axis) : (s.setAxis n v).mgt = s.mgt := rfl
@[simp] theorem State.setAxis_rstCyc (s : State) (n : Nat) (v : Axis) : (s.setAxis n v).rstCyc = s.rstCyc := rfl
@[simp] theorem State.setAxis_otp (s : State) (n : Nat) (v : Axis) : (s.setAxis n v).otp = s.otp := rfl
@[simp] theorem State.setAxis_flash (s : State) (n : Nat) (v : Axis) : (s.setAxis n v).flash = s.flash := rfl
@[simp] theorem State.setAxis_sfdp (s : State) (n : Nat) (v : Axis) : (s.setAxis n v).sfdp = s.sfdp := rfl
@[simp] theorem State.setAxis_boot (s : State) (n : Nat) (v : Axis) : (s.setAxis n v).boot = s.boot := rfl
@[simp] theorem State.setAxis_sec (s : State) (n : Nat) (v : Axis) : (s.setAxis n v).sec = s.sec := rfl
@[simp] theorem State.setAxis_pwr (s : State) (n : Nat) (v : Axis) : (s.setAxis n v).pwr = s.pwr := rfl
@[simp] theorem State.setAxis_axis_same (s : State) (n : Nat) (v : Axis) : (s.setAxis n v).axis n = v := SMap.get_set_same _ _ _ _
theorem State.setAxis_axis_ne (s : State) (n : Nat) (v : Axis) (j : Nat) (h : j ≠ n) : (s.setAxis n v).axis j = s.axis j := SMap.get_set_ne _ _ _ _ _ _ h
@[simp] theorem State.setAxis_reg (s : State) (n : Nat) (v : Axis) (j : Nat) : (s.setAxis n v).reg j = s.reg j := rfl

/-! ## setEntry -/

@[simp] theorem State.setEntry_pending (s : State) (n : Nat) (v : Entry) : (s.setEntry n v).pending = s.pending := rfl
@[simp] theorem State.setEntry_free (s : State) (n : Nat) (v : Entry) : (s.setEntry n v).free = s.free := rfl
@[simp] theorem State.setEntry_cyc (s : State) (n : Nat) (v : Entry) : (s.setEntry n v).cyc = s.cyc := rfl
@[simp] theorem State.setEntry_resp (s : State) (n : Nat) (v : Entry) : (s.setEntry n v).resp = s.resp := rfl
@[simp] theorem State.setEntry_regs (s : State) (n : Nat) (v : Entry) : (s.setEntry n v).regs = s.regs := rfl
@[simp] theorem State.setEntry_part (s : State) (n : Nat) (v : Entry) : (s.setEntry n v).part = s.part := rfl
@[simp] theorem State.setEntry_answers (s : State) (n : Nat) (v : Entry) : (s.setEntry n v).answers = s.answers := rfl
@[simp] theorem State.setEntry_int (s : State) (n : Nat) (v : Entry) : (s.setEntry n v).int = s.int := rfl
@[simp] theorem State.setEntry_dis (s : State) (n : Nat) (v : Entry) : (s.setEntry n v).dis = s.dis := rfl
@[simp] theorem State.setEntry_noc (s : State) (n : Nat) (v : Entry) : (s.setEntry n v).noc = s.noc := rfl
@[simp] theorem State.setEntry_can (s : State) (n : Nat) (v : Entry) : (s.setEntry n v).can = s.can := rfl
@[simp] theorem State.setEntry_pal (s : State) (n : Nat) (v : Entry) : (s.setEntry n v).pal = s.pal := rfl
@[simp] theorem State.setEntry_str (s : State) (n : Nat) (v : Entry) : (s.setEntry n v).str = s.str := rfl
@[simp] theorem State.setEntry_mem (s : State) (n : Nat) (v : Entry) : (s.setEntry n v).mem = s.mem := rfl
@[simp] theorem State.setEntry_tbl (s : State) (n : Nat) (v : Entry) : (s.setEntry n v).tbl = s.tbl := rfl
@[simp] theorem State.setEntry_shg (s : State) (n : Nat) (v : Entry) : (s.setEntry n v).shg = s.shg := rfl
@[simp] theorem State.setEntry_cnd (s : State) (n : Nat) (v : Entry) : (s.setEntry n v).cnd = s.cnd := rfl
@[simp] theorem State.setEntry_relCyc (s : State) (n : Nat) (v : Entry) : (s.setEntry n v).relCyc = s.relCyc := rfl
@[simp] theorem State.setEntry_mgt (s : State) (n : Nat) (v : Entry) : (s.setEntry n v).mgt = s.mgt := rfl
@[simp] theorem State.setEntry_rstCyc (s : State) (n : Nat) (v : Entry) : (s.setEntry n v).rstCyc = s.rstCyc := rfl
@[simp] theorem State.setEntry_otp (s : State) (n : Nat) (v : Entry) : (s.setEntry n v).otp = s.otp := rfl
@[simp] theorem State.setEntry_flash (s : State) (n : Nat) (v : Entry) : (s.setEntry n v).flash = s.flash := rfl
@[simp] theorem State.setEntry_sfdp (s : State) (n : Nat) (v : Entry) : (s.setEntry n v).sfdp = s.sfdp := rfl
@[simp] theorem State.setEntry_boot (s : State) (n : Nat) (v : Entry) : (s.setEntry n v).boot = s.boot := rfl
@[simp] theorem State.setEntry_sec (s : State) (n : Nat) (v : Entry) : (s.setEntry n v).sec = s.sec := rfl
@[simp] theorem State.setEntry_pwr (s : State) (n : Nat) (v : Entry) : (s.setEntry n v).pwr = s.pwr := rfl
@[simp] theorem State.setEntry_entry_same (s : State) (n : Nat) (v : Entry) : (s.setEntry n v).entry n = v := SMap.get_set_same _ _ _ _
theorem State.setEntry_entry_ne (s : State) (n : Nat) (v : Entry) (j : Nat) (h : j ≠ n) : (s.setEntry n v).entry j = s.entry j := SMap.get_set_ne _ _ _ _ _ _ h
@[simp] theorem State.setEntry_reg (s : State) (n : Nat) (v : Entry) (j : Nat) : (s.setEntry n v).reg j = s.reg j := rfl

/-! ## setPin -/

@[simp] theorem State.setPin_pending (s : State) (n : Nat) (v : Pin) : (s.setPin n v).pending = s.pending := rfl
@[simp] theorem State.setPin_free (s : State) (n : Nat) (v : Pin) : (s.setPin n v).free = s.free := rfl
@[simp] theorem State.setPin_cyc (s : State) (n : Nat) (v : Pin) : (s.setPin n v).cyc = s.cyc := rfl
@[simp] theorem State.setPin_resp (s : State) (n : Nat) (v : Pin) : (s.setPin n v).resp = s.resp := rfl
@[simp] theorem State.setPin_regs (s : State) (n : Nat) (v : Pin) : (s.setPin n v).regs = s.regs := rfl
@[simp] theorem State.setPin_part (s : State) (n : Nat) (v : Pin) : (s.setPin n v).part = s.part := rfl
@[simp] theorem State.setPin_answers (s : State) (n : Nat) (v : Pin) : (s.setPin n v).answers = s.answers := rfl
@[simp] theorem State.setPin_int (s : State) (n : Nat) (v : Pin) : (s.setPin n v).int = s.int := rfl
@[simp] theorem State.setPin_dis (s : State) (n : Nat) (v : Pin) : (s.setPin n v).dis = s.dis := rfl
@[simp] theorem State.setPin_noc (s : State) (n : Nat) (v : Pin) : (s.setPin n v).noc = s.noc := rfl
@[simp] theorem State.setPin_can (s : State) (n : Nat) (v : Pin) : (s.setPin n v).can = s.can := rfl
@[simp] theorem State.setPin_pal (s : State) (n : Nat) (v : Pin) : (s.setPin n v).pal = s.pal := rfl
@[simp] theorem State.setPin_str (s : State) (n : Nat) (v : Pin) : (s.setPin n v).str = s.str := rfl
@[simp] theorem State.setPin_mem (s : State) (n : Nat) (v : Pin) : (s.setPin n v).mem = s.mem := rfl
@[simp] theorem State.setPin_tbl (s : State) (n : Nat) (v : Pin) : (s.setPin n v).tbl = s.tbl := rfl
@[simp] theorem State.setPin_shg (s : State) (n : Nat) (v : Pin) : (s.setPin n v).shg = s.shg := rfl
@[simp] theorem State.setPin_cnd (s : State) (n : Nat) (v : Pin) : (s.setPin n v).cnd = s.cnd := rfl
@[simp] theorem State.setPin_relCyc (s : State) (n : Nat) (v : Pin) : (s.setPin n v).relCyc = s.relCyc := rfl
@[simp] theorem State.setPin_mgt (s : State) (n : Nat) (v : Pin) : (s.setPin n v).mgt = s.mgt := rfl
@[simp] theorem State.setPin_rstCyc (s : State) (n : Nat) (v : Pin) : (s.setPin n v).rstCyc = s.rstCyc := rfl
@[simp] theorem State.setPin_otp (s : State) (n : Nat) (v : Pin) : (s.setPin n v).otp = s.otp := rfl
@[simp] theorem State.setPin_flash (s : State) (n : Nat) (v : Pin) : (s.setPin n v).flash = s.flash := rfl
@[simp] theorem State.setPin_sfdp (s : State) (n : Nat) (v : Pin) : (s.setPin n v).sfdp = s.sfdp := rfl
@[simp] theorem State.setPin_boot (s : State) (n : Nat) (v : Pin) : (s.setPin n v).boot = s.boot := rfl
@[simp] theorem State.setPin_sec (s : State) (n : Nat) (v : Pin) : (s.setPin n v).sec = s.sec := rfl
@[simp] theorem State.setPin_pwr (s : State) (n : Nat) (v : Pin) : (s.setPin n v).pwr = s.pwr := rfl
@[simp] theorem State.setPin_pin_same (s : State) (n : Nat) (v : Pin) : (s.setPin n v).pin n = v := SMap.get_set_same _ _ _ _
theorem State.setPin_pin_ne (s : State) (n : Nat) (v : Pin) (j : Nat) (h : j ≠ n) : (s.setPin n v).pin j = s.pin j := SMap.get_set_ne _ _ _ _ _ _ h
@[simp] theorem State.setPin_reg (s : State) (n : Nat) (v : Pin) (j : Nat) : (s.setPin n v).reg j = s.reg j := rfl

/-! ## setCore -/

@[simp] theorem State.setCore_pending (s : State) (n : Nat) (v : Core) : (s.setCore n v).pending = s.pending := rfl
@[simp] theorem State.setCore_free (s : State) (n : Nat) (v : Core) : (s.setCore n v).free = s.free := rfl
@[simp] theorem State.setCore_cyc (s : State) (n : Nat) (v : Core) : (s.setCore n v).cyc = s.cyc := rfl
@[simp] theorem State.setCore_resp (s : State) (n : Nat) (v : Core) : (s.setCore n v).resp = s.resp := rfl
@[simp] theorem State.setCore_regs (s : State) (n : Nat) (v : Core) : (s.setCore n v).regs = s.regs := rfl
@[simp] theorem State.setCore_part (s : State) (n : Nat) (v : Core) : (s.setCore n v).part = s.part := rfl
@[simp] theorem State.setCore_answers (s : State) (n : Nat) (v : Core) : (s.setCore n v).answers = s.answers := rfl
@[simp] theorem State.setCore_eas (s : State) (n : Nat) (v : Core) : (s.setCore n v).eas = s.eas := rfl
@[simp] theorem State.setCore_int (s : State) (n : Nat) (v : Core) : (s.setCore n v).int = s.int := rfl
@[simp] theorem State.setCore_dis (s : State) (n : Nat) (v : Core) : (s.setCore n v).dis = s.dis := rfl
@[simp] theorem State.setCore_noc (s : State) (n : Nat) (v : Core) : (s.setCore n v).noc = s.noc := rfl
@[simp] theorem State.setCore_can (s : State) (n : Nat) (v : Core) : (s.setCore n v).can = s.can := rfl
@[simp] theorem State.setCore_pal (s : State) (n : Nat) (v : Core) : (s.setCore n v).pal = s.pal := rfl
@[simp] theorem State.setCore_str (s : State) (n : Nat) (v : Core) : (s.setCore n v).str = s.str := rfl
@[simp] theorem State.setCore_mem (s : State) (n : Nat) (v : Core) : (s.setCore n v).mem = s.mem := rfl
@[simp] theorem State.setCore_tbl (s : State) (n : Nat) (v : Core) : (s.setCore n v).tbl = s.tbl := rfl
@[simp] theorem State.setCore_shg (s : State) (n : Nat) (v : Core) : (s.setCore n v).shg = s.shg := rfl
@[simp] theorem State.setCore_relCyc (s : State) (n : Nat) (v : Core) : (s.setCore n v).relCyc = s.relCyc := rfl
@[simp] theorem State.setCore_mgt (s : State) (n : Nat) (v : Core) : (s.setCore n v).mgt = s.mgt := rfl
@[simp] theorem State.setCore_rstCyc (s : State) (n : Nat) (v : Core) : (s.setCore n v).rstCyc = s.rstCyc := rfl
@[simp] theorem State.setCore_otp (s : State) (n : Nat) (v : Core) : (s.setCore n v).otp = s.otp := rfl
@[simp] theorem State.setCore_flash (s : State) (n : Nat) (v : Core) : (s.setCore n v).flash = s.flash := rfl
@[simp] theorem State.setCore_sfdp (s : State) (n : Nat) (v : Core) : (s.setCore n v).sfdp = s.sfdp := rfl
@[simp] theorem State.setCore_boot (s : State) (n : Nat) (v : Core) : (s.setCore n v).boot = s.boot := rfl
@[simp] theorem State.setCore_sec (s : State) (n : Nat) (v : Core) : (s.setCore n v).sec = s.sec := rfl
@[simp] theorem State.setCore_pwr (s : State) (n : Nat) (v : Core) : (s.setCore n v).pwr = s.pwr := rfl
@[simp] theorem State.setCore_core_same (s : State) (n : Nat) (v : Core) : (s.setCore n v).core n = v := SMap.get_set_same _ _ _ _
theorem State.setCore_core_ne (s : State) (n : Nat) (v : Core) (j : Nat) (h : j ≠ n) : (s.setCore n v).core j = s.core j := SMap.get_set_ne _ _ _ _ _ _ h
@[simp] theorem State.setCore_reg (s : State) (n : Nat) (v : Core) (j : Nat) : (s.setCore n v).reg j = s.reg j := rfl

/-! ## setBank -/

@[simp] theorem State.setBank_pending (s : State) (c n : Nat) (v : Bank) : (s.setBank c n v).pending = s.pending := rfl
@[simp] theorem State.setBank_free (s : State) (c n : Nat) (v : Bank) : (s.setBank c n v).free = s.free := rfl
@[simp] theorem State.setBank_cyc (s : State) (c n : Nat) (v : Bank) : (s.setBank c n v).cyc = s.cyc := rfl
@[simp] theorem State.setBank_resp (s : State) (c n : Nat) (v : Bank) : (s.setBank c n v).resp = s.resp := rfl
@[simp] theorem State.setBank_regs (s : State) (c n : Nat) (v : Bank) : (s.setBank c n v).regs = s.regs := rfl
@[simp] theorem State.setBank_part (s : State) (c n : Nat) (v : Bank) : (s.setBank c n v).part = s.part := rfl
@[simp] theorem State.setBank_answers (s : State) (c n : Nat) (v : Bank) : (s.setBank c n v).answers = s.answers := rfl
@[simp] theorem State.setBank_eas (s : State) (c n : Nat) (v : Bank) : (s.setBank c n v).eas = s.eas := rfl
@[simp] theorem State.setBank_int (s : State) (c n : Nat) (v : Bank) : (s.setBank c n v).int = s.int := rfl
@[simp] theorem State.setBank_dis (s : State) (c n : Nat) (v : Bank) : (s.setBank c n v).dis = s.dis := rfl
@[simp] theorem State.setBank_noc (s : State) (c n : Nat) (v : Bank) : (s.setBank c n v).noc = s.noc := rfl
@[simp] theorem State.setBank_can (s : State) (c n : Nat) (v : Bank) : (s.setBank c n v).can = s.can := rfl
@[simp] theorem State.setBank_pal (s : State) (c n : Nat) (v : Bank) : (s.setBank c n v).pal = s.pal := rfl
@[simp] theorem State.setBank_str (s : State) (c n : Nat) (v : Bank) : (s.setBank c n v).str = s.str := rfl
@[simp] theorem State.setBank_mem (s : State) (c n : Nat) (v : Bank) : (s.setBank c n v).mem = s.mem := rfl
@[simp] theorem State.setBank_tbl (s : State) (c n : Nat) (v : Bank) : (s.setBank c n v).tbl = s.tbl := rfl
@[simp] theorem State.setBank_shg (s : State) (c n : Nat) (v : Bank) : (s.setBank c n v).shg = s.shg := rfl
@[simp] theorem State.setBank_relCyc (s : State) (c n : Nat) (v : Bank) : (s.setBank c n v).relCyc = s.relCyc := rfl
@[simp] theorem State.setBank_mgt (s : State) (c n : Nat) (v : Bank) : (s.setBank c n v).mgt = s.mgt := rfl
@[simp] theorem State.setBank_rstCyc (s : State) (c n : Nat) (v : Bank) : (s.setBank c n v).rstCyc = s.rstCyc := rfl
@[simp] theorem State.setBank_otp (s : State) (c n : Nat) (v : Bank) : (s.setBank c n v).otp = s.otp := rfl
@[simp] theorem State.setBank_flash (s : State) (c n : Nat) (v : Bank) : (s.setBank c n v).flash = s.flash := rfl
@[simp] theorem State.setBank_sfdp (s : State) (c n : Nat) (v : Bank) : (s.setBank c n v).sfdp = s.sfdp := rfl
@[simp] theorem State.setBank_boot (s : State) (c n : Nat) (v : Bank) : (s.setBank c n v).boot = s.boot := rfl
@[simp] theorem State.setBank_sec (s : State) (c n : Nat) (v : Bank) : (s.setBank c n v).sec = s.sec := rfl
@[simp] theorem State.setBank_pwr (s : State) (c n : Nat) (v : Bank) : (s.setBank c n v).pwr = s.pwr := rfl
@[simp] theorem State.setBank_reg (s : State) (c n : Nat) (v : Bank) (j : Nat) : (s.setBank c n v).reg j = s.reg j := rfl

/-! ## setTrack -/

@[simp] theorem State.setTrack_pending (s : State) (n : Nat) (v : Track) : (s.setTrack n v).pending = s.pending := rfl
@[simp] theorem State.setTrack_free (s : State) (n : Nat) (v : Track) : (s.setTrack n v).free = s.free := rfl
@[simp] theorem State.setTrack_cyc (s : State) (n : Nat) (v : Track) : (s.setTrack n v).cyc = s.cyc := rfl
@[simp] theorem State.setTrack_resp (s : State) (n : Nat) (v : Track) : (s.setTrack n v).resp = s.resp := rfl
@[simp] theorem State.setTrack_regs (s : State) (n : Nat) (v : Track) : (s.setTrack n v).regs = s.regs := rfl
@[simp] theorem State.setTrack_part (s : State) (n : Nat) (v : Track) : (s.setTrack n v).part = s.part := rfl
@[simp] theorem State.setTrack_answers (s : State) (n : Nat) (v : Track) : (s.setTrack n v).answers = s.answers := rfl
@[simp] theorem State.setTrack_eas (s : State) (n : Nat) (v : Track) : (s.setTrack n v).eas = s.eas := rfl
@[simp] theorem State.setTrack_dis (s : State) (n : Nat) (v : Track) : (s.setTrack n v).dis = s.dis := rfl
@[simp] theorem State.setTrack_noc (s : State) (n : Nat) (v : Track) : (s.setTrack n v).noc = s.noc := rfl
@[simp] theorem State.setTrack_can (s : State) (n : Nat) (v : Track) : (s.setTrack n v).can = s.can := rfl
@[simp] theorem State.setTrack_pal (s : State) (n : Nat) (v : Track) : (s.setTrack n v).pal = s.pal := rfl
@[simp] theorem State.setTrack_str (s : State) (n : Nat) (v : Track) : (s.setTrack n v).str = s.str := rfl
@[simp] theorem State.setTrack_mem (s : State) (n : Nat) (v : Track) : (s.setTrack n v).mem = s.mem := rfl
@[simp] theorem State.setTrack_tbl (s : State) (n : Nat) (v : Track) : (s.setTrack n v).tbl = s.tbl := rfl
@[simp] theorem State.setTrack_shg (s : State) (n : Nat) (v : Track) : (s.setTrack n v).shg = s.shg := rfl
@[simp] theorem State.setTrack_cnd (s : State) (n : Nat) (v : Track) : (s.setTrack n v).cnd = s.cnd := rfl
@[simp] theorem State.setTrack_relCyc (s : State) (n : Nat) (v : Track) : (s.setTrack n v).relCyc = s.relCyc := rfl
@[simp] theorem State.setTrack_mgt (s : State) (n : Nat) (v : Track) : (s.setTrack n v).mgt = s.mgt := rfl
@[simp] theorem State.setTrack_rstCyc (s : State) (n : Nat) (v : Track) : (s.setTrack n v).rstCyc = s.rstCyc := rfl
@[simp] theorem State.setTrack_otp (s : State) (n : Nat) (v : Track) : (s.setTrack n v).otp = s.otp := rfl
@[simp] theorem State.setTrack_flash (s : State) (n : Nat) (v : Track) : (s.setTrack n v).flash = s.flash := rfl
@[simp] theorem State.setTrack_sfdp (s : State) (n : Nat) (v : Track) : (s.setTrack n v).sfdp = s.sfdp := rfl
@[simp] theorem State.setTrack_boot (s : State) (n : Nat) (v : Track) : (s.setTrack n v).boot = s.boot := rfl
@[simp] theorem State.setTrack_sec (s : State) (n : Nat) (v : Track) : (s.setTrack n v).sec = s.sec := rfl
@[simp] theorem State.setTrack_pwr (s : State) (n : Nat) (v : Track) : (s.setTrack n v).pwr = s.pwr := rfl
@[simp] theorem State.setTrack_reg (s : State) (n : Nat) (v : Track) (j : Nat) : (s.setTrack n v).reg j = s.reg j := rfl

/-! ## setLink -/

@[simp] theorem State.setLink_pending (s : State) (n : Nat) (v : Link) : (s.setLink n v).pending = s.pending := rfl
@[simp] theorem State.setLink_free (s : State) (n : Nat) (v : Link) : (s.setLink n v).free = s.free := rfl
@[simp] theorem State.setLink_cyc (s : State) (n : Nat) (v : Link) : (s.setLink n v).cyc = s.cyc := rfl
@[simp] theorem State.setLink_resp (s : State) (n : Nat) (v : Link) : (s.setLink n v).resp = s.resp := rfl
@[simp] theorem State.setLink_regs (s : State) (n : Nat) (v : Link) : (s.setLink n v).regs = s.regs := rfl
@[simp] theorem State.setLink_part (s : State) (n : Nat) (v : Link) : (s.setLink n v).part = s.part := rfl
@[simp] theorem State.setLink_answers (s : State) (n : Nat) (v : Link) : (s.setLink n v).answers = s.answers := rfl
@[simp] theorem State.setLink_eas (s : State) (n : Nat) (v : Link) : (s.setLink n v).eas = s.eas := rfl
@[simp] theorem State.setLink_int (s : State) (n : Nat) (v : Link) : (s.setLink n v).int = s.int := rfl
@[simp] theorem State.setLink_dis (s : State) (n : Nat) (v : Link) : (s.setLink n v).dis = s.dis := rfl
@[simp] theorem State.setLink_noc (s : State) (n : Nat) (v : Link) : (s.setLink n v).noc = s.noc := rfl
@[simp] theorem State.setLink_can (s : State) (n : Nat) (v : Link) : (s.setLink n v).can = s.can := rfl
@[simp] theorem State.setLink_pal (s : State) (n : Nat) (v : Link) : (s.setLink n v).pal = s.pal := rfl
@[simp] theorem State.setLink_str (s : State) (n : Nat) (v : Link) : (s.setLink n v).str = s.str := rfl
@[simp] theorem State.setLink_mem (s : State) (n : Nat) (v : Link) : (s.setLink n v).mem = s.mem := rfl
@[simp] theorem State.setLink_tbl (s : State) (n : Nat) (v : Link) : (s.setLink n v).tbl = s.tbl := rfl
@[simp] theorem State.setLink_cnd (s : State) (n : Nat) (v : Link) : (s.setLink n v).cnd = s.cnd := rfl
@[simp] theorem State.setLink_relCyc (s : State) (n : Nat) (v : Link) : (s.setLink n v).relCyc = s.relCyc := rfl
@[simp] theorem State.setLink_mgt (s : State) (n : Nat) (v : Link) : (s.setLink n v).mgt = s.mgt := rfl
@[simp] theorem State.setLink_rstCyc (s : State) (n : Nat) (v : Link) : (s.setLink n v).rstCyc = s.rstCyc := rfl
@[simp] theorem State.setLink_otp (s : State) (n : Nat) (v : Link) : (s.setLink n v).otp = s.otp := rfl
@[simp] theorem State.setLink_flash (s : State) (n : Nat) (v : Link) : (s.setLink n v).flash = s.flash := rfl
@[simp] theorem State.setLink_sfdp (s : State) (n : Nat) (v : Link) : (s.setLink n v).sfdp = s.sfdp := rfl
@[simp] theorem State.setLink_boot (s : State) (n : Nat) (v : Link) : (s.setLink n v).boot = s.boot := rfl
@[simp] theorem State.setLink_sec (s : State) (n : Nat) (v : Link) : (s.setLink n v).sec = s.sec := rfl
@[simp] theorem State.setLink_pwr (s : State) (n : Nat) (v : Link) : (s.setLink n v).pwr = s.pwr := rfl
@[simp] theorem State.setLink_link_same (s : State) (n : Nat) (v : Link) : (s.setLink n v).link n = v := SMap.get_set_same _ _ _ _
theorem State.setLink_link_ne (s : State) (n : Nat) (v : Link) (j : Nat) (h : j ≠ n) : (s.setLink n v).link j = s.link j := SMap.get_set_ne _ _ _ _ _ _ h
@[simp] theorem State.setLink_reg (s : State) (n : Nat) (v : Link) (j : Nat) : (s.setLink n v).reg j = s.reg j := rfl

/-! ## setEgr -/

@[simp] theorem State.setEgr_pending (s : State) (n : Nat) (v : List EFrame) : (s.setEgr n v).pending = s.pending := rfl
@[simp] theorem State.setEgr_free (s : State) (n : Nat) (v : List EFrame) : (s.setEgr n v).free = s.free := rfl
@[simp] theorem State.setEgr_cyc (s : State) (n : Nat) (v : List EFrame) : (s.setEgr n v).cyc = s.cyc := rfl
@[simp] theorem State.setEgr_resp (s : State) (n : Nat) (v : List EFrame) : (s.setEgr n v).resp = s.resp := rfl
@[simp] theorem State.setEgr_regs (s : State) (n : Nat) (v : List EFrame) : (s.setEgr n v).regs = s.regs := rfl
@[simp] theorem State.setEgr_part (s : State) (n : Nat) (v : List EFrame) : (s.setEgr n v).part = s.part := rfl
@[simp] theorem State.setEgr_answers (s : State) (n : Nat) (v : List EFrame) : (s.setEgr n v).answers = s.answers := rfl
@[simp] theorem State.setEgr_eas (s : State) (n : Nat) (v : List EFrame) : (s.setEgr n v).eas = s.eas := rfl
@[simp] theorem State.setEgr_int (s : State) (n : Nat) (v : List EFrame) : (s.setEgr n v).int = s.int := rfl
@[simp] theorem State.setEgr_dis (s : State) (n : Nat) (v : List EFrame) : (s.setEgr n v).dis = s.dis := rfl
@[simp] theorem State.setEgr_noc (s : State) (n : Nat) (v : List EFrame) : (s.setEgr n v).noc = s.noc := rfl
@[simp] theorem State.setEgr_can (s : State) (n : Nat) (v : List EFrame) : (s.setEgr n v).can = s.can := rfl
@[simp] theorem State.setEgr_pal (s : State) (n : Nat) (v : List EFrame) : (s.setEgr n v).pal = s.pal := rfl
@[simp] theorem State.setEgr_mem (s : State) (n : Nat) (v : List EFrame) : (s.setEgr n v).mem = s.mem := rfl
@[simp] theorem State.setEgr_tbl (s : State) (n : Nat) (v : List EFrame) : (s.setEgr n v).tbl = s.tbl := rfl
@[simp] theorem State.setEgr_shg (s : State) (n : Nat) (v : List EFrame) : (s.setEgr n v).shg = s.shg := rfl
@[simp] theorem State.setEgr_cnd (s : State) (n : Nat) (v : List EFrame) : (s.setEgr n v).cnd = s.cnd := rfl
@[simp] theorem State.setEgr_relCyc (s : State) (n : Nat) (v : List EFrame) : (s.setEgr n v).relCyc = s.relCyc := rfl
@[simp] theorem State.setEgr_mgt (s : State) (n : Nat) (v : List EFrame) : (s.setEgr n v).mgt = s.mgt := rfl
@[simp] theorem State.setEgr_rstCyc (s : State) (n : Nat) (v : List EFrame) : (s.setEgr n v).rstCyc = s.rstCyc := rfl
@[simp] theorem State.setEgr_otp (s : State) (n : Nat) (v : List EFrame) : (s.setEgr n v).otp = s.otp := rfl
@[simp] theorem State.setEgr_flash (s : State) (n : Nat) (v : List EFrame) : (s.setEgr n v).flash = s.flash := rfl
@[simp] theorem State.setEgr_sfdp (s : State) (n : Nat) (v : List EFrame) : (s.setEgr n v).sfdp = s.sfdp := rfl
@[simp] theorem State.setEgr_boot (s : State) (n : Nat) (v : List EFrame) : (s.setEgr n v).boot = s.boot := rfl
@[simp] theorem State.setEgr_sec (s : State) (n : Nat) (v : List EFrame) : (s.setEgr n v).sec = s.sec := rfl
@[simp] theorem State.setEgr_pwr (s : State) (n : Nat) (v : List EFrame) : (s.setEgr n v).pwr = s.pwr := rfl
@[simp] theorem State.setEgr_reg (s : State) (n : Nat) (v : List EFrame) (j : Nat) : (s.setEgr n v).reg j = s.reg j := rfl

/-! ## setTport -/

@[simp] theorem State.setTport_pending (s : State) (n : Nat) (v : TPort) : (s.setTport n v).pending = s.pending := rfl
@[simp] theorem State.setTport_free (s : State) (n : Nat) (v : TPort) : (s.setTport n v).free = s.free := rfl
@[simp] theorem State.setTport_cyc (s : State) (n : Nat) (v : TPort) : (s.setTport n v).cyc = s.cyc := rfl
@[simp] theorem State.setTport_resp (s : State) (n : Nat) (v : TPort) : (s.setTport n v).resp = s.resp := rfl
@[simp] theorem State.setTport_regs (s : State) (n : Nat) (v : TPort) : (s.setTport n v).regs = s.regs := rfl
@[simp] theorem State.setTport_part (s : State) (n : Nat) (v : TPort) : (s.setTport n v).part = s.part := rfl
@[simp] theorem State.setTport_answers (s : State) (n : Nat) (v : TPort) : (s.setTport n v).answers = s.answers := rfl
@[simp] theorem State.setTport_eas (s : State) (n : Nat) (v : TPort) : (s.setTport n v).eas = s.eas := rfl
@[simp] theorem State.setTport_int (s : State) (n : Nat) (v : TPort) : (s.setTport n v).int = s.int := rfl
@[simp] theorem State.setTport_dis (s : State) (n : Nat) (v : TPort) : (s.setTport n v).dis = s.dis := rfl
@[simp] theorem State.setTport_noc (s : State) (n : Nat) (v : TPort) : (s.setTport n v).noc = s.noc := rfl
@[simp] theorem State.setTport_can (s : State) (n : Nat) (v : TPort) : (s.setTport n v).can = s.can := rfl
@[simp] theorem State.setTport_pal (s : State) (n : Nat) (v : TPort) : (s.setTport n v).pal = s.pal := rfl
@[simp] theorem State.setTport_str (s : State) (n : Nat) (v : TPort) : (s.setTport n v).str = s.str := rfl
@[simp] theorem State.setTport_mem (s : State) (n : Nat) (v : TPort) : (s.setTport n v).mem = s.mem := rfl
@[simp] theorem State.setTport_shg (s : State) (n : Nat) (v : TPort) : (s.setTport n v).shg = s.shg := rfl
@[simp] theorem State.setTport_cnd (s : State) (n : Nat) (v : TPort) : (s.setTport n v).cnd = s.cnd := rfl
@[simp] theorem State.setTport_relCyc (s : State) (n : Nat) (v : TPort) : (s.setTport n v).relCyc = s.relCyc := rfl
@[simp] theorem State.setTport_mgt (s : State) (n : Nat) (v : TPort) : (s.setTport n v).mgt = s.mgt := rfl
@[simp] theorem State.setTport_rstCyc (s : State) (n : Nat) (v : TPort) : (s.setTport n v).rstCyc = s.rstCyc := rfl
@[simp] theorem State.setTport_otp (s : State) (n : Nat) (v : TPort) : (s.setTport n v).otp = s.otp := rfl
@[simp] theorem State.setTport_flash (s : State) (n : Nat) (v : TPort) : (s.setTport n v).flash = s.flash := rfl
@[simp] theorem State.setTport_sfdp (s : State) (n : Nat) (v : TPort) : (s.setTport n v).sfdp = s.sfdp := rfl
@[simp] theorem State.setTport_boot (s : State) (n : Nat) (v : TPort) : (s.setTport n v).boot = s.boot := rfl
@[simp] theorem State.setTport_sec (s : State) (n : Nat) (v : TPort) : (s.setTport n v).sec = s.sec := rfl
@[simp] theorem State.setTport_pwr (s : State) (n : Nat) (v : TPort) : (s.setTport n v).pwr = s.pwr := rfl
@[simp] theorem State.setTport_tport_same (s : State) (n : Nat) (v : TPort) : (s.setTport n v).tport n = v := SMap.get_set_same _ _ _ _
theorem State.setTport_tport_ne (s : State) (n : Nat) (v : TPort) (j : Nat) (h : j ≠ n) : (s.setTport n v).tport j = s.tport j := SMap.get_set_ne _ _ _ _ _ _ h
@[simp] theorem State.setTport_reg (s : State) (n : Nat) (v : TPort) (j : Nat) : (s.setTport n v).reg j = s.reg j := rfl

/-! ## setMemWord -/

@[simp] theorem State.setMemWord_pending (s : State) (n : Nat) (v : Word) : (s.setMemWord n v).pending = s.pending := rfl
@[simp] theorem State.setMemWord_free (s : State) (n : Nat) (v : Word) : (s.setMemWord n v).free = s.free := rfl
@[simp] theorem State.setMemWord_cyc (s : State) (n : Nat) (v : Word) : (s.setMemWord n v).cyc = s.cyc := rfl
@[simp] theorem State.setMemWord_resp (s : State) (n : Nat) (v : Word) : (s.setMemWord n v).resp = s.resp := rfl
@[simp] theorem State.setMemWord_regs (s : State) (n : Nat) (v : Word) : (s.setMemWord n v).regs = s.regs := rfl
@[simp] theorem State.setMemWord_part (s : State) (n : Nat) (v : Word) : (s.setMemWord n v).part = s.part := rfl
@[simp] theorem State.setMemWord_answers (s : State) (n : Nat) (v : Word) : (s.setMemWord n v).answers = s.answers := rfl
@[simp] theorem State.setMemWord_eas (s : State) (n : Nat) (v : Word) : (s.setMemWord n v).eas = s.eas := rfl
@[simp] theorem State.setMemWord_int (s : State) (n : Nat) (v : Word) : (s.setMemWord n v).int = s.int := rfl
@[simp] theorem State.setMemWord_dis (s : State) (n : Nat) (v : Word) : (s.setMemWord n v).dis = s.dis := rfl
@[simp] theorem State.setMemWord_noc (s : State) (n : Nat) (v : Word) : (s.setMemWord n v).noc = s.noc := rfl
@[simp] theorem State.setMemWord_can (s : State) (n : Nat) (v : Word) : (s.setMemWord n v).can = s.can := rfl
@[simp] theorem State.setMemWord_pal (s : State) (n : Nat) (v : Word) : (s.setMemWord n v).pal = s.pal := rfl
@[simp] theorem State.setMemWord_str (s : State) (n : Nat) (v : Word) : (s.setMemWord n v).str = s.str := rfl
@[simp] theorem State.setMemWord_tbl (s : State) (n : Nat) (v : Word) : (s.setMemWord n v).tbl = s.tbl := rfl
@[simp] theorem State.setMemWord_shg (s : State) (n : Nat) (v : Word) : (s.setMemWord n v).shg = s.shg := rfl
@[simp] theorem State.setMemWord_cnd (s : State) (n : Nat) (v : Word) : (s.setMemWord n v).cnd = s.cnd := rfl
@[simp] theorem State.setMemWord_relCyc (s : State) (n : Nat) (v : Word) : (s.setMemWord n v).relCyc = s.relCyc := rfl
@[simp] theorem State.setMemWord_mgt (s : State) (n : Nat) (v : Word) : (s.setMemWord n v).mgt = s.mgt := rfl
@[simp] theorem State.setMemWord_rstCyc (s : State) (n : Nat) (v : Word) : (s.setMemWord n v).rstCyc = s.rstCyc := rfl
@[simp] theorem State.setMemWord_otp (s : State) (n : Nat) (v : Word) : (s.setMemWord n v).otp = s.otp := rfl
@[simp] theorem State.setMemWord_flash (s : State) (n : Nat) (v : Word) : (s.setMemWord n v).flash = s.flash := rfl
@[simp] theorem State.setMemWord_sfdp (s : State) (n : Nat) (v : Word) : (s.setMemWord n v).sfdp = s.sfdp := rfl
@[simp] theorem State.setMemWord_boot (s : State) (n : Nat) (v : Word) : (s.setMemWord n v).boot = s.boot := rfl
@[simp] theorem State.setMemWord_sec (s : State) (n : Nat) (v : Word) : (s.setMemWord n v).sec = s.sec := rfl
@[simp] theorem State.setMemWord_pwr (s : State) (n : Nat) (v : Word) : (s.setMemWord n v).pwr = s.pwr := rfl
@[simp] theorem State.setMemWord_memWord_same (s : State) (n : Nat) (v : Word) : (s.setMemWord n v).memWord n = v := SMap.get_set_same _ _ _ _
theorem State.setMemWord_memWord_ne (s : State) (n : Nat) (v : Word) (j : Nat) (h : j ≠ n) : (s.setMemWord n v).memWord j = s.memWord j := SMap.get_set_ne _ _ _ _ _ _ h
@[simp] theorem State.setMemWord_reg (s : State) (n : Nat) (v : Word) (j : Nat) : (s.setMemWord n v).reg j = s.reg j := rfl

/-! ## setSect -/

@[simp] theorem State.setSect_pending (s : State) (n : Nat) (e : Ecc) : (s.setSect n e).pending = s.pending := rfl
@[simp] theorem State.setSect_free (s : State) (n : Nat) (e : Ecc) : (s.setSect n e).free = s.free := rfl
@[simp] theorem State.setSect_cyc (s : State) (n : Nat) (e : Ecc) : (s.setSect n e).cyc = s.cyc := rfl
@[simp] theorem State.setSect_resp (s : State) (n : Nat) (e : Ecc) : (s.setSect n e).resp = s.resp := rfl
@[simp] theorem State.setSect_regs (s : State) (n : Nat) (e : Ecc) : (s.setSect n e).regs = s.regs := rfl
@[simp] theorem State.setSect_part (s : State) (n : Nat) (e : Ecc) : (s.setSect n e).part = s.part := rfl
@[simp] theorem State.setSect_answers (s : State) (n : Nat) (e : Ecc) : (s.setSect n e).answers = s.answers := rfl
@[simp] theorem State.setSect_eas (s : State) (n : Nat) (e : Ecc) : (s.setSect n e).eas = s.eas := rfl
@[simp] theorem State.setSect_int (s : State) (n : Nat) (e : Ecc) : (s.setSect n e).int = s.int := rfl
@[simp] theorem State.setSect_dis (s : State) (n : Nat) (e : Ecc) : (s.setSect n e).dis = s.dis := rfl
@[simp] theorem State.setSect_noc (s : State) (n : Nat) (e : Ecc) : (s.setSect n e).noc = s.noc := rfl
@[simp] theorem State.setSect_can (s : State) (n : Nat) (e : Ecc) : (s.setSect n e).can = s.can := rfl
@[simp] theorem State.setSect_pal (s : State) (n : Nat) (e : Ecc) : (s.setSect n e).pal = s.pal := rfl
@[simp] theorem State.setSect_str (s : State) (n : Nat) (e : Ecc) : (s.setSect n e).str = s.str := rfl
@[simp] theorem State.setSect_tbl (s : State) (n : Nat) (e : Ecc) : (s.setSect n e).tbl = s.tbl := rfl
@[simp] theorem State.setSect_shg (s : State) (n : Nat) (e : Ecc) : (s.setSect n e).shg = s.shg := rfl
@[simp] theorem State.setSect_cnd (s : State) (n : Nat) (e : Ecc) : (s.setSect n e).cnd = s.cnd := rfl
@[simp] theorem State.setSect_relCyc (s : State) (n : Nat) (e : Ecc) : (s.setSect n e).relCyc = s.relCyc := rfl
@[simp] theorem State.setSect_mgt (s : State) (n : Nat) (e : Ecc) : (s.setSect n e).mgt = s.mgt := rfl
@[simp] theorem State.setSect_rstCyc (s : State) (n : Nat) (e : Ecc) : (s.setSect n e).rstCyc = s.rstCyc := rfl
@[simp] theorem State.setSect_otp (s : State) (n : Nat) (e : Ecc) : (s.setSect n e).otp = s.otp := rfl
@[simp] theorem State.setSect_flash (s : State) (n : Nat) (e : Ecc) : (s.setSect n e).flash = s.flash := rfl
@[simp] theorem State.setSect_sfdp (s : State) (n : Nat) (e : Ecc) : (s.setSect n e).sfdp = s.sfdp := rfl
@[simp] theorem State.setSect_boot (s : State) (n : Nat) (e : Ecc) : (s.setSect n e).boot = s.boot := rfl
@[simp] theorem State.setSect_sec (s : State) (n : Nat) (e : Ecc) : (s.setSect n e).sec = s.sec := rfl
@[simp] theorem State.setSect_pwr (s : State) (n : Nat) (e : Ecc) : (s.setSect n e).pwr = s.pwr := rfl
@[simp] theorem State.setSect_reg (s : State) (n : Nat) (e : Ecc) (j : Nat) : (s.setSect n e).reg j = s.reg j := rfl

/-! ## setSession -/

@[simp] theorem State.setSession_pending (s : State) (n : Nat) (x : Option Session) : (s.setSession n x).pending = s.pending := rfl
@[simp] theorem State.setSession_free (s : State) (n : Nat) (x : Option Session) : (s.setSession n x).free = s.free := rfl
@[simp] theorem State.setSession_cyc (s : State) (n : Nat) (x : Option Session) : (s.setSession n x).cyc = s.cyc := rfl
@[simp] theorem State.setSession_resp (s : State) (n : Nat) (x : Option Session) : (s.setSession n x).resp = s.resp := rfl
@[simp] theorem State.setSession_regs (s : State) (n : Nat) (x : Option Session) : (s.setSession n x).regs = s.regs := rfl
@[simp] theorem State.setSession_part (s : State) (n : Nat) (x : Option Session) : (s.setSession n x).part = s.part := rfl
@[simp] theorem State.setSession_answers (s : State) (n : Nat) (x : Option Session) : (s.setSession n x).answers = s.answers := rfl
@[simp] theorem State.setSession_eas (s : State) (n : Nat) (x : Option Session) : (s.setSession n x).eas = s.eas := rfl
@[simp] theorem State.setSession_int (s : State) (n : Nat) (x : Option Session) : (s.setSession n x).int = s.int := rfl
@[simp] theorem State.setSession_dis (s : State) (n : Nat) (x : Option Session) : (s.setSession n x).dis = s.dis := rfl
@[simp] theorem State.setSession_noc (s : State) (n : Nat) (x : Option Session) : (s.setSession n x).noc = s.noc := rfl
@[simp] theorem State.setSession_can (s : State) (n : Nat) (x : Option Session) : (s.setSession n x).can = s.can := rfl
@[simp] theorem State.setSession_pal (s : State) (n : Nat) (x : Option Session) : (s.setSession n x).pal = s.pal := rfl
@[simp] theorem State.setSession_str (s : State) (n : Nat) (x : Option Session) : (s.setSession n x).str = s.str := rfl
@[simp] theorem State.setSession_mem (s : State) (n : Nat) (x : Option Session) : (s.setSession n x).mem = s.mem := rfl
@[simp] theorem State.setSession_tbl (s : State) (n : Nat) (x : Option Session) : (s.setSession n x).tbl = s.tbl := rfl
@[simp] theorem State.setSession_shg (s : State) (n : Nat) (x : Option Session) : (s.setSession n x).shg = s.shg := rfl
@[simp] theorem State.setSession_cnd (s : State) (n : Nat) (x : Option Session) : (s.setSession n x).cnd = s.cnd := rfl
@[simp] theorem State.setSession_relCyc (s : State) (n : Nat) (x : Option Session) : (s.setSession n x).relCyc = s.relCyc := rfl
@[simp] theorem State.setSession_mgt (s : State) (n : Nat) (x : Option Session) : (s.setSession n x).mgt = s.mgt := rfl
@[simp] theorem State.setSession_rstCyc (s : State) (n : Nat) (x : Option Session) : (s.setSession n x).rstCyc = s.rstCyc := rfl
@[simp] theorem State.setSession_otp (s : State) (n : Nat) (x : Option Session) : (s.setSession n x).otp = s.otp := rfl
@[simp] theorem State.setSession_flash (s : State) (n : Nat) (x : Option Session) : (s.setSession n x).flash = s.flash := rfl
@[simp] theorem State.setSession_sfdp (s : State) (n : Nat) (x : Option Session) : (s.setSession n x).sfdp = s.sfdp := rfl
@[simp] theorem State.setSession_boot (s : State) (n : Nat) (x : Option Session) : (s.setSession n x).boot = s.boot := rfl
@[simp] theorem State.setSession_pwr (s : State) (n : Nat) (x : Option Session) : (s.setSession n x).pwr = s.pwr := rfl
@[simp] theorem State.setSession_reg (s : State) (n : Nat) (x : Option Session) (j : Nat) : (s.setSession n x).reg j = s.reg j := rfl

/-! ## setWin -/

@[simp] theorem State.setWin_pending (s : State) (n : Nat) (x : Win) : (s.setWin n x).pending = s.pending := rfl
@[simp] theorem State.setWin_free (s : State) (n : Nat) (x : Win) : (s.setWin n x).free = s.free := rfl
@[simp] theorem State.setWin_cyc (s : State) (n : Nat) (x : Win) : (s.setWin n x).cyc = s.cyc := rfl
@[simp] theorem State.setWin_resp (s : State) (n : Nat) (x : Win) : (s.setWin n x).resp = s.resp := rfl
@[simp] theorem State.setWin_regs (s : State) (n : Nat) (x : Win) : (s.setWin n x).regs = s.regs := rfl
@[simp] theorem State.setWin_part (s : State) (n : Nat) (x : Win) : (s.setWin n x).part = s.part := rfl
@[simp] theorem State.setWin_answers (s : State) (n : Nat) (x : Win) : (s.setWin n x).answers = s.answers := rfl
@[simp] theorem State.setWin_eas (s : State) (n : Nat) (x : Win) : (s.setWin n x).eas = s.eas := rfl
@[simp] theorem State.setWin_int (s : State) (n : Nat) (x : Win) : (s.setWin n x).int = s.int := rfl
@[simp] theorem State.setWin_dis (s : State) (n : Nat) (x : Win) : (s.setWin n x).dis = s.dis := rfl
@[simp] theorem State.setWin_noc (s : State) (n : Nat) (x : Win) : (s.setWin n x).noc = s.noc := rfl
@[simp] theorem State.setWin_can (s : State) (n : Nat) (x : Win) : (s.setWin n x).can = s.can := rfl
@[simp] theorem State.setWin_pal (s : State) (n : Nat) (x : Win) : (s.setWin n x).pal = s.pal := rfl
@[simp] theorem State.setWin_str (s : State) (n : Nat) (x : Win) : (s.setWin n x).str = s.str := rfl
@[simp] theorem State.setWin_mem (s : State) (n : Nat) (x : Win) : (s.setWin n x).mem = s.mem := rfl
@[simp] theorem State.setWin_tbl (s : State) (n : Nat) (x : Win) : (s.setWin n x).tbl = s.tbl := rfl
@[simp] theorem State.setWin_shg (s : State) (n : Nat) (x : Win) : (s.setWin n x).shg = s.shg := rfl
@[simp] theorem State.setWin_cnd (s : State) (n : Nat) (x : Win) : (s.setWin n x).cnd = s.cnd := rfl
@[simp] theorem State.setWin_relCyc (s : State) (n : Nat) (x : Win) : (s.setWin n x).relCyc = s.relCyc := rfl
@[simp] theorem State.setWin_rstCyc (s : State) (n : Nat) (x : Win) : (s.setWin n x).rstCyc = s.rstCyc := rfl
@[simp] theorem State.setWin_otp (s : State) (n : Nat) (x : Win) : (s.setWin n x).otp = s.otp := rfl
@[simp] theorem State.setWin_flash (s : State) (n : Nat) (x : Win) : (s.setWin n x).flash = s.flash := rfl
@[simp] theorem State.setWin_sfdp (s : State) (n : Nat) (x : Win) : (s.setWin n x).sfdp = s.sfdp := rfl
@[simp] theorem State.setWin_boot (s : State) (n : Nat) (x : Win) : (s.setWin n x).boot = s.boot := rfl
@[simp] theorem State.setWin_sec (s : State) (n : Nat) (x : Win) : (s.setWin n x).sec = s.sec := rfl
@[simp] theorem State.setWin_pwr (s : State) (n : Nat) (x : Win) : (s.setWin n x).pwr = s.pwr := rfl
@[simp] theorem State.setWin_reg (s : State) (n : Nat) (x : Win) (j : Nat) : (s.setWin n x).reg j = s.reg j := rfl

/-! ## setMac -/

@[simp] theorem State.setMac_pending (s : State) (n : Nat) (x : MacChan) : (s.setMac n x).pending = s.pending := rfl
@[simp] theorem State.setMac_free (s : State) (n : Nat) (x : MacChan) : (s.setMac n x).free = s.free := rfl
@[simp] theorem State.setMac_cyc (s : State) (n : Nat) (x : MacChan) : (s.setMac n x).cyc = s.cyc := rfl
@[simp] theorem State.setMac_resp (s : State) (n : Nat) (x : MacChan) : (s.setMac n x).resp = s.resp := rfl
@[simp] theorem State.setMac_regs (s : State) (n : Nat) (x : MacChan) : (s.setMac n x).regs = s.regs := rfl
@[simp] theorem State.setMac_part (s : State) (n : Nat) (x : MacChan) : (s.setMac n x).part = s.part := rfl
@[simp] theorem State.setMac_answers (s : State) (n : Nat) (x : MacChan) : (s.setMac n x).answers = s.answers := rfl
@[simp] theorem State.setMac_eas (s : State) (n : Nat) (x : MacChan) : (s.setMac n x).eas = s.eas := rfl
@[simp] theorem State.setMac_int (s : State) (n : Nat) (x : MacChan) : (s.setMac n x).int = s.int := rfl
@[simp] theorem State.setMac_dis (s : State) (n : Nat) (x : MacChan) : (s.setMac n x).dis = s.dis := rfl
@[simp] theorem State.setMac_noc (s : State) (n : Nat) (x : MacChan) : (s.setMac n x).noc = s.noc := rfl
@[simp] theorem State.setMac_can (s : State) (n : Nat) (x : MacChan) : (s.setMac n x).can = s.can := rfl
@[simp] theorem State.setMac_pal (s : State) (n : Nat) (x : MacChan) : (s.setMac n x).pal = s.pal := rfl
@[simp] theorem State.setMac_mem (s : State) (n : Nat) (x : MacChan) : (s.setMac n x).mem = s.mem := rfl
@[simp] theorem State.setMac_tbl (s : State) (n : Nat) (x : MacChan) : (s.setMac n x).tbl = s.tbl := rfl
@[simp] theorem State.setMac_shg (s : State) (n : Nat) (x : MacChan) : (s.setMac n x).shg = s.shg := rfl
@[simp] theorem State.setMac_cnd (s : State) (n : Nat) (x : MacChan) : (s.setMac n x).cnd = s.cnd := rfl
@[simp] theorem State.setMac_relCyc (s : State) (n : Nat) (x : MacChan) : (s.setMac n x).relCyc = s.relCyc := rfl
@[simp] theorem State.setMac_mgt (s : State) (n : Nat) (x : MacChan) : (s.setMac n x).mgt = s.mgt := rfl
@[simp] theorem State.setMac_rstCyc (s : State) (n : Nat) (x : MacChan) : (s.setMac n x).rstCyc = s.rstCyc := rfl
@[simp] theorem State.setMac_otp (s : State) (n : Nat) (x : MacChan) : (s.setMac n x).otp = s.otp := rfl
@[simp] theorem State.setMac_flash (s : State) (n : Nat) (x : MacChan) : (s.setMac n x).flash = s.flash := rfl
@[simp] theorem State.setMac_sfdp (s : State) (n : Nat) (x : MacChan) : (s.setMac n x).sfdp = s.sfdp := rfl
@[simp] theorem State.setMac_boot (s : State) (n : Nat) (x : MacChan) : (s.setMac n x).boot = s.boot := rfl
@[simp] theorem State.setMac_sec (s : State) (n : Nat) (x : MacChan) : (s.setMac n x).sec = s.sec := rfl
@[simp] theorem State.setMac_pwr (s : State) (n : Nat) (x : MacChan) : (s.setMac n x).pwr = s.pwr := rfl
@[simp] theorem State.setMac_mac_same (s : State) (n : Nat) (x : MacChan) : (s.setMac n x).mac n = x := SMap.get_set_same _ _ _ _
theorem State.setMac_mac_ne (s : State) (n : Nat) (x : MacChan) (j : Nat) (h : j ≠ n) : (s.setMac n x).mac j = s.mac j :=
  SMap.get_set_ne _ _ _ _ _ _ h
@[simp] theorem State.setMac_reg (s : State) (n : Nat) (x : MacChan) (j : Nat) : (s.setMac n x).reg j = s.reg j := rfl

/-! ## setPbx -/

@[simp] theorem State.setPbx_pending (s : State) (n : Nat) (x : Pbx) : (s.setPbx n x).pending = s.pending := rfl
@[simp] theorem State.setPbx_free (s : State) (n : Nat) (x : Pbx) : (s.setPbx n x).free = s.free := rfl
@[simp] theorem State.setPbx_cyc (s : State) (n : Nat) (x : Pbx) : (s.setPbx n x).cyc = s.cyc := rfl
@[simp] theorem State.setPbx_resp (s : State) (n : Nat) (x : Pbx) : (s.setPbx n x).resp = s.resp := rfl
@[simp] theorem State.setPbx_regs (s : State) (n : Nat) (x : Pbx) : (s.setPbx n x).regs = s.regs := rfl
@[simp] theorem State.setPbx_part (s : State) (n : Nat) (x : Pbx) : (s.setPbx n x).part = s.part := rfl
@[simp] theorem State.setPbx_answers (s : State) (n : Nat) (x : Pbx) : (s.setPbx n x).answers = s.answers := rfl
@[simp] theorem State.setPbx_eas (s : State) (n : Nat) (x : Pbx) : (s.setPbx n x).eas = s.eas := rfl
@[simp] theorem State.setPbx_int (s : State) (n : Nat) (x : Pbx) : (s.setPbx n x).int = s.int := rfl
@[simp] theorem State.setPbx_dis (s : State) (n : Nat) (x : Pbx) : (s.setPbx n x).dis = s.dis := rfl
@[simp] theorem State.setPbx_noc (s : State) (n : Nat) (x : Pbx) : (s.setPbx n x).noc = s.noc := rfl
@[simp] theorem State.setPbx_pal (s : State) (n : Nat) (x : Pbx) : (s.setPbx n x).pal = s.pal := rfl
@[simp] theorem State.setPbx_str (s : State) (n : Nat) (x : Pbx) : (s.setPbx n x).str = s.str := rfl
@[simp] theorem State.setPbx_mem (s : State) (n : Nat) (x : Pbx) : (s.setPbx n x).mem = s.mem := rfl
@[simp] theorem State.setPbx_tbl (s : State) (n : Nat) (x : Pbx) : (s.setPbx n x).tbl = s.tbl := rfl
@[simp] theorem State.setPbx_shg (s : State) (n : Nat) (x : Pbx) : (s.setPbx n x).shg = s.shg := rfl
@[simp] theorem State.setPbx_cnd (s : State) (n : Nat) (x : Pbx) : (s.setPbx n x).cnd = s.cnd := rfl
@[simp] theorem State.setPbx_relCyc (s : State) (n : Nat) (x : Pbx) : (s.setPbx n x).relCyc = s.relCyc := rfl
@[simp] theorem State.setPbx_mgt (s : State) (n : Nat) (x : Pbx) : (s.setPbx n x).mgt = s.mgt := rfl
@[simp] theorem State.setPbx_rstCyc (s : State) (n : Nat) (x : Pbx) : (s.setPbx n x).rstCyc = s.rstCyc := rfl
@[simp] theorem State.setPbx_otp (s : State) (n : Nat) (x : Pbx) : (s.setPbx n x).otp = s.otp := rfl
@[simp] theorem State.setPbx_flash (s : State) (n : Nat) (x : Pbx) : (s.setPbx n x).flash = s.flash := rfl
@[simp] theorem State.setPbx_sfdp (s : State) (n : Nat) (x : Pbx) : (s.setPbx n x).sfdp = s.sfdp := rfl
@[simp] theorem State.setPbx_boot (s : State) (n : Nat) (x : Pbx) : (s.setPbx n x).boot = s.boot := rfl
@[simp] theorem State.setPbx_sec (s : State) (n : Nat) (x : Pbx) : (s.setPbx n x).sec = s.sec := rfl
@[simp] theorem State.setPbx_pwr (s : State) (n : Nat) (x : Pbx) : (s.setPbx n x).pwr = s.pwr := rfl
@[simp] theorem State.setPbx_reg (s : State) (n : Nat) (x : Pbx) (j : Nat) : (s.setPbx n x).reg j = s.reg j := rfl

/-! ## setFentry -/

@[simp] theorem State.setFentry_pending (s : State) (n : Nat) (x : FEntry) : (s.setFentry n x).pending = s.pending := rfl
@[simp] theorem State.setFentry_free (s : State) (n : Nat) (x : FEntry) : (s.setFentry n x).free = s.free := rfl
@[simp] theorem State.setFentry_cyc (s : State) (n : Nat) (x : FEntry) : (s.setFentry n x).cyc = s.cyc := rfl
@[simp] theorem State.setFentry_resp (s : State) (n : Nat) (x : FEntry) : (s.setFentry n x).resp = s.resp := rfl
@[simp] theorem State.setFentry_regs (s : State) (n : Nat) (x : FEntry) : (s.setFentry n x).regs = s.regs := rfl
@[simp] theorem State.setFentry_part (s : State) (n : Nat) (x : FEntry) : (s.setFentry n x).part = s.part := rfl
@[simp] theorem State.setFentry_answers (s : State) (n : Nat) (x : FEntry) : (s.setFentry n x).answers = s.answers := rfl
@[simp] theorem State.setFentry_eas (s : State) (n : Nat) (x : FEntry) : (s.setFentry n x).eas = s.eas := rfl
@[simp] theorem State.setFentry_dis (s : State) (n : Nat) (x : FEntry) : (s.setFentry n x).dis = s.dis := rfl
@[simp] theorem State.setFentry_noc (s : State) (n : Nat) (x : FEntry) : (s.setFentry n x).noc = s.noc := rfl
@[simp] theorem State.setFentry_can (s : State) (n : Nat) (x : FEntry) : (s.setFentry n x).can = s.can := rfl
@[simp] theorem State.setFentry_pal (s : State) (n : Nat) (x : FEntry) : (s.setFentry n x).pal = s.pal := rfl
@[simp] theorem State.setFentry_str (s : State) (n : Nat) (x : FEntry) : (s.setFentry n x).str = s.str := rfl
@[simp] theorem State.setFentry_mem (s : State) (n : Nat) (x : FEntry) : (s.setFentry n x).mem = s.mem := rfl
@[simp] theorem State.setFentry_tbl (s : State) (n : Nat) (x : FEntry) : (s.setFentry n x).tbl = s.tbl := rfl
@[simp] theorem State.setFentry_shg (s : State) (n : Nat) (x : FEntry) : (s.setFentry n x).shg = s.shg := rfl
@[simp] theorem State.setFentry_cnd (s : State) (n : Nat) (x : FEntry) : (s.setFentry n x).cnd = s.cnd := rfl
@[simp] theorem State.setFentry_relCyc (s : State) (n : Nat) (x : FEntry) : (s.setFentry n x).relCyc = s.relCyc := rfl
@[simp] theorem State.setFentry_mgt (s : State) (n : Nat) (x : FEntry) : (s.setFentry n x).mgt = s.mgt := rfl
@[simp] theorem State.setFentry_rstCyc (s : State) (n : Nat) (x : FEntry) : (s.setFentry n x).rstCyc = s.rstCyc := rfl
@[simp] theorem State.setFentry_otp (s : State) (n : Nat) (x : FEntry) : (s.setFentry n x).otp = s.otp := rfl
@[simp] theorem State.setFentry_flash (s : State) (n : Nat) (x : FEntry) : (s.setFentry n x).flash = s.flash := rfl
@[simp] theorem State.setFentry_sfdp (s : State) (n : Nat) (x : FEntry) : (s.setFentry n x).sfdp = s.sfdp := rfl
@[simp] theorem State.setFentry_boot (s : State) (n : Nat) (x : FEntry) : (s.setFentry n x).boot = s.boot := rfl
@[simp] theorem State.setFentry_sec (s : State) (n : Nat) (x : FEntry) : (s.setFentry n x).sec = s.sec := rfl
@[simp] theorem State.setFentry_pwr (s : State) (n : Nat) (x : FEntry) : (s.setFentry n x).pwr = s.pwr := rfl
@[simp] theorem State.setFentry_fentry_same (s : State) (n : Nat) (x : FEntry) : (s.setFentry n x).fentry n = x := SMap.get_set_same _ _ _ _
theorem State.setFentry_fentry_ne (s : State) (n : Nat) (x : FEntry) (j : Nat) (h : j ≠ n) : (s.setFentry n x).fentry j = s.fentry j :=
  SMap.get_set_ne _ _ _ _ _ _ h
@[simp] theorem State.setFentry_reg (s : State) (n : Nat) (x : FEntry) (j : Nat) : (s.setFentry n x).reg j = s.reg j := rfl

end Sys2Proof.Machine
end

