-- ==== Sys2Proof/Laws/Memory.lean ====
section
/-! SUPPORT. Sys2Proof/Laws/Memory.lean: the memory of the stacks keeps its canonical form under every operation, and what a
read of a sound sector and a copy of sound words answer. -/
namespace Sys2Proof.Machine

theorem reset_mem_wf : State.reset.mem.wf = true := by decide

theorem State.setMemWord_wf (s : State) (i : Nat) (v : Word) (h : s.mem.wf = true) : (s.setMemWord i v).mem.wf = true := by
  simp only [Mem.wf, Bool.and_eq_true] at h ⊢
  exact ⟨SMap.wf_set s.mem.words i v (fun _ => 0#32) h.1, h.2⟩

theorem State.setSect_wf (s : State) (k : Nat) (e : Ecc) (h : s.mem.wf = true) : (s.setSect k e).mem.wf = true := by
  simp only [Mem.wf, Bool.and_eq_true] at h ⊢
  exact ⟨h.1, SMap.wf_set s.mem.sects k e (fun _ => .ok) h.2⟩

theorem State.putWords_wf (s : State) (i : Nat) (ws : List Word) (h : s.mem.wf = true) : (s.putWords i ws).mem.wf = true := by
  unfold State.putWords
  generalize ws.zip (List.range ws.length) = l
  induction l generalizing s with
  | nil => exact h
  | cons p r ih => exact ih _ (State.setMemWord_wf _ _ _ h)

/-- A write of one word reads back, and leaves every other word alone. -/
@[simp] theorem State.setMemWord_same (s : State) (i : Nat) (v : Word) : (s.setMemWord i v).memWord i = v :=
  SMap.get_set_same _ _ _ _
theorem State.setMemWord_ne (s : State) (i j : Nat) (v : Word) (h : j ≠ i) : (s.setMemWord i v).memWord j = s.memWord j :=
  SMap.get_set_ne _ _ _ _ _ _ h
@[simp] theorem State.setSect_same (s : State) (k : Nat) (e : Ecc) : (s.setSect k e).sect k = e := SMap.get_set_same _ _ _ _
theorem State.setSect_ne (s : State) (k j : Nat) (e : Ecc) (h : j ≠ k) : (s.setSect k e).sect j = s.sect j :=
  SMap.get_set_ne _ _ _ _ _ _ h

/-- A read of a sound sector finds it correct and changes nothing. -/
theorem State.readSect_sound (s : State) (k : Nat) (h : s.soundSect k) : s.readSect k = (true, s) := by
  obtain ⟨h1, h2⟩ := h
  have h3 : s.settleSect k = s := by
    unfold State.settleSect
    simp [h2]
  unfold State.readSect
  simp [h3, h1]

/-- A copy of sound words of the stacks meets no error and changes nothing. -/
theorem State.copySource_sound (s : State) (a n : Nat) (ha : a + 4 * n ≤ 0x800000000)
    (h : ∀ i, i < n → s.soundSect ((a + 4 * i) / 32)) : (s.copySource a n).2 = (false, s) := by
  induction n with
  | zero => rfl
  | succ n ih =>
    have ih' := ih (by omega) (fun i hi => h i (by omega))
    have hw : s.srcWord (a + 4 * n) = (s.memWord ((a + 4 * n) / 4), false, s) := by
      unfold State.srcWord
      rw [if_pos (by omega), State.readSect_sound s _ (h n (by omega))]
      rfl
    rcases hc : s.copySource a n with ⟨m, bad, t⟩
    rw [hc] at ih'
    obtain ⟨rfl, rfl⟩ : bad = false ∧ t = s := by simpa using ih'
    unfold State.copySource
    rw [hc]
    simp [hw]

end Sys2Proof.Machine
end

