-- ==== Sys2Proof/Laws/Ops.lean ====
section
/-! SUPPORT. Sys2Proof/Laws/Ops.lean: what each shared operation does where it is not turned away, and what it leaves. -/
namespace Sys2Proof.Machine

/-! ## Register updates -/

theorem State.orReg_reg_same (s : State) (a m : Nat) : (s.orReg a m).reg a = s.reg a ||| word m := by
  simp [State.orReg]
theorem State.orReg_reg_ne (s : State) (a m j : Nat) (h : j ≠ a) : (s.orReg a m).reg j = s.reg j := by
  unfold State.orReg; exact State.setReg_reg_ne _ _ _ _ h
theorem State.clrReg_reg_same (s : State) (a m : Nat) : (s.clrReg a m).reg a = s.reg a &&& ~~~ (word m) := by
  simp [State.clrReg]
theorem State.clrReg_reg_ne (s : State) (a m j : Nat) (h : j ≠ a) : (s.clrReg a m).reg j = s.reg j := by
  unfold State.clrReg; exact State.setReg_reg_ne _ _ _ _ h
theorem State.setRegF_reg_same (s : State) (a hi lo v : Nat) : (s.setRegF a hi lo v).reg a = putBits (s.reg a) hi lo v := by
  simp [State.setRegF]
theorem State.setRegF_reg_ne (s : State) (a hi lo v j : Nat) (h : j ≠ a) : (s.setRegF a hi lo v).reg j = s.reg j := by
  unfold State.setRegF; exact State.setReg_reg_ne _ _ _ _ h
theorem State.bump_reg_ne (s : State) (a n j : Nat) (h : j ≠ a) : (s.bump a n).reg j = s.reg j := by
  unfold State.bump State.bumpF; exact State.setRegF_reg_ne _ _ _ _ _ _ h

/-- A write of a whole word through `putBits` is the word. -/
theorem putBits_whole (w : Word) (v : Nat) : putBits w 31 0 v = word v := by
  have h : bitsOf w.toNat 31 0 = w.toNat := by
    have := w.isLt
    simp [bitsOf, Nat.mod_eq_of_lt this]
  unfold putBits word
  simp only [h]
  apply BitVec.eq_of_toNat_eq
  simp

/-- What counting does: the sum, or all ones where it saturates. -/
theorem State.bump_reg_same (s : State) (a n : Nat) :
    (s.bump a n).reg a = word (Nat.min ((s.reg a).toNat + n) 4294967295) := by
  have h : bitsOf (s.reg a).toNat 31 0 = (s.reg a).toNat := by
    have := (s.reg a).isLt
    simp [bitsOf, Nat.mod_eq_of_lt this]
  unfold State.bump State.bumpF
  rw [State.setRegF_reg_same, putBits_whole]
  simp [State.regF, Word.bits, h]

theorem State.bump_counts (s : State) (a n : Nat) : s.counts (s.bump a n) a n := by
  unfold State.counts
  rw [State.bump_reg_same]
  have : Nat.min ((s.reg a).toNat + n) 4294967295 < 4294967296 :=
    Nat.lt_of_le_of_lt (Nat.min_le_right _ _) (by decide)
  simp [word, Nat.mod_eq_of_lt this]

/-! ## Responses -/

@[simp] theorem State.ok_ok (s : State) (d e : Word) : (s.ok d).ok e = s.ok e := rfl
@[simp] theorem State.ok_err (s : State) (d : Word) : (s.ok d).err = s.err := rfl
@[simp] theorem State.ok_reg (s : State) (d : Word) (a : Nat) : (s.ok d).reg a = s.reg a := rfl
@[simp] theorem State.err_reg (s : State) (a : Nat) : s.err.reg a = s.reg a := rfl
@[simp] theorem State.ok_released (s : State) (d : Word) : (s.ok d).released = s.released := rfl

/-- Once nothing is on its way, an event has nothing more to do. -/
theorem State.settle_quiet (s : State) (h : s.quiet = true) : s.settle = s := by
  simp [State.settle, h]

/-! ## Regulators, detectors and store buffers -/

/-- A refill of the buckets of an NI changes nothing but the NIs (R233). -/
theorem State.refillNow_only (s : State) (n : Nat) : ∃ l, s.refillNow n = { s with noc.nis := l } := by
  unfold State.refillNow
  by_cases h : s.nck - (s.ni n).tick = 0
  · exact ⟨s.noc.nis, by simp only [h, if_true]⟩
  · exact ⟨_, by simp only [h, if_false]; rfl⟩

/-- Taking tokens from a bucket changes nothing but the NIs (R233). -/
theorem State.spend_only (s : State) (n c k : Nat) : ∃ l, s.spend n c k = { s with noc.nis := l } := by
  unfold State.spend
  obtain ⟨l, h⟩ := s.refillNow_only n
  split
  · exact ⟨_, by rw [h]; rfl⟩
  · exact ⟨s.noc.nis, rfl⟩

theorem NI.level_setLevel (x : NI) (c : Nat) (v : Int) : (x.setLevel c v).level c = v := by
  match c with
  | 0 | 1 | 2 | _ + 3 => rfl

theorem State.maySend_credit (s : State) (ch : Nat) (h : s.maySend ch = true) : s.chanCredit ch = true := by
  unfold State.maySend at h
  simp only [Bool.and_eq_true] at h
  exact h.1

/-- A detector for which nothing is due stands as it is. -/
theorem Pbx.at_quiet (b : Pbx) (now : Nat) (h : b.ev = []) : b.at_ now = b := by
  cases b
  subst h
  rfl

theorem State.pendingAt_empty (s : State) (c n : Nat) (h : (s.core c).bus = []) : s.pendingAt c n = false := by
  simp [State.pendingAt, h]
theorem State.pendingCl_empty (s : State) (c : Nat) (h : (s.core c).bus = []) : s.pendingCl c = false := by
  simp [State.pendingCl, h]

/-! ## The gates of register commands -/

/-- A command of a block that accesses reach has its own effect. -/
theorem State.viaBlock_opens (s : State) (b : Block) (k : State → State) (h : s.opens b) : s.viaBlock b k = k s.ok := by
  simp only [State.opens] at h
  simp [State.viaBlock, h]

theorem State.gateTile_open (s : State) (t : Nat) (k : State → State) (h : s.tileOpen t) : s.gateTile t k = k s.ok := by
  obtain ⟨h1, h2, h3, h4⟩ := h
  simp [State.gateTile, h1, h2, h3, h4]

theorem State.gateEasel_released (s : State) (k : State → State) (h : s.released = true) : s.gateEasel k = k s.ok := by
  simp [State.gateEasel, h]

/-- The blocks that are always alive answer in every state but for a fence (R324, R373). -/
theorem State.opens_always (s : State) (b : Block) (h : b.always = true) (hh : s.blockHere b = true)
    (hf : s.blockFenced b = false) : s.opens b := by
  simp [State.opens, State.blockGate, h, hh, hf]

/-- An access of a block that accesses reach is the block's own read or write. -/
theorem State.regAccess0_opens (s : State) (w : Asker) (wr : Bool) (a : Nat) (d : Word) (b : Block) (ha : a % 4 = 0)
    (hb : blockOf a = some b) (ho : s.opens b) :
    s.regAccess0 w wr a 4 d = if wr then s.blockWrite w.path w b a d else s.blockRead b a := by
  simp only [State.opens] at ho
  simp [State.regAccess0, ha, hb, ho]

/-- An access of another size, off its boundary or of no block is an error (R18). -/
theorem State.regAccess0_bad (s : State) (w : Asker) (wr : Bool) (a n : Nat) (d : Word)
    (h : n ≠ 4 ∨ a % 4 ≠ 0 ∨ blockOf a = none) : s.regAccess0 w wr a n d = s.err := by
  unfold State.regAccess0
  split
  · rfl
  · rename_i hc
    rcases h with h | h | h
    · exact absurd (Or.inl h) hc
    · exact absurd (Or.inr h) hc
    · simp [h]

/-! ## Steps -/

theorem step_front (i : Instr) (r : List Instr) (s : State) (h : s.pending = i :: r) :
    step s = exec i { s with pending := r } := by
  simp [step, h]

end Sys2Proof.Machine
end

