-- ==== Sys2Proof/WellFormed.lean ====
section
/-! DEFINITION. Sys2Proof/WellFormed.lean: which commands a sender can form (the operand ranges of spec/opcode_table.json
that the operand types do not already say). The meanings are total: they answer ill-formed commands too. -/
namespace Sys2Proof

/-- A register access is 1, 2, 4 or 8 bytes wide (R18). -/
def accessSize (n : Nat) : Bool := n == 1 || n == 2 || n == 4 || n == 8

/-- Flits that the header of a packet announces (Table NC-2). -/
def Packet.announced (pk : Packet) : Nat :=
  match pk.lay with
  | .c => 1
  | .d => (pk.hdr.extractLsb' 48 2).toNat + 1

/-- A packet holds as many flits as its header announces, and the reserved bits of a D-layer header are 0 (Table NC-2). -/
def Packet.wf (pk : Packet) : Bool :=
  pk.body.length == Packet.announced pk && (pk.lay == .c || pk.hdr.extractLsb' 62 2 == 0#2)

/-- A MAC control frame with opcode `op` of at least `n` bytes (R180). -/
def controlFrame (bytes : List Byte) (op n : Nat) : Bool :=
  decide (n ≤ bytes.length) && bytes.getD 12 0#8 == 0x88#8 && bytes.getD 13 0#8 == 0x08#8 &&
    (bytes.getD 14 0#8).toNat * 256 + (bytes.getD 15 0#8).toNat == op

/-- Whether a command is well formed. -/
def Instr.wf (i : Instr) : Bool :=
  match i with
  | .registerWrite _ _ size _ => accessSize size
  | .rcRead _ _ size => accessSize size
  | .timingPinEdge _ _ run => decide (0 < run)
  | .axisStall _ => true
  | .axisLoad _ => true
  | .axisAdd _ => true
  | .revClr _ => true
  | .armIdx _ => true
  | .axisCfgWrite _ _ => true
  | .axisRateWrite _ _ => true
  | .rateApply _ => true
  | .axisPosLoRead _ => true
  | .axisLost _ => true
  | .entryCrossing _ => true
  | .pulseEnd _ => true
  | .easelTokenSend => true
  | .stageWrite _ _ => true
  | .stageRead _ _ => true
  | .stageArm _ _ => true
  | .stageDisarm _ _ => true
  | .rstepHiWrite _ _ => true
  | .pcmdHiWrite _ _ => true
  | .schedEnWrite _ => true
  | .safeWrite _ => true
  | .tpCfgWrite _ _ => true
  | .firing _ => true
  | .pbxClose _ => true
  | .markerFiring _ => true
  | .tokenPathAccept _ => true
  | .writeBack _ => true
  | .forcedWriteBack _ => true
  | .agCfgWrite _ _ _ => true
  | .applyStg _ _ => true
  | .tileHold _ _ => true
  | .fireOne _ => true
  | .acchiWrite _ _ => true
  | .jointPass _ _ => true
  | .ctxEvenWrite _ _ _ _ => true
  | .ctxOddWrite _ _ _ _ => true
  | .ctxRead _ _ _ => true
  | .palCmdHiWrite _ => true
  | .registerCommandDelivery => true
  | .immediateCmd => true
  | .eventCmd => true
  | .markerCmd => true
  | .cancelCmd => true
  | .palPendClr _ => true
  | .palGroupHiWrite _ _ => true
  | .spgModeWrite _ _ => true
  | .linkUp _ _ => true
  | .linkdown _ => true
  | .receivedFrame _ bytes => !bytes.isEmpty
  | .pfcRepeat _ => true
  | .pauseFrame _ bytes => controlFrame bytes 0x0001 18
  | .pfcFrame _ bytes => controlFrame bytes 0x0101 34
  | .pfcHoldEnd _ _ => true
  | .classification _ => true
  | .streamRow _ => true
  | .markerInsert _ => true
  | .streamEntryWrite egress sid _ _ => !egress || decide (sid.val < 64)
  | .egressRow _ => true
  | .frameTxStart _ => true
  | .txUnder _ => true
  | .tsInfoRead _ _ => true
  | .counterLoRead addr => decide (addr.toNat % 4 = 0)
  | .stackTrainingDone _ _ => true
  | .zdone _ => true
  | .sectorClear _ => true
  | .pprGo _ _ => true
  | .pprDone _ _ => true
  | .stackPowerRequest _ _ => true
  | .stackThermal _ _ => true
  | .descriptorWrite _ _ _ => true
  | .tableRequest _ => true
  | .tableResponse _ => true
  | .tableSwap => true
  | .tblSwap _ => true
  | .apertureWrite _ addr _ => decide (addr.toNat % 4 = 0)
  | .collectionTimeout _ => true
  | .inject _ _ pk _ => Packet.wf pk
  | .routerForward _ _ _ => true
  | .nocRd _ => true
  | .nocWr _ => true
  | .nocWrp _ => true
  | .nocRsp _ => true
  | .lrd _ => true
  | .lwr _ => true
  | .lwrp _ => true
  | .lrsp _ => true
  | .lack _ => true
  | .requestTimeout _ _ => true
  | .routeWrite _ _ _ => true
  | .guaranteeBreach _ _ => true
  | .statsClr _ => true
  | .fenceReq _ => true
  | .fenceAck _ => true
  | .fenceRelease _ => true
  | .routerApply _ _ => true
  | .quiesceDone _ _ => true
  | .routerFault _ _ => true
  | .trainDone _ => true
  | .ident _ _ _ _ => true
  | .linkRetrain _ => true
  | .linkDown _ => true
  | .lctlTimeout _ => true
  | .credit _ _ _ _ _ => true
  | .creditSend _ => true
  | .flitCell _ _ _ => true
  | .remoteOriginate => true
  | .sdat _ payload _ => decide (9 ≤ payload.length) && decide (payload.length ≤ 256)
  | .dreqSend _ _ => true
  | .dreq _ _ _ _ _ => true
  | .drsp _ _ _ _ _ _ => true
  | .beaconSend _ _ => true
  | .beacon _ _ _ => true
  | .sketchCell _ _ => true
  | .systemLatch => true
  | .sklate => true
  | .auth _ _ => true
  | .foldSend _ => true
  | .rtcmdWrite => true
  | .rtcmdRead => true
  | .nopOp _ => true
  | .doneOp _ => true
  | .post _ => true
  | .sync _ => true
  | .rtt _ => true
  | .rttn _ => true
  | .mfs _ => true
  | .mts _ => true
  | .bkrd _ => true
  | .bkwr _ => true
  | .savel _ => true
  | .saveu _ => true
  | .restl _ => true
  | .restlj _ => true
  | .restu _ => true
  | .addOp _ => true
  | .addc _ => true
  | .subOp _ => true
  | .subc _ => true
  | .adds _ => true
  | .subs _ => true
  | .andOp _ => true
  | .orOp _ => true
  | .xorOp _ => true
  | .andn _ => true
  | .shl _ => true
  | .shr _ => true
  | .sar _ => true
  | .rol _ => true
  | .shrr _ => true
  | .minOp _ => true
  | .maxOp _ => true
  | .minu _ => true
  | .maxu _ => true
  | .slt _ => true
  | .sltu _ => true
  | .seqOp _ => true
  | .clz _ => true
  | .cls _ => true
  | .popc _ => true
  | .mulOp _ => true
  | .mulh _ => true
  | .mulhu _ => true
  | .divOp _ => true
  | .divu _ => true
  | .rem _ => true
  | .remu _ => true
  | .addi _ => true
  | .andi _ => true
  | .ori _ => true
  | .xori _ => true
  | .slti _ => true
  | .sltiu _ => true
  | .shli _ => true
  | .shri _ => true
  | .sari _ => true
  | .lui _ => true
  | .ldb _ => true
  | .ldbu _ => true
  | .ldh _ => true
  | .ldhu _ => true
  | .ldw _ => true
  | .ldd _ => true
  | .stb _ => true
  | .sth _ => true
  | .stw _ => true
  | .std _ => true
  | .branch _ => true
  | .callOp _ => true
  | .jalr _ => true
  | .jr _ => true
  | .rpt _ => true
  | .trapOp _ => true
  | .breakOp _ => true
  | .pointerAccess _ => true
  | .extr _ => true
  | .expb _ => true
  | .bxc _ => true
  | .scla _ => true
  | .noneOp _ => true
  | .mac _ => true
  | .msu _ => true
  | .mpy _ => true
  | .mac2 _ => true
  | .msu2 _ => true
  | .clr _ => true
  | .acca _ => true
  | .extendedSaveDone _ => true
  | .extendedRestoreDone _ => true
  | .switchRequest _ => true
  | .storeResponse _ => true
  | .registerLoadResponse _ => true
  | .crst _ => true
  | .coreHalt _ _ => true
  | .coreStep _ => true
  | .evictDone _ => true
  | .reloadDone _ => true
  | .tokenLand _ => true
  | .tokenMatch _ => true
  | .selection => true
  | .disCancel _ => true
  | .threadCfgWrite _ _ _ => true
  | .disInj _ => true
  | .disCoreWrite _ => true
  | .powerOnReset _ _ => true
  | .warmReset _ => true
  | .startImage => true
  | .newStart => true
  | .bootOk _ _ => true
  | .bootOkWatchdog => true
  | .retryStart _ => true
  | .progcust _ _ => true
  | .attgo _ => true
  | .attestationDone => true
  | .readcust _ => true
  | .attDataRead => true
  | .certDataRead => true
  | .beginUpdate => true
  | .updateData _ => true
  | .finishUpdate => true
  | .verifyDone => true
  | .abortUpdate => true
  | .open1 _ bytes => !bytes.isEmpty
  | .open3 _ bytes => !bytes.isEmpty
  | .openHoldoffEnd _ => true
  | .reqFrame _ bytes => !bytes.isEmpty
  | .ibRsp => true
  | .closeFrame _ bytes => !bytes.isEmpty
  | .sessionIdle _ => true
  | .pnlGo => true
  | .fetchDone _ => true
  | .panelRelease => true
  | .pnlAbort => true
  | .scrubStep => true
  | .scrubReload => true
  | .scrubRead _ => true
  | .passGo _ => true
  | .passRead => true
  | .passAbort => true
  | .trackerClr _ _ => true
  | .faultFlit => true
  | .fltAck _ => true
  | .epochEnd => true
  | .mspRd _ _ _ _ => true
  | .mspWr _ _ _ _ => true
  | .lastCmd _ _ _ _ => true
  | .aon _ _ _ _ => true
  | .badcmd cmd _ _ _ _ => !([1#8, 2#8, 4#8, 5#8].contains cmd)
  | .mspShort bytes => decide (bytes < 11)
  | .windowWrite _ _ _ => true
  | .windowRead _ _ => true
  | .trig => true
  | .rearm => true
  | .sketchIn => true
  | .sketchLatch => true
  | .sketchRecordReady => true
  | .skrecDataRead => true
  | .readbackGo _ => true
  | .rbDataRead => true
  | .mgtDbgWrite _ _ => true
  | .idcode => true
  | .samplePreload _ => true
  | .extest => true
  | .extestPulse => true
  | .extestTrain => true
  | .clamp => true
  | .highz => true
  | .mgtacc _ => true
  | .rbscan => true
  | .bypass => true
  | .temperatureConversion _ _ => true
  | .voltageConversion _ _ => true
  | .clockLoss => true
  | .clockRecovery => true
  | .pllUnlock _ => true
  | .domainRequest _ _ => true
  | .domainChangeDone => true
  | .domFail => true
  | .softwareReset _ => true
  | .safeProg _ _ => true
  | .safeProgDone => true
  | .interpolator => true
  | .illegal _ => true
  | .fetchAddr _ => true
  | .eraseDone => true
  | .gpInput _ _ => true

end Sys2Proof
end

