-- ==== Sys2Proof/Tests/Slice0.lean ====
section
/-! SUPPORT. Sys2Proof/Tests/Slice0.lean: the model's own tests: ill-formed commands are refused by Instr.wf, and for every
statement with hypotheses a state and operands that meet them. -/
set_option Elab.async false
namespace Sys2Proof.Machine.Tests
open Sys2Proof Sys2Proof.Machine

/-! ## WellFormed: one ill-formed term for each check -/

theorem test_wf_access_size : Instr.wf (.registerWrite .mgmt 0#32 3 0#32) = false ∧ Instr.wf (.rcRead .mgmt 0#32 0) = false ∧
    Instr.wf (.rcRead .mgmt 0#32 4) = true := by decide
theorem test_wf_pin_run : Instr.wf (.timingPinEdge 0#64 0#64 0) = false := by decide
theorem test_wf_frame : Instr.wf (.receivedFrame 0 []) = false := by decide
theorem test_wf_control_frames : Instr.wf (.pauseFrame 0 (List.replicate 64 0#8)) = false ∧
    Instr.wf (.pfcFrame 0 (List.replicate 64 0#8)) = false := by decide +kernel
theorem test_wf_stream_entry : Instr.wf (.streamEntryWrite true 64 0 0#32) = false ∧
    Instr.wf (.streamEntryWrite false 64 0 0#32) = true := by decide
theorem test_wf_alignment : Instr.wf (.counterLoRead 0x140045#32) = false ∧
    Instr.wf (.apertureWrite .mgmt 0x80000000002#48 0#32) = false := by decide
theorem test_wf_packet : Instr.wf (.inject 0 0 { lay := .c, hdr := 0#64, body := [] } 0) = false := by decide
theorem test_wf_sdat : Instr.wf (.sdat 0#14 (List.replicate 8 0#8) 0#8) = false ∧
    Instr.wf (.sdat 0#14 (List.replicate 257 0#8) 0#8) = false := by decide +kernel

/-! ## States -/

/-- Registers set one after the other. -/
def regsOf (s : State) (l : List (Nat × Nat)) : State := l.foldl (fun s p => s.setReg p.1 (word p.2)) s

/-- A released device with every domain on and both stacks ready. -/
def run : State :=
  let s := regsOf { boot := { stage := .running }, mem := { phase := [(0, 4), (1, 4)] } }
    ([(Reg.devStatus, 2), (Reg.memStat 0, 0x11), (Reg.memStat 1, 0x11)] ++ (List.range 11).map (fun d => (Reg.pwrDomctl d, 0xA)))
  (List.range 8).foldl (fun s c => s.setCore c { s.core c with held := false }) s

/-! ## The Easel -/

/-- `run` with axis 3 an enabled pulse-count axis on pin 5. -/
def pulseAxis : State := regsOf run [(Reg.axCfg 3, 1 + 2 * 2), (Reg.axPin 3, 5)]

theorem test_StepRunsFront : State.reset.pending = [] := by decide
theorem test_AxisCommands : run.opens .eas ∧
    ((run.setAxis 0 { rateBusy := true }).axis 0).rateBusy = true ∧
    axEn ((regsOf run [(Reg.axCfg 0, 9)]).reg (Reg.axCfg 0)) = true ∧
    axSrc ((regsOf run [(Reg.axCfg 0, 9)]).reg (Reg.axCfg 0)) = 4 ∧
    axEn (run.reg (Reg.axCfg 15)) = false ∧ axEn 5#32 = true ∧ axSrc (run.reg (Reg.axCfg 15)) ≤ 3 ∧ axSrc 5#32 ≤ 3 ∧
    axEn (pulseAxis.reg (Reg.axCfg 3)) = true ∧ pulseAxis.opens .eas := by decide +kernel
theorem test_AxisLoadExact : (regsOf run [(Reg.axCfg 0, 0x208)]).opens .eas ∧
    ((regsOf run [(Reg.axCfg 0, 0x208)]).reg (Reg.axCfg 0)).bit 9 = true ∧
    axSrc ((regsOf run [(Reg.axCfg 0, 8)]).reg (Reg.axCfg 0)) = 4 ∧
    axSrc ((regsOf run [(Reg.axCfg 0, 10)]).reg (Reg.axCfg 0)) = 5 := by decide +kernel
theorem test_CountingEdge : pulseAxis.released = true ∧ axEn (pulseAxis.reg (Reg.axCfg 3)) = true ∧
    axSrc (pulseAxis.reg (Reg.axCfg 3)) = 2 ∧ (pulseAxis.reg (Reg.axCfg 3)).bits 7 6 = 0 ∧
    (∀ k : Fin 16, k ≠ 3 → axEn (pulseAxis.reg (Reg.axCfg k.val)) = false) ∧
    (pulseAxis.reg (Reg.axPin 3)).bits 5 0 = 5 ∧ pulseAxis.reg (Reg.tpCfg 5) = 0#32 ∧
    pulseAxis.eas.level.getLsbD 5 = false ∧ (pulseAxis.axis 3).lvA = false ∧ (pulseAxis.axis 3).opened = false := by
  decide +kernel
theorem test_AxisStops : pulseAxis.released = true ∧ axEn (pulseAxis.reg (Reg.axCfg 3)) = true ∧
    axSrc (pulseAxis.reg (Reg.axCfg 3)) ≤ 3 ∧
    (let s := regsOf run [(Reg.axCfg 15, 11)]
     axEn (s.reg (Reg.axCfg 15)) = true ∧ axSrc (s.reg (Reg.axCfg 15)) = 5 ∧ (s.axis 15).lost = false) := by decide +kernel
theorem test_InterpolatorCycle : pulseAxis.quiet = true ∧ pulseAxis.dis.injWait = [] ∧ (pulseAxis.axis 3).opened = false ∧
    pulseAxis.eas.reads = [] ∧ pulseAxis.eas.sketch = none ∧ pulseAxis.inputsMoved 3 = false ∧
    axEn (pulseAxis.reg (Reg.axCfg 0)) = false ∧ pulseAxis.released = true ∧
    axSrc (pulseAxis.reg (Reg.axCfg 3)) ≤ 3 ∧
    (let s := regsOf run [(Reg.axCfg 0, 9)]
     axEn (s.reg (Reg.axCfg 0)) = true ∧ axSrc (s.reg (Reg.axCfg 0)) = 4 ∧ s.reg (Reg.axMod 0) = 0#32) := by decide +kernel

/-- `run` with scheduling on and entry 4095 armed at position 0 with a token action. -/
def armedEntry : State := { regsOf run [(Reg.easCtrl, 1)] with
  eas.entries := [(4095, { w2 := 0xB0#32, fresh := false, qup := false })] }

theorem test_EntryFires : armedEntry.released = true ∧ armedEntry.regB Reg.easCtrl 0 = true ∧
    (armedEntry.entry 4095).armed = true ∧ (armedEntry.entry 4095).notBefore ≤ armedEntry.cyc ∧
    (armedEntry.entry 4095).fresh = false ∧ armedEntry.wordEcc 8 8190 = .ok ∧ armedEntry.wordEcc 8 8191 = .ok ∧
    (armedEntry.entry 4095).dir = 0 ∧ (armedEntry.entry 4095).act = 3 ∧ (armedEntry.entry 4095).rcnt = 0 ∧
    (armedEntry.entry 4095).qup = false ∧ atOrAbove 0 (armedEntry.axPos 0) (armedEntry.entry 4095).pos = true ∧
    armedEntry.pal.pendT = [] ∧ armedEntry.pal.reload = none ∧ (armedEntry.axis 0).jump = false ∧
    armedEntry.eas.tokFifo.length < 64 ∧
    ((armedEntry.setAxis 0 { jump := true }).axis 0).jump = true ∧ (armedEntry.entry 4095).miss = false ∧
    64 ≤ ({ armedEntry with eas.tokFifo := List.replicate 64 { tid := 0, slot := 0, val := 0#32 } } : State).eas.tokFifo.length := by
  decide +kernel

/-- `run` with a pulse of pin 63 that ends at once, and a token in the Easel's FIFO. -/
def pulsing : State := { run with
  eas.pins := [(63, { active := true, pulse := some (0, 0) })], eas.tokFifo := [{ tid := 1, slot := 0, val := 7#32 }] }

theorem test_EaselOutputs : (pulsing.pin 63).pulse = some (0, 0) ∧ 0 ≤ pulsing.cyc ∧
    pulsing.eas.tokFifo = [{ tid := 1, slot := 0, val := 7#32 }] ∧ pulsing.maySend 4 = true ∧
    pulsing.domFenced 10 = false := by decide +kernel
theorem test_StagingAndTables : run.released = true ∧ run.eas.staged = [] ∧ run.regB Reg.easCtrl 0 = false ∧ Word.bit 1#32 0 = true ∧
    run.regB (Reg.tpCfg 63) 0 = false := by decide +kernel

/-! ## The Canvas -/

theorem test_AluBits : (0#32 : Word).sle 5#32 = true ∧ (0x80000000#32 : Word).getLsbD 31 = true ∧
    (∀ j, 31 < j → j < 32 → (0x80000000#32 : Word).getLsbD j = false) := by
  refine ⟨by decide, by decide, ?_⟩; intro j h1 h2; omega

/-- `run` with tile 4095 holding the context `c` as applied, and words `ws` at its input 0. -/
def tileAs (c : Ctx) (ws : List ChWord) : State := run.setTile 4095 { act := c, inp := [(0, ws)] }

/-- A context with CV = 1 that fires on input 0 and absorbs markers. -/
def absorbing : Ctx := BitVec.ofNat 512 (1 + 2 ^ 384 + 2 ^ 448)

theorem test_FiringResult : (tileAs 1#512 []).tileRuns 4095 = true ∧ reqInputs ((tileAs 1#512 []).tile 4095).act = [] ∧
    (tileAs 1#512 []).creditOk 4095 ((tileAs 1#512 []).tile 4095).act = true ∧
    (let s := tileAs absorbing [{ data := 9#32, tag := 0 }]
     s.tileRuns 4095 = true ∧ reqInputs (s.tile 4095).act = [0] ∧ s.inHead 4095 0 = some { data := 9#32, tag := 0 } ∧
       s.creditOk 4095 (s.tile 4095).act = true) := by decide +kernel
theorem test_MarkerAbsorbed :
    (let s := tileAs absorbing [{ data := 9#32, tag := 2 }]
     s.tileRuns 4095 = true ∧ reqInputs (s.tile 4095).act = [0] ∧ s.inHead 4095 0 = some { data := 9#32, tag := 2 } ∧
       Ctx.absorb (s.tile 4095).act = true ∧ Ctx.tokOnMark (s.tile 4095).act = false ∧ (s.tile 4095).arm = none ∧
       Ctx.lswEn (s.tile 4095).act = false) := by decide +kernel
theorem test_TileRegisterCommands : run.tileOpen 4095 ∧ (run.pbxOf (panelOf 4095)).ev = [] ∧ (regsOf run [(Reg.tileCtrl 4095, 1)]).tileOpen 4095 ∧
    (regsOf run [(Reg.tileCtrl 4095, 1)]).regB (Reg.tileCtrl 4095) 0 = true := by decide +kernel

/-- `run` with a token in tile 0, a word in the joint into segment 1 of lane 0 in row 0, and tile 8 its entry tile. -/
def tokenTile : State := { run with can := { tiles := [(0, { tok := some { tid := 5, slot := 1, val := 3#32 } }),
                                                       (8, { act := BitVec.ofNat 512 (1 + 2 ^ 416) })],
                                             joints := [(0, [{ data := 1#32, tag := 0 }])] } }

theorem test_TileBackground :
    (tileAs absorbing []).tileRuns 4095 = true ∧ (0 ∈ reqInputs ((tileAs absorbing []).tile 4095).act) ∧
    (tileAs absorbing []).inHead 4095 0 = none ∧
    ((run.setTile 4095 { wback := [1023] }).tile 4095).wback = [1023] ∧
    (run.setTile 4095 { wback := [1023] }).tileRuns 4095 = false ∧
    (let s := run.setTile 4095 { act := 1#512, wback := [1023] }
     s.tileRuns 4095 = true ∧ reqInputs (s.tile 4095).act = [] ∧ s.creditOk 4095 (s.tile 4095).act = true ∧
       s.regB (Reg.tileCtrl 4095) 0 = false ∧ s.regB (Reg.tileCtrl 4095) 2 = false) ∧
    (let s := run.setTile 4095 { act := absorbing, wback := [1023], inp := [(0, [{ data := 9#32, tag := 0 }])] }
     s.tileRuns 4095 = true ∧ reqInputs (s.tile 4095).act = [0] ∧ s.inHead 4095 0 = some { data := 9#32, tag := 0 } ∧
       s.creditOk 4095 (s.tile 4095).act = true) ∧
    (tokenTile.released = true ∧ tokenTile.hasQuad 0 = true ∧ tokenTile.domOn 0 = true ∧ tokenTile.maySend 0 = true ∧
      tokenTile.domFenced 10 = false ∧ tokenTile.tokenTiles 0 (tokenTile.can.tokLast.get 0 4096) = [0] ∧
      (tokenTile.tile 0).tok = some { tid := 5, slot := 1, val := 3#32 } ∧ (tokenTile.tile 0).ovfTok = none) ∧
    prevPos 0 (segPos 8 0) = some 0 ∧
    run.can.joints.get (jointKey 0 (segLine 8 0) 0) [] = [] := by decide +kernel
theorem test_ContextRegisters : run.tileOpen 4095 ∧ (run.tile 4095).ctxLatch = none ∧ run.slotLocked 4095 7 = false ∧
    run.slotLocked 4095 0 = true ∧
    (let s := run.setTile 4095 { ctxLatch := some (7, 7, 5#32) }
     s.tileOpen 4095 ∧ s.slotLocked 4095 7 = false ∧ (s.tile 4095).ctxLatch = some (7, 7, 5#32) ∧
       s.regB (Reg.tileCxinj 4095) 8 = false) ∧ ((run.tile 4095).ctxCell 7 7).ecc = .ok := by decide +kernel

/-! ## The Palette and its reload engine -/

/-- A command for tile 4095 with COND `cond`, slot 7. -/
def tileCmd (cond : Nat) : TreeCmd :=
  { k := 0, src := 0, cmd := BitVec.ofNat 64 (7 + 4095 * 64 + cond * 2 ^ 18 + 2 ^ 63), grp := 0#64, rel := false, done := false }
def inTree (x : TreeCmd) : State := { run with pal.tree := [x] }

theorem test_PaletteRegisters : run.opens .pal ∧ run.released = true ∧ run.pal.queue.length < 8 ∧ run.quiet = true ∧
    run.pal.waiting = [] ∧ run.pal.lastDel ≠ some run.cyc ∧
    ({ run with pal.lastDel := some 0 } : State).pal.lastDel = some run.cyc ∧
    ({ run with pal.queue := [0#64] } : State).pal.queue = [0#64] ∧ cmdV (BitVec.ofNat 64 (2 ^ 63)) = true ∧
    cmdV 0#64 = false := by decide +kernel
theorem test_PaletteCommands : (inTree (tileCmd 0)).pal.tree = [tileCmd 0] ∧ cmdDoneEn (tileCmd 0).cmd = false ∧
    cmdScope 0x38#64 = 7 ∧ cmdScope (tileCmd 1).cmd < 5 ∧ (tileCmd 1).cond = 1 ∧
    (inTree (tileCmd 1)).pal.pendT.get 0 none = none ∧ cmdScope (tileCmd 0).cmd = 0 ∧ cmdSel (tileCmd 0).cmd % 4096 = 4095 ∧
    run.quadOpen (quadOf 4095) = true ∧ run.heldOf 4095 = none ∧ (tileCmd 0).cond = 0 ∧
    run.regB (Reg.palSlock 63) (cmdSlot (tileCmd 0).cmd) = false ∧ (tileCmd 2).cond = 2 ∧ (run.tile 4095).arm = none ∧
    run.pal.tracked = [] ∧ (tileCmd 3).cond = 3 := by decide +kernel

/-- A reload of Panel 63 from address 0 in stage `st`. -/
def reloading (st : Nat) : State := { regsOf run [(Reg.palPnlStat, st)] with
  pal.reload := some { panel := 63, discard := false, tmem := false, atev := false, eidx := 0, addr := 0, tok := 0#32,
                       scrub := false, src := .none, image := [], digest := 0#256, h := 0 } }

theorem test_PanelReload : run.opens .pal ∧ run.released = true ∧ run.engineFree = true ∧ run.pal.pendP = 0#64 ∧
    run.quadOpen (quadOfPanel ((run.reg Reg.palPnlCtrl).bits 5 0)) = true ∧
    run.sourceOk ((run.reg Reg.palPnlCtrl).bits 5 0) (run.regF Reg.palPnlSrcHi 15 0 * 4294967296 + (run.reg Reg.palPnlSrcLo).toNat)
      ((run.reg Reg.palPnlCtrl).bit 7) = true ∧
    (reloading 1).opens .pal ∧ (reloading 1).pnlState = 1 ∧ (reloading 2).pnlState = 2 ∧ (reloading 3).pnlState = 3 ∧
    (reloading 3).quiet = true ∧ (reloading 1).sourceReady 0 40960 = true ∧ (reloading 1).bufferRead.1 = false := by
  decide +kernel
theorem test_PanelReload_copy : ((reloading 1).copySource 0 10240).2 = (false, reloading 1) := by
  have hs : ∀ k, (reloading 1).sect k = .ok := fun _ => rfl
  have hr : (reloading 1).mem.raw = [] := by decide +kernel
  exact State.copySource_sound (reloading 1) 0 10240 (by decide) (fun i _ => ⟨hs _, by rw [hr]; exact List.not_mem_nil⟩)

/-- The copy of the zeros of an empty stack is the empty image. -/
theorem test_PanelReload_zeros (n : Nat) (hn : n ≤ 10240) : ((reloading 1).copySource 0 n).1 = [] := by
  have hs : ∀ k, (reloading 1).sect k = .ok := fun _ => rfl
  have hr : (reloading 1).mem.raw = [] := by decide +kernel
  induction n with
  | zero => rfl
  | succ n ih =>
    have hq : ∀ i, i < n → (reloading 1).soundSect ((0 + 4 * i) / 32) := fun i _ => ⟨hs _, by rw [hr]; exact List.not_mem_nil⟩
    have hc : (reloading 1).copySource 0 n = ([], false, reloading 1) :=
      Prod.ext (ih (by omega)) (State.copySource_sound (reloading 1) 0 n (by omega) hq)
    have hw : (reloading 1).srcWord (0 + 4 * n) = (0#32, false, reloading 1) := by
      unfold State.srcWord
      rw [if_pos (by omega), State.readSect_sound (reloading 1) _ ⟨hs _, by rw [hr]; exact List.not_mem_nil⟩]
      rfl
    unfold State.copySource
    rw [hc]
    simp only [hw]
    rfl

/-- An image of zeros names no driver at all. -/
theorem test_PanelReload_image (r : Reload) : driverConflict (imgCtx (Reload.bytes { r with image := [] })) = false := by
  have hb : ∀ i, byteAt (Reload.bytes { r with image := [] }) i = 0 := by
    have h : ∀ n i : Nat, byteAt ((List.range n).map (fun i => BitVec.ofNat 8 (SMap.get ([] : SMap Nat) i 0))) i = 0 := by
      intro n i
      unfold byteAt
      rw [List.getD_eq_getElem?_getD, List.getElem?_map]
      cases (List.range n)[i]? <;> rfl
    exact h 32768
  have hl : ∀ i n, leAt (Reload.bytes { r with image := [] }) i n = 0 := by
    intro i n
    unfold leAt
    simp only [hb, Nat.zero_mul, Nat.add_zero]
    induction List.range n with
    | nil => rfl
    | cons a l ih => exact ih
  have hc : imgCtx (Reload.bytes { r with image := [] }) = fun _ _ => 0#512 := by
    funext l sl
    simp only [imgCtx, hl]
  rw [hc]
  decide +kernel
theorem test_ConfigScrub : (let s : State := { regsOf run [(Reg.ldrScrCtrl, 1)] with pal.scrNext := 64 };
      s.released = true ∧ s.regB Reg.ldrScrCtrl 0 = true) ∧
    (let s : State := { regsOf run [(Reg.ldrScrCtrl, 1)] with pal.scrNext := 61, pal.heldP := [(61, some false)] };
      s.released = true ∧ s.regB Reg.ldrScrCtrl 0 = true ∧ s.scrubPanel s.pal.scrNext = some 62 ∧ s.can.tiles = [] ∧
        (s.scrubPanel 63).isSome = true ∧ (s.scrubPanel 64).isSome = false) ∧
    (({} : Tile).slot = 0 ∧ ∀ sl v : Fin 8, (({} : Tile).ctxCell sl.val v.val).ecc = .ok ∧
      (({} : Tile).ctxCell sl.val v.val).data = ({} : Tile).applied v.val) ∧
    (let s : State := { run with pal := { pendP := BitVec.ofNat 64 (2 ^ 63), srcs := [(63, .staged 0 0#256)] } };
      s.released = true ∧ s.engineFree = true ∧ s.pal.pendP.getLsbD 63 = true ∧
        (∀ q : Fin 63, s.pal.pendP.getLsbD q.val = false) ∧ s.pal.srcs.get 63 .none = .staged 0 0#256) := by decide +kernel

/-! ## The streams -/

/-- `run` with channel 31 in mode 1, enabled and linked, and the registers `l`. -/
def linkedCh (l : List (Nat × Nat)) : State :=
  regsOf run ([(Reg.spgGcfg 3, 1), (Reg.chCfg 3 7, 1), (Reg.lnStat 3 7, 0x40), (Reg.lnCfg 3 7, 1)] ++ l)

/-- A frame of 64 bytes with a right FCS, of EtherType and opcode bytes `b`. -/
def goodFrame (b : List Byte) : List Byte :=
  let f := List.replicate 12 0#8 ++ b ++ List.replicate (48 - b.length) 0#8
  f ++ leBytes (crc32 f) 4

def ruleAt (r : Nat) (w0 w18 : Nat) : State :=
  let s := linkedCh [(Reg.spxRule r 0, w0), (Reg.spxRule r 1, 0x80000000), (Reg.spxRule r 18, w18), (Reg.spxIng0 1023, 1)]
  s.setMac 31 { wait := [{ bytes := List.replicate 60 0#8, held := 64, bad := false, stamps := [] }] }

theorem test_LaneGroupModes : run.released = true ∧ run.hasLg 3 = true ∧ run.domOn (4 + 3) = true ∧
    (linkedCh []).regB (Reg.chCfg 3 7) 0 = true ∧ (linkedCh []).domFenced (4 + 3) = false ∧
    (∀ l : Fin 32, (linkedCh []).regF (Reg.shgLstat l.val) 2 0 < 2) ∧
    (∀ k : Fin 8, run.regB (Reg.chCfg 3 k.val) 0 = false) ∧ run.hasShaga = true ∧
    (∀ l : Fin 32, run.regF (Reg.shgLstat l.val) 2 0 < 2) ∧ Word.bits 7#32 2 0 % 7 = run.gmode 3 ∧
    (let s : State := { run with part.variant := .q16 }
     s.released = true ∧ s.hasLg 0 = true ∧ s.domOn (4 + 0) = true ∧ s.hasShaga = false) ∧
    (let s := regsOf (linkedCh []) [(Reg.nocFreq, 0x80)]
     s.domFenced (4 + 3) = true ∧ Word.bits 2#32 2 0 % 7 ≠ s.gmode 3 ∧ lanesOf (s.gmode 3) ≠ 0 ∧ s.chLink 31 = true ∧
       ∀ l : Fin 32, s.regF (Reg.shgLstat l.val) 2 0 < 2) ∧
    (let f : RxFrame := { bytes := List.replicate 96 0#8, held := 128, bad := false, stamps := [], sfd := 0, rate := 10,
                          total := 100 }
     let s := { (linkedCh []).setMac 31 { wait := [f] } with cyc := 70 }
     8 * (31 / 8) + 31 % 8 / lanesOf (s.gmode (31 / 8)) * lanesOf (s.gmode (31 / 8)) = 31 ∧ s.chLink 31 = true ∧
       (s.mac 31).wait = [f] ∧ (s.mac 31).deliv = [] ∧ s.cyc < f.reach f.total ∧ 64 ≤ (s.cyc - f.sfd) * f.rate / 10 ∧
       (∀ g ∈ [{ f with total := 10 }], RxFrame.reach g g.total ≤ s.cyc)) ∧
    (let s := regsOf run [(Reg.spgGcfg 3, 1), (Reg.lnCfg 3 7, 1)]
     s.groupRuns 3 = true ∧ s.chFormed 31 = true ∧ s.chLink 31 = false ∧ s.sec.reports = [] ∧ lanesOf (s.gmode 3) = 1 ∧
       (s.reg (Reg.lnCfg 3 7)).bit 0 = true ∧ (s.reg (Reg.lnCfg 3 7)).bit 5 = false ∧
       laneCfgOk (s.gmode 3) (s.reg (Reg.lnCfg 3 7)) = true) := by decide +kernel
theorem test_FramesReceived : (linkedCh []).chRuns 31 = true ∧ (linkedCh []).released = true ∧ (goodFrame []).length = 64 ∧
    isControl (goodFrame []) 1 = false ∧ isControl (goodFrame []) 0x101 = false ∧
    ((linkedCh []).mac 31).occupied + 9216 ≤ (linkedCh []).bufSize 31 ∧ (linkedCh []).mgtTakes 31 (goodFrame []) = false ∧
    ((linkedCh []).reg (chA Reg.chPfc 31)).bits 15 8 = 0 ∧ ((linkedCh []).reg (chA Reg.chCfg 31)).bit 16 = false := by
  decide +kernel
theorem test_FramesReceived_rules : (∀ r : Fin 256, (ruleAt 255 0 0).ruleMatches 31 r.val (parseFrame (List.replicate 60 0#8))
      (List.replicate 60 0#8) = false) ∧ ((regsOf (ruleAt 255 0 0) [(Reg.chCfg 3 7, 0x801)]).reg (chA Reg.chCfg 31)).bit 11 = true ∧
    (∀ r : Fin 255, (ruleAt 255 1 1023).ruleMatches 31 r.val (parseFrame (List.replicate 60 0#8)) (List.replicate 60 0#8) = false) ∧
    (ruleAt 255 1 1023).ruleMatches 31 255 (parseFrame (List.replicate 60 0#8)) (List.replicate 60 0#8) = true ∧
    (Word.bit ((ruleAt 255 0x40001 0).rule 255 0) 18) = true ∧ Word.bit ((ruleAt 255 1 1023).rule 255 0) 18 = false ∧
    (Word.bits ((ruleAt 255 1 1023).rule 255 18) 9 0) = 1023 ∧ (ruleAt 255 1 1023).ingressPath 1023 = true ∧
    (ruleAt 255 1 1023).stripeBlocked 0 1 = false := by decide +kernel
theorem test_ControlFrames : isControl (goodFrame [0x88#8, 0x08#8, 0#8, 1#8]) 1 = true ∧
    isControl (goodFrame [0x88#8, 0x08#8, 1#8, 1#8]) 0x101 = true ∧ fcsOk (goodFrame [0x88#8, 0x08#8, 0#8, 1#8]) = true ∧
    fcsOk (goodFrame [0x88#8, 0x08#8, 1#8, 1#8]) = true ∧
    (let s := (linkedCh [(Reg.chPfc 3 7, 0x100), (Reg.chBuf 3 7, 0)]).setMac 31
       { xoff := true, wait := [{ bytes := [], held := 64, bad := false, stamps := [] }] }
     s.chRuns 31 = true ∧ (s.mac 31).xoff = true ∧ (s.reg (chA Reg.chPfc 31)).bits 15 8 ≠ 0 ∧
       (s.reg (chA Reg.chBuf 31)).bits 31 16 * 64 < (s.mac 31).occupied) := by decide +kernel

/-- A delivery of one word to port 127. -/
def oneRow : Delivery := { sid := 1023, pbase := 127, ports := 1, order := 0, started := false, held := 64,
                           rows := [{ ws := [{ data := 1#32, tag := 1 }], free := 64 }] }

def oneMark : WaitMark := { sid := 1023, pbase := 127, ports := 1, word := 5#32, k := 9 }

theorem test_RowsIntoTheCanvas :
    (let s := run.setMac 31 { deliv := [oneRow] }
     s.delivOf 31 = [oneRow] ∧ s.str.marks = [] ∧ s.portCredit 127 = true ∧ s.mustWait oneRow = false ∧
       s.heldOf (edgeTile 127).1 = none) ∧
    (regsOf run [(Reg.pwrDomctl (quadOf (edgeTile 127).1), 0)]).portCredit 127 = false ∧
    (let s : State := { run with str.marks := [oneMark] }
     s.str.marks = [oneMark] ∧ s.portCredit 127 = true ∧ s.rowsAhead oneMark = false ∧ s.heldOf (edgeTile 127).1 = none ∧
       (let r : Row := { ws := [{ data := 1#32, tag := 1 }], free := 64, at_ := 9 }
        (s.setMac 31 { deliv := [{ oneRow with started := true, rows := [r] }] }).rowsAhead oneMark = true)) := by
  decide +kernel

/-- `linkedCh` with egress stream 63 on channel 31, port 127, holding the frame `f`, and a word at port 127. -/
def egress (f : EFrame) : State :=
  { linkedCh [(Reg.spxEgr0 63, 1 + 127 * 2 + 31 * 4096), (Reg.spxEgr1 63, 4)] with
    str.egr := [(63, [f])], can.edgeOut := [(127, [{ data := 4#32, tag := 0 }])] }

theorem test_FramesOutOfTheCanvas :
    (let s := egress {}
     s.released = true ∧ (s.reg (Reg.spxEgr0 63)).bit 0 = true ∧ s.wordFails 9 (spbEgress 63) = false ∧
       (s.reg (Reg.spxEgr0 63)).bits 7 1 = 127 ∧
       (s.reg (Reg.spxEgr0 63)).bits 11 8 + 1 = 1 ∧ oneEdge 127 1 = true ∧ s.stripeBlocked 127 1 = false ∧
       s.egrOf 63 = [] ++ [({} : EFrame)] ∧ 63 ∉ s.str.skip ∧
       (s.can.edgeOut.get 127 []).head? = some { data := 4#32, tag := 0 } ∧
       s.egrBytes ((s.reg (Reg.spxEgr0 63)).bits 16 12) + 4 ≤ 32768 ∧ s.hlen (s.tmplOf 63 {}) + 4 ≤ 9212) ∧
    (let s := (egress {}).setMac 31 { onWire := some 63 }
     (s.mac 31).onWire = some 63) := by decide +kernel
theorem test_FramesOutOfTheCanvas_start :
    (let f : EFrame := { complete := true, words := [{ data := 4#32, tag := 1 }] }
     let s := egress f
     s.chRuns 31 = true ∧ (s.mac 31).onWire = none ∧ s.mayStart 31 63 = true ∧
       (∀ k : Fin 63, s.mayStart 31 k.val = false) ∧ s.egrOf 63 = [f] ∧ s.tooLong (s.tmplOf 63 f) f = false ∧
       s.wordFails 9 (spbTemplate (s.tmplOf 63 f)) = false ∧ (s.reg (Reg.spxTmpl0 (s.tmplOf 63 f))).bits 20 19 = 0) ∧
    (let f : EFrame := { words := List.replicate 64 { data := 4#32, tag := 0 } }
     let s := egress f
     s.mayStart 31 63 = true ∧ f.complete = false) := by decide +kernel
theorem test_StreamRegisters :
    (let d : Word := 0x7F#32 <<< 20 ||| 0x78000001#32
     run.released = true ∧ d.bit 0 = true ∧ run.stripeOk false 1023 d = false) ∧
    (let s := (linkedCh []).setMac 31 { txts := [{ seq := 1 }], rxts := [{ seq := 2 }] }
     s.opens (.spg 3) ∧ s.chFormed 31 = true ∧ (s.mac 31).txts = [{ seq := 1 }] ∧ (s.mac 31).rxts = [{ seq := 2 }]) := by
  decide +kernel

/-! ## Stacked memory and tables -/

/-- `run` with stack `st` in the phase `p`. -/
def phased (st p : Nat) : State := { run with mem := { phase := [(st, p)] } }

theorem test_StackStart : (phased 1 0).hasStack 1 = true ∧ (phased 1 2).hasStack 1 = true ∧ (phased 1 0).mem.phase.get 1 0 = 0 ∧
    (phased 1 2).mem.phase.get 1 0 = 2 ∧ (phased 1 0).regF (Reg.pwrDomctl 9) 3 2 ≠ 0 ∧ (phased 1 3).mem.phase.get 1 0 = 3 := by
  decide +kernel

/-- `run` with the last sector of the second stack in MEM_SCLR. -/
def lastSector : State := regsOf run [(Reg.memSclrLo, 0xFFFFFFE0)]

theorem test_StackRepairAndPower_clear : lastSector.opens .mem ∧
    0x3FFFFFFF = (Word.bits 7#32 2 0 * 4294967296 + (lastSector.reg Reg.memSclrLo).toNat) / 32 ∧
    lastSector.stackGate (32 * 0x3FFFFFFF) = .go ∧ (lastSector.reg (Reg.memInj (stackOf (32 * 0x3FFFFFFF)))).bit 0 = false := by
  decide +kernel
theorem test_StackRepairAndPower_ppr :
    (let s := regsOf run [(Reg.memPprHi 1, 7), (Reg.memPprLo 1, 0xFFFFFFFF)]
     s.memOpen 1 ∧ s.mem.ppr.get 1 none = none ∧ 0x7FFFFFFFF = s.regF (Reg.memPprHi 1) 2 0 * 4294967296 + (s.reg (Reg.memPprLo 1)).toNat ∧
       stackOf 0x7FFFFFFFF = 1) ∧
    (let s := regsOf run [(Reg.memPprHi 1, 3), (Reg.memPprLo 1, 0xFFFFFFFF)]
     s.memOpen 1 ∧ 0x3FFFFFFFF = s.regF (Reg.memPprHi 1) 2 0 * 4294967296 + (s.reg (Reg.memPprLo 1)).toNat ∧ stackOf 0x3FFFFFFFF ≠ 1) ∧
    ({ run with mem.ppr := [(1, some (0x400000000, true))] } : State).mem.ppr.get 1 none = some (0x400000000, true) := by
  decide +kernel
theorem test_StackRepairAndPower_power : run.memOpen 1 ∧ run.regF (Reg.memStat 1) 3 2 = 0 ∧ 1 ≤ Word.bits 1#32 1 0 ∧
    Word.bits 2#32 1 0 ≤ 2 ∧ run.regB Reg.nocFack (8 + 1) = false ∧
    (let s := regsOf run [(Reg.nocFreq, 0x200), (Reg.nocFack, 0x200)]
     s.memOpen 1 ∧ s.regB Reg.nocFack (8 + 1) = true ∧ s.regF (Reg.memStat 1) 3 2 = 0) ∧
    (86#8 : BitVec 8).toInt > 85 ∧ (82#8 : BitVec 8).toInt ≤ 82 ∧ (95#8 : BitVec 8).toInt ≤ 95 := by decide +kernel

/-- `run` with table 63 a direct table of 8-byte entries and one generation, one entry, at address 0x200. -/
def tabled (d0 : Nat) : State := regsOf run [(Reg.tblD 63 0, d0), (Reg.tblD 63 1, 0), (Reg.tblD 63 2, 8), (Reg.tblD 63 3, 16)]

theorem test_TableDescriptors : run.opens .tbl ∧ run.released = true ∧ run.hasTable = true ∧
    (tabled 1).opens .tbl ∧ (tabled 1).tV 63 = true ∧ (Word.bit 1#32 0) = true ∧ (tabled 0).tV 63 = false ∧
    (tabled 0).tValid 63 1#32 = true ∧ (tabled 0).tValid 63 7#32 = false ∧
    (let s : State := { tabled 0x21 with tbl.swaps := [63] }
     s.tbl.swaps = [63] ∧ (s.tV 63 && s.tDgen 63) = true ∧ s.tbl.swapped.get 63 0 ≠ s.cyc + 1 ∧
       ({ s with tbl.swapped := [(63, 1)] } : State).tbl.swapped.get 63 0 = s.cyc + 1) ∧
    (let s : State := { tabled 1 with tbl.swaps := [63] }; (s.tV 63 && s.tDgen 63) = false) := by decide +kernel

/-- `s` with words `ws` at table port 63. -/
def atPort (s : State) (ws : List ChWord) : State := { s with can.tblOut := [(63, ws)] }

theorem test_TableLookups :
    (let h : ChWord := { data := 63#32, tag := 0 }
     let o : ChWord := { data := 0#32, tag := 1 }
     let s := atPort (tabled 1) [h, o]
     s.hasTable = true ∧ (s.tport 63).outst < 64 ∧ (s.tport 63).got = [] ∧ (s.tport 63).skip = false ∧ h.tag = 0 ∧
       (atPort run [h]).can.tblOut.get 63 [] = [h] ∧ s.can.tblOut.get 63 [] = [h, o] ∧ o.tag = 1 ∧
       (atPort run [h, o]).tV (h.data.bits 5 0) = false ∧ h.data.bits 5 0 = 63 ∧ o.data.bits 31 24 = 0 ∧
       h.data.bit 6 = false ∧ h.data.bit 7 = false ∧ s.tV 63 = true ∧ s.tMode 63 = 0 ∧ (s.tD 63 0).bits 4 3 = 0 ∧
       o.data.bits 23 0 < s.tCount 63 ∧ 0x200 = s.tBase 63 (s.tActive 63) + 8 * o.data.bits 23 0 ∧
       s.stackGate (s.tBase 63 (s.tActive 63)) = .go ∧ s.stackGate 0x200 = .go ∧
       s.stackGate (s.tBase 63 (s.tActive 63) + 8 * s.tCount 63 - 1) = .go ∧ s.soundSect (0x200 / 32)) := by decide +kernel
theorem test_TableLookups_response :
    (let w : ChWord := { data := 5#32, tag := 1 }
     let a : TAnswer := { words := [w], isResp := true }
     let s : State := { run with tbl.ports := [(63, { queue := [a] })] }
     (s.tport 63).queue = [a] ∧ s.domFenced (quadOf (tableTile 63).1) = false ∧ s.heldOf (tableTile 63).1 = none ∧
       (s.tile (tableTile 63).1).load (tableTile 63).2 < 2 ∧
       2 ≤ ((s.setTile 4095 { inp := [(0, [w, w])] }).tile (tableTile 63).1).load (tableTile 63).2 ∧
       (s.setTile 4095 { inp := [(0, [w, w])] }).heldOf (tableTile 63).1 = none) := by decide +kernel
theorem test_TableAperture :
    (let s := tabled 1
     s.released = true ∧ s.hasTable = true ∧ (0x80FC0000004#48 : BitVec 48).toNat = 0x80000000000 + 63 * 0x40000000 + 4 ∧
       (0x80FC0000008#48 : BitVec 48).toNat = 0x80000000000 + 63 * 0x40000000 + 8 ∧ (s.tD 63 0).bits 4 3 = 0 ∧
       s.tCount 63 = 1 ∧ s.stackGate (s.tBase 63 (s.tStandby 63) + 8 * 0) = .go ∧ s.tbl.colls = [] ∧ s.soundSect (0x200 / 32) ∧
       (let c : Collect := { ni := pathNi .mgmt, dev := 0, table := 63, entry := 0, words := [7#32] }
        ({ s with tbl.colls := [c] } : State).tbl.colls = [c] ∧ c.ni = pathNi .mgmt ∧ c.dev = 0)) := by decide +kernel

/-! ## The network on chip -/

/-- A packet of layer `lay`, operation `opc`, class `tc`, route `rt` and TAG 63, from NI 0. -/
def packet (lay : Layer) (opc tc rt : Nat) (addrHi : Nat) (body : List (BitVec 512)) : Packet :=
  { lay := lay, hdr := BitVec.ofNat 64 (rt + tc * 2 ^ 30 + 63 * 2 ^ 38 + opc * 2 ^ 44 + addrHi * 2 ^ 48), body := body }

/-- A packet of one flit of class `tc` at a place. -/
def flightAt (pk : Packet) (at_ : Place) : Flight := { pk := pk, flits := [{ hdr := pk.hdr, at_ := at_ }] }

/-- `run` with one packet of one flit at a place. -/
def flying (pk : Packet) (at_ : Place) : State := { run with noc.flights := [flightAt pk at_] }

theorem test_RouteTables : run.opens .noc ∧
    (let s : State := { run with noc.nis := [(47, { rtLatch := [(0, word (defaultRoute 47 0))] })] }
     s.opens .noc ∧ legalRoute 47 ((s.ni 47).rtLatch.get 0 0#32).toNat 0 = true) ∧
    legalRoute 47 ((run.ni 47).rtLatch.get 47 0#32).toNat 47 = false ∧
    ((run.ni 47).routes.get 47 (0#32, 0#32)).2.bit 31 = false ∧ (run.ni 47).routes = [] := by decide +kernel
theorem test_Injection :
    (let pk := packet .c 1 0 0 0 [0#512]
     let q := packet .d 3 3 0 1 [0#512, 0#512]
     carries pk.lay (Packet.tc pk) = true ∧ pk.body.length = Packet.flits pk ∧ Packet.kind pk = .request ∧
       carries q.lay (Packet.tc q) = true ∧ q.body.length = Packet.flits q ∧ Packet.kind q ≠ .internal ∧
       (regsOf run [(Reg.nocFreq, 1)]).niFenced 0 = true ∧ (run.ni 47).queue = [] ∧ run.niFenced 47 = false ∧
       Packet.unaddressed (packet .c 1 0 0 0x2000 [1#512]) = true ∧ Packet.kind (packet .c 1 0 0 0x2000 [1#512]) = .request) ∧
    (let pk := packet .c 1 0 0 0 [0#512]
     run.released = true ∧ Packet.unaddressed pk = false ∧ run.regB (rtStat pk.lay 23) 0 = false ∧
       run.room pk.lay 0 23 5 (Packet.flits pk) = true ∧ 0 - (run.ni 47).since = 0 ∧ 1500 ≤ (run.ni 47).level 0 ∧
       1500 ≤ refill (run.reg (Reg.niTb 47 0)) ((run.ni 47).level 0) 1 ∧
       (let s : State := { run with noc.nis := [(47, { l0 := 1499 })] }
        (s.ni 47).level 0 < 1500 ∧ s.released = true ∧ (s.ni 47).queue = [])) ∧
    (let pk := packet .d 1 1 0 0 [0#512]
     let s : State := { regsOf run [(Reg.niTb 47 1, 0x800)] with noc.nis := [(47, { l1 := 1499 })] }
     carries pk.lay (Packet.tc pk) = true ∧ pk.body.length = Packet.flits pk ∧ Packet.tc pk = 1 ∧ s.released = true ∧
       Packet.unaddressed pk = false ∧ s.niFenced 47 = false ∧ s.room pk.lay 1 23 5 (Packet.flits pk) = true ∧
       (s.ni 47).level 1 < 1500 ∧ s.regB (Reg.niTb 47 1) 11 = true ∧
       (let u : State := { run with noc.nis := [(47, { l1 := 1499 })] }
        (u.ni 47).level 1 < 1500 ∧ u.regB (Reg.niTb 47 1) 11 = false)) := by decide +kernel
theorem test_Routers :
    (let f := flightAt (packet .c 1 0 0 0 [0#512]) (.router 0 4)
     let s : State := { run with noc.flights := [f] }
     bitsOf f.pk.hdr.toNat 2 0 = 0 ∧ nextRouter 0 0 = some 6 ∧ s.noc.locks = [] ∧ (s.ni 0).queue = [] ∧ (s.ni 1).queue = [] ∧
       s.regB (rtCfg .c 0) 12 = true ∧ s.regB (rtStat .c 0) 0 = false ∧ s.regB (rtStat .c 6) 0 = false) ∧
    (let f := flightAt (packet .d 8 2 5 0 [0#512]) (.router 23 0)
     let s : State := { run with noc.flights := [f] }
     bitsOf f.pk.hdr.toNat 2 0 = 5 ∧ Packet.kind f.pk ≠ .posted ∧ Packet.kind f.pk ≠ .reserved ∧
       s.regB (rtCfg .d 23) 17 = true ∧ s.regB (rtStat .d 23) 0 = false) ∧
    Packet.opc (packet .d 3 3 5 1 [0#512, 0#512]) = 3 ∧ Packet.kind (packet .d 3 3 5 1 [0#512, 0#512]) = .posted ∧
    (let pk := packet .c 1 0 6 0 [0#512]
     bitsOf pk.hdr.toNat 2 0 = 6 ∧ Packet.kind pk = .request ∧ (run.ni 47).queue = [] ∧ run.conforms 47 (Packet.tc pk) = true ∧
       run.regB (rtStat .c 23) 0 = false) ∧
    Packet.kind (packet .d 8 0 7 0 [0#512]) ≠ .request ∧ run.opens .noc ∧
    (let s := regsOf run [(rtStat .d 23, 1)]
     s.regB (rtStat .d 23) 0 = true ∧ s.switching .d 23 = false ∧ s.noc.flights = [] ∧ (s.ni 46).queue = [] ∧ (s.ni 47).queue = [] ∧
       ({ s with noc.locks := [(lockKey .d 23 5 3, some 0)] } : State).switching .d 23 = true) := by decide +kernel
theorem test_RequestsOfWords :
    (let f := flightAt (packet .c 2 0 0 7 [0x5FFFFFFFC#512]) (.ni 23)
     let s : State := { run with noc.flights := [f] }
     f.atNi 23 = true ∧ f.pk.lay = .c ∧ s.quiet = true ∧ s.released = true ∧ (s.ni 23).queue = [] ∧
       s.conforms 23 (Packet.tc f.pk) = true ∧ s.regB (rtStat .c 11) 0 = false ∧
       0x7FFFFFFFC = flitAddr f.pk.hdr.toNat ((f.pk.body.headD 0#512).toNat % 2 ^ 64) ∧ 23 = homeNi 0x7FFFFFFFC ∧
       Packet.opc f.pk = 2 ∧ s.niFenced 23 = false ∧ s.stackGate 0x7FFFFFFFC = .go ∧ s.soundSect (0x7FFFFFFFC / 32) ∧
       (let u := s.setReg Reg.nocFreq 0x200#32
        u.niFenced 23 = true ∧ u.quiet = true ∧ u.conforms 23 (Packet.tc f.pk) = true)) ∧
    (let f := flightAt (packet .c 1 0 0 0 [0#512]) (.ni 8)
     0 = flitAddr f.pk.hdr.toNat ((f.pk.body.headD 0#512).toNat % 2 ^ 64) ∧ 8 = homeNi 0 ∧ Packet.opc f.pk = 1 ∧
       Packet.opc (packet .c 3 0 0 0 [0#512]) = 3) := by decide +kernel
theorem test_RequestsOfLines :
    (let h : BitVec 512 := BitVec.ofNat 512 (0x7FFFFFFC0 + (2 ^ 64 - 1) * 2 ^ 64)
     let pk := packet .d 2 3 0 1 [h, 5#512]
     let f : Flight := { pk := pk, flits := [{ hdr := pk.hdr, at_ := .ni 23 }, { hdr := pk.hdr, at_ := .ni 23 }] }
     let s : State := { run with noc.flights := [f] }
     f.atNi 23 = true ∧ f.pk.body.head? = some h ∧ 0x7FFFFFFC0 = bitsOf h.toNat 47 0 ∧ 23 = homeNi 0x7FFFFFFC0 ∧
       s.niFenced 23 = false ∧ s.stackGate 0x7FFFFFFC0 = .go ∧ s.soundSect (0x7FFFFFFC0 / 32) ∧ s.soundSect (0x7FFFFFFC0 / 32 + 1) ∧
       (s.ni 23).queue = [] ∧ s.conforms 23 (Packet.tc pk) = true ∧ s.regB (rtStat .d 11) 0 = false ∧
       Packet.opc f.pk = 2 ∧ bitsOf h.toNat 49 48 = 0 ∧ Packet.opc (packet .d 1 3 0 0 [h]) = 1 ∧
       Packet.opc (packet .d 3 3 0 1 [h, 5#512]) = 3 ∧ bitsOf h.toNat 127 64 = 2 ^ 64 - 1 ∧ Packet.f f.pk 57 50 = 0 ∧
       (s.reg (Reg.memInj (stackOf 0x7FFFFFFC0))).bit 0 = false) := by decide +kernel
theorem test_ResponsesAndTimeouts :
    (let o : Outst := { tag := 63, opc := 2, lay := .d, tc := 3, start := 0 }
     let f := flightAt (packet .d 9 3 0 0 [0#512]) (.ni 47)
     let s : State := { run with noc.flights := [f], noc.nis := [(47, { outst := [o] })] }
     f.atNi 47 = true ∧ Packet.opc f.pk = 9 ∧ s.quiet = true ∧
       (s.ni 47).outst.find? (fun o => o.tag == Packet.tag f.pk && o.lay == f.pk.lay) = some o ∧
       (s.ni 47).outst.find? (fun o => o.tag == (63#6 : BitVec 6).toNat) = some o ∧
       (run.ni 47).outst.find? (fun o => o.tag == Packet.tag f.pk && o.lay == f.pk.lay) = none) ∧
    Packet.opc (packet .c 8 0 0 0 [0#512]) = 8 ∧ run.opens .noc := by decide +kernel
theorem test_FencesAndBreaches : run.opens .noc ∧ run.drained 10 = true ∧ (regsOf run [(Reg.nocFreq, 0x400)]).regB Reg.nocFreq 10 = true ∧
    (regsOf run [(Reg.nocFreq, 0x400)]).drained 10 = true ∧ run.domOn 10 = true ∧
    ({ run with noc.nis := [(38, { outst := [{ tag := 0, opc := 1, lay := .c, tc := 0, start := 0 }] })] } : State).drained 10 = false ∧
    (let f := flightAt (packet .c 1 0 0 0 [0#512]) (.router 23 5)
     let q : Report := { code := 0x32, unit := 0x1500, subj := 0, count := 1, first := 0, last := 0, span := 0 }
     let s : State := { run with noc.flights := [f] }
     f.flits = [{ hdr := f.pk.hdr, at_ := .router 23 5 }] ∧ Packet.src f.pk = 0 ∧ Packet.tc f.pk = 0 ∧
       Nat.testBit (s.ni 0).named 0 = false ∧ (s.ni 0).brkAt ≠ some s.cyc ∧
       (let u : State := { s with noc.nis := [(0, { named := 2, brkAt := some 0 })], int.inbox := [q] }
        Nat.testBit (u.ni 0).named 0 = false ∧ (u.ni 0).brkAt = some u.cyc ∧ u.int.inbox = [] ++ [q] ∧ q.unit = 0x1500 + 0)) ∧
    Packet.conf (packet .c 1 1 0 0x2000 [0#512]) = true ∧
    Nat.testBit (({ run with noc.nis := [(0, { named := 15 })] } : State).ni 0).named 3 = true := by decide +kernel

/-! ## Shaga -/

/-- `run` with group 3 in mode 6, the engine on and link 31 in state `st`, the link's own state `x`, and link 30 UP. -/
def linked (st : Nat) (x : Link) (l : List (Nat × Nat)) : State :=
  let s := regsOf run ([(Reg.spgGcfg 3, 6), (Reg.shgCfg, 1), (Reg.shgLcfg 31, 0x21), (Reg.shgLstat 31, st),
                        (Reg.shgLcfg 30, 0x21), (Reg.shgLstat 30, 4)] ++ l)
  { s with shg.links := [(31, x)] }

theorem test_ShagaLinkStates : (linked 1 {} []).linkState 31 = 1 ∧ (linked 2 {} []).linkState 31 = 2 ∧
    (16383#14 : BitVec 14).toNat ≠ (linked 2 {} []).did ∧ (linked 2 {} []).regF Reg.shgCfg 5 4 = 0 ∧
    ((linked 2 { rts := [5] } []).link 31).conflict = false ∧ ((linked 2 { rts := [5] } []).link 31).rts ≠ [] ∧
    (BitVec.ofNat 14 (linked 2 {} []).did).toNat = (linked 2 {} []).did ∧
    (linked 2 {} [(Reg.shgCfg, 0x11)]).linkState 31 = 2 ∧ (linked 2 {} [(Reg.shgCfg, 0x11)]).regF Reg.shgCfg 5 4 ≠ 0 ∧
    ((linked 2 { conflict := true } []).link 31).conflict = true ∧ 2 ≤ (linked 4 {} []).linkState 31 ∧
    (linked 3 {} []).linkState 31 = 3 ∧ bitsOf (2#576 : BitVec 576).toNat 3 0 = 2 ∧ bitsOf (0#576 : BitVec 576).toNat 3 0 = 0 := by
  decide +kernel

/-- Link 31 in AUTH, measured, with the nonce of the peer known, of an end that authenticates by certificate. -/
def authing : State :=
  linked 3 { rts := [5], peerAuth := some 0, auth := { peer := some 7#256 } } [(Reg.shgCfg, 0x11)]

/-- The acceptance asks what the opaque certificate and signature functions answer; where they accept, every other hypothesis
of the STEP 3 clause is met. -/
theorem test_ShagaLinkStates_step3 (d : List Byte) (h : authing.accepts? 31 d = true) :
    authing.linkState 31 = 3 ∧ authing.accepts? 31 d = true ∧ authing.regF Reg.shgCfg 5 4 ≠ 0 ∧ (authing.link 31).rts ≠ [] ∧
    (authing.link 31).conflict = false ∧ (authing.link 31).peerAuth.isSome = true :=
  ⟨by decide +kernel, h, by decide +kernel, by decide +kernel, by decide +kernel, by decide +kernel⟩

/-- An end that asks for no authentication itself. -/
theorem test_ShagaLinkStates_step3_none :
    (let s := linked 3 { rts := [5], peerAuth := some 1 } []
     s.linkState 31 = 3 ∧ s.regF Reg.shgCfg 5 4 = 0 ∧ (s.link 31).rts ≠ [] ∧ (s.link 31).conflict = false ∧
       (s.link 31).peerAuth.isSome = true) ∧ bitsOf (3#576 : BitVec 576).toNat 3 0 = 3 := by decide +kernel

theorem test_ShagaCells : 2 ≤ (linked 4 {} []).linkState 31 ∧ ((linked 4 {} []).link 31).wait = [] ∧
    (linked 4 {} []).quiet = true ∧ (linked 4 {} []).linkUpQ 31 = true ∧ cellGood 0#128 = decide (hcrc 0#128 = 0) ∧
    cellGood (mkHdr 15 0 0 0 0 0) = false ∧
    (let c : Cell := { hdr := mkHdr 1 3 0 (linked 4 {} []).did 0 0, body := BitVec.ofNat 576 (5 * 2 ^ 44) }
     cellGood c.hdr = true ∧ cCtype c = 1 ∧ cDst c = (linked 4 {} []).did ∧ bitsOf (cellFlit c).toNat 47 44 = 5) ∧
    (let c : Cell := { hdr := mkHdr 2 3 14 16383 0 (30 * 2 ^ 75), body := 0#576 }
     cellGood c.hdr = true ∧ cCtype c = 2 ∧ cDst c ≠ (linked 4 {} []).did ∧ cHidx c < 15 ∧
       30 = hopCode (cRoute c) (cHidx c + 1) ∧ (linked 4 {} []).linkUpQ 30 = true ∧ ((linked 4 {} []).link 30).wait = [] ∧
       ((linked 4 {} []).link 30).credit (cTc c) ≠ 0) := by decide +kernel
theorem test_ShagaCells_engine :
    (let tk : Token := { tid := 0, slot := 0, val := 0#32 }
     let s : State := { linked 4 {} [] with shg.outq := [.token 16383 tk] }
     s.quiet = true ∧ s.shg.outq = [.token 16383 tk] ∧ 16383 ≠ s.did ∧ s.shgRouteOf 16383 = none ∧
       (let s : State := { s with shg.routes := [(16383, 2 ^ 95 + 31)] }
        s.quiet = true ∧ s.shgRouteOf 16383 = some 31 ∧ s.linkUpQ (hopCode 31 0) = true ∧ (s.link (hopCode 31 0)).wait = [] ∧
          (s.link (hopCode 31 0)).credit 2 ≠ 0)) ∧
    (let e : FoldE := { dst := 1, rep := { code := 0, unit := 0, subj := 0, count := 0, first := 0, last := 0, span := 0 }, at_ := 0 }
     ({ run with shg.fold := [(63, some e)] } : State).shg.fold.get 63 none = some e ∧ run.wordEcc 10 (utbFold 63) = .ok) ∧
    (let p : List Byte := [0#8, 0x0C#8, 0#8, 0#8, 0#8, 0#8, 0#8, 0#8]
     run.hasShaga = true ∧ run.released = true ∧ Nat.testBit (leAt p 0 8) 10 = true ∧ Nat.testBit (leAt p 0 8) 11 = true ∧
       run.shg.tfr = [] ∧ run.shg.rnum = [] ∧ run.tunHeld + 9216 ≤ 65536 ∧ run.ingressPath (bitsOf (leAt p 0 8) 9 0) = false ∧
       (let s := regsOf run [(Reg.spxIng0 0, 1)]
        s.released = true ∧ s.ingressPath 0 = true ∧
          s.stripeBlocked ((s.reg (Reg.spxIng0 0)).bits 26 20) ((s.reg (Reg.spxIng0 0)).bits 30 27 + 1) = false)) ∧
    run.opens .shg := by decide +kernel
theorem test_ShagaTime : 2 ≤ (linked 4 {} []).linkState 31 ∧
    (let s := linked 4 { dpend := some (255, 0) } []
     2 ≤ s.linkState 31 ∧ (s.link 31).dpend = some ((255#8 : Byte).toNat, 0) ∧ (8192000000#64 - 0#64 : BitVec 64).toNat ≤ 125000 * 65536) ∧
    (linked 4 {} []).linkUpQ 31 = true ∧ (linked 4 {} []).exportable 15 = true ∧
    ((linked 4 {} [(Reg.shgLxp 31, 0x8000)]).link 31).extra = [] ∧ (linked 4 {} [(Reg.shgLxp 31, 0x8000)]).regB (Reg.shgLxp 31) 15 = true ∧
    ({ (linked 4 {} [(Reg.axCfg 15, 0x51)]) with eas.axes := [(15, { lost := true })] } : State).exportable 15
      = (axSrc ((linked 4 {} [(Reg.axCfg 15, 0x51)]).reg (Reg.axCfg 15)) != 5) := by decide +kernel
theorem test_ShagaTime_others :
    (let s : State := { linked 4 {} [] with shg.skseq := [(16383, some 255)] }
     let b : BitVec 576 := BitVec.ofNat 576 (16383 + 255 * 2 ^ 14)
     s.linkUpQ 31 = true ∧ s.shg.skseq.get (bitsOf b.toNat 13 0) none = some (bitsOf b.toNat 21 14) ∧
       (linked 4 {} []).shg.skseq.get (bitsOf b.toNat 13 0) none ≠ some (bitsOf b.toNat 21 14) ∧
       (linked 4 {} []).regB Reg.shgSkcfg 4 = false ∧ (linked 4 {} []).regB (Reg.shgLcfg 30) 5 = true) ∧
    (let x : SysLatch := { adev := 0, aaxis := 0, tpos := 0#64, axis := 0, up := true, tdev := 0, seq := 0 }
     let s : State := { regsOf run [(Reg.mgtSkctrl, 1)] with shg.latch := some x }
     s.shg.latch = some x ∧ s.latchHit x = true ∧ s.latchHit { x with tpos := 1#64 } = false ∧ s.regB Reg.mgtSkctrl 0 = true ∧
       s.released = true ∧ s.sk.locked = false ∧ s.sk.t0 = none) := by decide +kernel

/-! ## Conductors and the Dispatcher -/

/-- `run` with core 7 changed by `g`; bank 7 active at pc 0, where `w` stands, followed by `w2`. -/
def coreAt (w w2 : Word) (g : Core → Core) (l : List (Nat × Nat)) : State :=
  let s := regsOf run l
  s.setCore 7 (g { s.core 7 with active := some 7, banks := [(7, { state := 2, xst := 1 })],
                                 imem := [(0, { data := w }), (1, { data := w2 })] })

/-- `coreAt` with the word of `op` at pc. -/
def coreOp (op : COp) (f : CFields) (g : Core → Core) : State := coreAt (encodeC op f) 0#32 g []

/-- The same with the trap bank active. -/
def inTrap (g : Core → Core) : Core → Core := fun x => g { x with active := some 0, banks := [(0, { state := 2 }), (1, { state := 4 })] }

theorem test_ConductorWords : legalC .std { rd := 14, ra := 15, imm18 := 262143 } = true ∧ legalC .b { rd := 15 } = false ∧
    legalC .extr { e := 40 } = true ∧ decodeC (encodeC .std { rd := 14, ra := 15, imm18 := 262143 }) = some .std ∧
    decodeC 0x6FBFFFFF#32 = some .std ∧ decodeC 0x04844000#32 = some .add ∧ decodeC 0x84000001#32 = some .call ∧
    decodeC 0x00000001#32 = some .done := by decide +kernel
theorem test_ConductorArithmetic :
    (let f : CFields := { rd := 15, ra := 15, rb := 15 }
     let w := encodeC .add f
     let s := coreOp .add f id
     s.runsOne 7 w ∧ decodeC w = some .add ∧
       (condAlu .add w (s.gReg 7 (cRa w)) (s.gReg 7 (cRb w)) ((s.csr 7).bit 2)).isSome = true) ∧
    (let w := encodeC .div {}
     (coreOp .div {} id).runsOne 7 w ∧ decodeC w = some .div ∧ (coreOp .div {} id).gReg 7 (cRb w) = 0#32 ∧
       (coreOp .div {} id).actBank 7 ≠ 0) ∧
    (coreOp .lui {} id).runsOne 7 (encodeC .lui {}) ∧ decodeC (encodeC .lui {}) = some .lui := by decide +kernel
theorem test_ConductorLoadsAndStores :
    (let w := encodeC .ldd { rd := 14, imm18 := 0x1FFF8 }
     let s := coreOp .ldd { rd := 14, imm18 := 0x1FFF8 } id
     s.runsOne 7 w ∧ decodeC w = some .ldd ∧ 0x1FFF8#32 = s.gReg 7 (cRa w) + wordI (cSimm w) ∧ plainRegion 0x1FFF8 = true ∧
       0x1FFF8 % 2 ^ 3 = 0 ∧ s.pendingAt 7 0x1FFF8 = false ∧ s.cRead 7 (0x1FFF8 / 4 * 4) = (some 0#32, s) ∧ s.cRead 7 (0x1FFF8 + 4) = (some 0#32, s)) ∧
    (let w := encodeC .ldw { ra := 1 }
     let s := (coreOp .ldw { ra := 1 } id).setG 7 1 0x41FFFFFC#32
     s.runsOne 7 w ∧ decodeC w = some .ldw ∧ regionOf (s.gReg 7 (cRa w) + wordI (cSimm w)).toNat = .reg ∧
       (s.gReg 7 (cRa w) + wordI (cSimm w)).toNat % 2 ^ 2 = 0) ∧
    (let w := encodeC .ldh { ra := 1 }
     let s := (coreOp .ldh { ra := 1 } id).setG 7 1 0x300000#32
     s.runsOne 7 w ∧ decodeC w = some .ldh ∧ regionOf (s.gReg 7 (cRa w) + wordI (cSimm w)).toNat = .bad ∧ s.actBank 7 ≠ 0) := by
  decide +kernel
/-- A buffered store to the register space, and one to cluster memory. -/
def regStore : BusReq := { bank := 7, load := false, rd := 0, addr := 0x40000000#32, data := 1#32, size := 2, ptr := none }
def clusterStore : BusReq := { regStore with addr := 0x100000#32 }

theorem test_ConductorLoadsAndStores_buffered :
    (let w := encodeC .ldw { ra := 1 }
     let s := (coreOp .ldw { ra := 1 } (fun x => { x with bus := [regStore, clusterStore] })).setG 7 1 0x100004#32
     s.runsOne 7 w ∧ regionOf (s.gReg 7 (cRa w) + wordI (cSimm w)).toNat = .cl ∧ s.pendingAt 7 0x100004 = true) ∧
    (let w := encodeC .stw { ra := 1 }
     let s := (coreOp .stw { ra := 1 } (fun x => { x with bus := [regStore] })).setG 7 1 0x100004#32
     s.runsOne 7 w ∧ decodeC w = some .stw ∧ s.gReg 7 (cRa w) + wordI (cSimm w) = 0x100004#32 ∧ regionOf 0x100004 = .cl ∧
       s.cRead 7 (0x100004 / 4 * 4) = (some 0#32, s) ∧ (s.core 7).bus.find? (fun q => !q.load) = some regStore ∧
       regionOf regStore.addr.toNat ≠ .cl ∧ ((s.core 7).bus.filter (fun q => !q.load)).length < 8) ∧
    (let w := encodeC .stw { ra := 1 }
     let s := (coreOp .stw { ra := 1 } (fun x => { x with bus := List.replicate 8 regStore })).setG 7 1 0x100004#32
     s.runsOne 7 w ∧ 8 ≤ ((s.core 7).bus.filter (fun q => !q.load)).length) := by decide +kernel
theorem test_ConductorLoadsAndStores_stores :
    (let w := encodeC .std { rd := 14, ra := 1 }
     let s := (coreOp .std { rd := 14, ra := 1 } id).setG 7 1 0x2FFFF8#32
     s.runsOne 7 w ∧ decodeC w = some .std ∧ s.gReg 7 (cRa w) + wordI (cSimm w) = 0x2FFFF8#32 ∧ plainRegion 0x2FFFF8 = true ∧
       (s.core 7).bus = [] ∧
       s.cRead 7 (0x2FFFF8 / 4 * 4) = (some 0#32, s) ∧ s.cRead 7 (0x2FFFF8 + 4) = (some 0#32, s)) ∧
    (let w := encodeC .stb { ra := 1 }
     let s := (coreOp .stb { ra := 1 } id).setG 7 1 0x40000001#32
     s.runsOne 7 w ∧ decodeC w = some .stb ∧ regionOf (s.gReg 7 (cRa w) + wordI (cSimm w)).toNat = .reg ∧
       ((s.core 7).bus.filter (fun q => !q.load)).length < 8 ∧ (s.core 7).bus.find? (fun q => !q.load) = none) ∧
    (let w := encodeC .sth { imm18 := 1 }
     let s := coreOp .sth { imm18 := 1 } id
     s.runsOne 7 w ∧ decodeC w = some .sth ∧ (s.gReg 7 (cRa w) + wordI (cSimm w)).toNat % 2 ^ 1 ≠ 0 ∧ s.actBank 7 ≠ 0) := by
  decide +kernel
theorem test_ConductorControl :
    (∀ op ∈ [COp.nop, .sync, .b, .jr, .call, .jalr, .trap, .break, .mfs, .mts, .bkrd, .rtt],
      (coreOp op {} id).runsOne 7 (encodeC op {}) ∧ decodeC (encodeC op {}) = some op ∧ (coreOp op {} id).actBank 7 ≠ 0) ∧
    (coreOp .sync {} (fun x => { x with syncErr := true })).runsOne 7 (encodeC .sync {}) ∧
    ((coreOp .sync {} id).core 7).bus = [] ∧ ((coreOp .sync {} id).core 7).syncErr = false ∧
    (let w := encodeC .rpt { rep := 4095 }
     let s := coreAt w (encodeC .add {}) id []
     s.runsOne 7 w ∧ decodeC w = some .rpt ∧ s.peekC 7 (s.cpc 7 + 4#32) = some (encodeC .add {}) ∧ w.bit 12 = false ∧
       w.bits 11 0 + 1 = 4096 ∧ repeatable .add = true) ∧
    (let w := encodeC .rpt { rep := 4096 }
     let s := coreAt w (encodeC .add {}) id []
     s.runsOne 7 w ∧ w.bit 12 = true ∧ Nat.min ((s.gReg 7 (cRa w)).bits 12 0) 4096 = 0 ∧ repeatable .mul = false ∧
       decodeC (encodeC .mul {}) = some .mul) ∧
    (coreAt (encodeC .break {}) 0#32 id [(Reg.cndCtrl 7, 2)]).regB (Reg.cndCtrl 7) 1 = true ∧
    (coreAt (encodeC .break {}) 0#32 id [(Reg.cndCtrl 7, 2)]).runsOne 7 (encodeC .break {}) := by decide +kernel
theorem test_ConductorControl_tokens_and_banks :
    (let s := coreOp .post {} id
     s.runsOne 7 (encodeC .post {}) ∧ decodeC (encodeC .post {}) = some .post ∧ (s.core 7).posts = [] ∧ s.domFenced 10 = false ∧
       s.maySend (6 + 7) = true) ∧
    extNum ((encodeC .mfs {}).bits 17 12) = false ∧ (encodeC .mfs {}).bits 17 12 ≠ 5 ∧
    ((coreOp .mfs {} id).special 7 0).isSome = true ∧ (coreOp .mfs { n := 63 } id).special 7 63 = none ∧ extNum 63 = false ∧
    (encodeC .mts { n := 1 }).bits 17 12 = 1 ∧ decodeC (encodeC .mts { n := 1 }) = some .mts ∧
    (encodeC .mts { n := 6 }).bits 17 12 = 6 ∧
    (let s := coreOp .bkrd { bk := 1 } (inTrap id)
     s.runsOne 7 (encodeC .bkrd { bk := 1 }) ∧ (s.core 7).active = some 0 ∧
       ((s.bank 7 ((encodeC .bkrd { bk := 1 }).bits 11 9)).reg ((encodeC .bkrd { bk := 1 }).bits 17 12)).isSome = true) ∧
    (let s := coreOp .bkwr { bk := 7, n := 15 } (inTrap id)
     s.runsOne 7 (encodeC .bkwr { bk := 7, n := 15 }) ∧ decodeC (encodeC .bkwr { bk := 7, n := 15 }) = some .bkwr ∧
       (encodeC .bkwr { bk := 7, n := 15 }).bits 11 9 ≠ 0 ∧ (encodeC .bkwr { bk := 7, n := 15 }).bits 17 12 < 16) ∧
    (let s := coreAt (encodeC .rttn {}) 0#32 (inTrap id) [(Reg.cndTcause 7, 0x700)]
     s.runsOne 7 (encodeC .rttn {}) ∧ decodeC (encodeC .rttn {}) = some .rttn ∧ (s.core 7).active = some 0 ∧
       7 = (s.reg (Reg.cndTcause 7)).bits 10 8 ∧ (s.reg (Reg.cndTcause 7)).bits 23 11 = 0) ∧
    (let s := coreOp .done {} (fun x => { x with run := some (0, 15) })
     let x := s.core 7
     s.runsOne 7 (encodeC .done {}) ∧ decodeC (encodeC .done {}) = some .done ∧ x.active = some 7 ∧
       x.run = some ((x.bank 7).tid, 15) ∧ x.stack = [] ∧ s.regF Reg.disCtrl 1 0 = 0 ∧
       (s.thread (x.bank 7).tid).complete = false ∧ (s.thread (x.bank 7).tid).dying = false) := by decide +kernel
theorem test_ConductorExtendedRegisters :
    (let s := coreOp .mac {} (fun x => { x with xown := 1, banks := [(7, { state := 2 }), (1, { xst := 1 })] })
     let x := s.core 7
     s.runsOne 7 (encodeC .mac {}) ∧ decodeC (encodeC .mac {}) = some .mac ∧ s.actBank 7 ≠ 0 ∧ (x.bank 7).xst ≠ 1 ∧ x.xown ≠ 0 ∧
       x.xown ≠ s.actBank 7 ∧ (x.bank x.xown).xst = 1 ∧ (x.bank x.xown).xbad = false ∧ (dspOps ++ extOps ++ [COp.pointer]).contains COp.mac = true) := by decide +kernel
theorem test_ConductorExtendedRegisters_live :
    (let w := encodeC .acca { dsp := 1048576 }
     let s := coreOp .acca { dsp := 1048576 } id
     s.runsOne 7 w ∧ decodeC w = some .acca ∧ ((s.core 7).bank (s.actBank 7)).xst = 1 ∧ w.bit 12 = false ∧ w.bit 6 = false ∧
       w.bits 21 21 = 1) ∧
    (let w := encodeC .none { dsp := 2048 }
     let s := coreOp .none { dsp := 2048 } id
     s.runsOne 7 w ∧ decodeC w = some .none ∧ w.bit 12 = true ∧ w.bit 11 = false ∧ w.bit 6 = false ∧
       (s.core 7).p.get (w.bits 8 7) 0#32 = 0#32 ∧ s.cRead 7 0 = (some 0#32, s)) ∧
    (∀ op ∈ [COp.extr, .scla, .expb, .bxc], (coreOp op {} id).runsOne 7 (encodeC op {}) ∧ decodeC (encodeC op {}) = some op ∧
      (((coreOp op {} id).core 7).bank 7).xst = 1) ∧
    (let f : CFields := { ptr := 2 ^ 6 + 2 ^ 4 + 2 ^ 5 }
     (coreOp .pointer f id).runsOne 7 (encodeC .pointer f) ∧ decodeC (encodeC .pointer f) = some .pointer) ∧
    (let f : CFields := { ptr := 2 * 2 ^ 6 + 2 ^ 4 }
     let w := encodeC .pointer f
     let s := coreOp .pointer f id
     s.runsOne 7 w ∧ w.bits 17 16 = 2 ∧ w.bits 15 14 = 1 ∧ (s.core 7).p.get (w.bits 21 19) 0#32 = 0#32 ∧
       (s.core 7).bus = [] ∧ plainRegion 0 = true ∧ s.cRead 7 0 = (some 0#32, s)) := by decide +kernel
theorem test_ConductorExtendedRegisters_lists :
    (let s := coreOp .savel {} (fun x => { x with banks := [(7, { state := 2, slh := 0x40#32 })], xmem := [(16, { data := 0xFFC0#32 })] })
     s.runsOne 7 (encodeC .savel {}) ∧ decodeC (encodeC .savel {}) = some .savel ∧ (s.bank 7 7).slh = 0x40#32 ∧
       s.pendingCl 7 = false ∧
       nodeOk 0x40#32 = true ∧ s.cRead 7 0x40 = (some 0xFFC0#32, s) ∧ (0xFFC0#32 : Word).toNat % 64 = 0) ∧
    (let s := coreOp .restlj {} (fun x => { x with banks := [(7, { state := 2, slh := 0x40#32 })], xmem := [(18, { data := 1#32 })] })
     s.runsOne 7 (encodeC .restlj {}) ∧ decodeC (encodeC .restlj {}) = some .restlj ∧ s.pendingCl 7 = false ∧
       ∀ i, i < 13 → s.cRead 7 (0x40 + 4 * i) = (some (if i = 2 then 1#32 else 0#32), s)) ∧
    (let s := coreOp .restu {} (fun x => { x with banks := [(7, { state := 2, slh := 0x40#32 })] })
     s.runsOne 7 (encodeC .restu {}) ∧ decodeC (encodeC .restu {}) = some .restu ∧ s.actBank 7 ≠ 0 ∧
       ∀ i, i < 13 → s.cRead 7 (0x40 + 4 * i) = (some 0#32, s)) := by decide +kernel
theorem test_ConductorEvents :
    (let s := coreAt 0xFFFFFFFF#32 0#32 id []
     s.issues 7 0xFFFFFFFF#32 ∧ s.cleanFetch 7 ∧ decodeC 0xFFFFFFFF#32 = none ∧ s.actBank 7 ≠ 0) ∧
    (let s := (coreOp .nop {} id).setCpc 7 0x10000#32
     s.canIssue 7 = true ∧ s.coreHalted 7 = false ∧ pcOk (s.cpc 7) = false) ∧
    (let s := coreAt (encodeC .nop {}) 0#32 id [(Reg.cndCtrl 7, 4)]
     s.opens (.cnd 7) ∧ (s.core 7).rpt = none ∧ s.canIssue 7 = true ∧ s.coreHalted 7 = true ∧
       s.peekC 7 (s.cpc 7) = some (encodeC .nop {}) ∧ s.cleanFetch 7) ∧
    (let s := coreOp .mac {} (fun x => { x with save := some 1, want := some 7, banks := [(7, {}), (1, { xarea := 0xFF58#32 })] })
     (s.core 7).save = some 1 ∧ (s.core 7).want = some 7 ∧ (s.bank 7 1).xarea.toNat < 0x10000 - 160 ∧
       (s.bank 7 1).xarea.toNat % 8 = 0) ∧
    (let s := coreOp .mac {} (fun x => { x with restore := some 7 })
     (s.core 7).restore = some 7 ∧ (s.core 7).save = none ∧ (s.core 7).active = some 7 ∧ (s.bank 7 7).loadErr = none ∧
       ∀ i, i < 40 → s.cRead 7 ((s.bank 7 7).xarea.toNat + 4 * i) = (some 0#32, s)) ∧
    (let s := coreOp .nop {} (fun x => { x with active := none, reqs := [{ bank := 7, disp := some 1023, vals := [] }] })
     (s.core 7).reqs = [{ bank := 7, disp := some 1023, vals := [] }] ∧ s.coreRuns 7 = true ∧ (s.core 7).active = none ∧
       (s.core 7).rpt = none ∧ (s.bank 7 7).state ≠ 5) := by decide +kernel
theorem test_ConductorEvents_step :
    (let w := encodeC .add {}
     let s := coreAt w 0#32 id [(Reg.cndCtrl 7, 4)]
     s.opens (.cnd 7) ∧ s.canIssue 7 = true ∧ s.coreHalted 7 = true ∧ s.peekC 7 (s.cpc 7) = some w ∧ s.cleanFetch 7 ∧
       decodeC w = some .add ∧ (condAlu .add w (s.gReg 7 (cRa w)) (s.gReg 7 (cRb w)) ((s.csr 7).bit 2)).isSome = true) := by
  decide +kernel
theorem test_ConductorEvents_switch :
    (let s := coreOp .nop {} (fun x => { x with reqs := [{ bank := 6, disp := some 1023, vals := [] }] })
     (s.core 7).reqs = [{ bank := 6, disp := some 1023, vals := [] }] ∧ s.coreRuns 7 = true ∧ (s.core 7).rpt = none ∧
       (s.bank 7 6).state ≠ 5 ∧ (s.core 7).active = some 7 ∧ (s.core 7).restore = none) ∧
    (let s := coreOp .nop {} (fun x => { x with active := none, banks := [(6, { state := 3 })],
                                                reqs := [{ bank := 6, disp := none, vals := [] }] })
     (s.core 7).reqs = [{ bank := 6, disp := none, vals := [] }] ∧ s.coreRuns 7 = true ∧ (s.core 7).rpt = none ∧
       (s.bank 7 6).state ≠ 5 ∧ (s.core 7).active = none ∧ (s.bank 7 6).xst = 0 ∧ (s.bank 7 6).loadErr = none) := by
  decide +kernel

/-- An access of core 7 to DIS_INJV. -/
def injvAccess (load : Bool) : BusReq :=
  { bank := 6, load := load, rd := 15, addr := word (0x40000000 + Reg.disInjv), data := 5#32, size := 2, ptr := none }

theorem test_ConductorEvents_responses :
    (∀ ld : Bool, let s := coreAt 0#32 0#32 (fun x => { x with bus := [injvAccess ld] }) []
      (s.core 7).bus = [injvAccess ld] ∧ (injvAccess ld).sent = false ∧ s.quiet = true ∧ s.conforms (36 + 7 / 4) 2 = true ∧
        s.domFenced 10 = false ∧ s.opens .dis) ∧
    (∀ ld : Bool, let s := coreAt 0#32 0#32 (fun x => { x with bus := [injvAccess ld] }) [(Reg.nocFreq, 0x400)]
      (s.core 7).bus = [injvAccess ld] ∧ s.quiet = true ∧ s.conforms (36 + 7 / 4) 2 = true ∧ s.domFenced 10 = true ∧
        (s.core 7).active ≠ some (injvAccess ld).bank) ∧
    (let s := coreAt 0#32 0#32 (fun x => { x with bus := [injvAccess false, injvAccess true] }) []
     (s.core 7).bus = [injvAccess false, injvAccess true] ∧ regionOf (injvAccess false).addr.toNat = .reg ∧
       s.quiet = true) := by decide +kernel

/-- Core 7 with a bank of thread 3 that is to be evicted for thread 1023. -/
def evicting : State :=
  let s := coreAt 0#32 0#32 (fun x => { x with
    moves := [{ evict := true, bank := 6, thread := 1023, vals := [] }], run := some (1023, 0)
    banks := [(6, { state := 5, tid := 3, slh := 0x40#32 })]
    xmem := [(16, { data := 0x80#32 }), (32, { data := 0xC0#32 })] }) []
  { s with dis.threads := [(3, { res := some (7, 6) }), (1023, {})] }

theorem test_ConductorEvents_evict :
    (evicting.core 7).rpt = none ∧ (evicting.core 7).run.map Prod.fst = some 1023 ∧
    (((evicting.moveEnd 7).tryEvict 7 6).map (fun x => (x.2.thread 1023).cold && (x.2.bank 7 6).tid != 1023 &&
      (x.2.thread (x.2.bank 7 6).tid).res == some (7, 6))) = some true ∧
    (let s : State := { evicting with dis.threads := [(3, { res := some (7, 6) }), (1023, { cold := false })] }
     (((s.moveEnd 7).tryEvict 7 6).map (fun x => (x.2.thread 1023).cold)) = some false) := by decide +kernel
theorem test_ConductorEvents_reload :
    (let s := coreOp .nop {} (fun x => { x with
        moves := [{ evict := false, bank := 6, thread := 1023, vals := [] }], run := some (1023, 0)
        banks := [(6, { state := 5, slh := 0x40#32 })],
        xmem := [(17, { data := 0x80#32 }), (18, { data := 1#32 }), (34, { data := 2#32 })] })
     let u := s.moveEnd 7
     (s.core 7).rpt = none ∧ (s.core 7).run.map Prod.fst = some 1023 ∧ (s.bank 7 6).slh = 0x40#32 ∧ nodeOk 0x40#32 = true ∧
       nodeOk 0x80#32 = true ∧
       (∀ i, i < 13 → u.cRead 7 (0x40 + 4 * i) = (some (if i = 1 then 0x80#32 else if i = 2 then 1#32 else 0#32), u)) ∧
       ∀ i, i < 11 → u.cRead 7 (0x80 + 4 * i) = (some (if i = 2 then 2#32 else 0#32), u)) ∧
    (run.core 7).moves = [] := by decide +kernel

/-- `run` with thread 1023 as `x`, the token `tk` at channel `ch`, in transit or landed. -/
def disp (x : Thread) (tr ld : List Token) (l : List (Nat × Nat)) : State :=
  { regsOf run l with dis := { threads := [(1023, x)], chans := [(4, { transit := tr, landing := ld })] } }

theorem test_Dispatcher :
    (let tk : Token := { tid := 1023, slot := 3, val := 9#32 }
     (let s := disp {} [tk] [] [(Reg.disCtrl, 1)]
      s.quiet = true ∧ (s.chan 4).transit = [tk] ∧ s.domFenced 10 = false ∧ s.accepts 4 = true ∧
        (disp {} [tk] [] []).accepts 4 = false) ∧
     (let x : Thread := { cfg := 0x18000#32, state := 1 }
      let s := disp x [] [tk] []
      s.quiet = true ∧ (s.chan 4).landing = [tk] ∧ s.domOn 10 = true ∧ s.proxyOf tk.tid = none ∧ s.descRead 1023 0 = (true, s) ∧
        (x.valid && x.mask 3) = true ∧ x.slot 3 = none ∧ (x.setSlot 3 (some 9#32)).complete = true ∧
        (let y : Thread := { x with slot3 := some 1#32 }
         y.slot 3 ≠ none ∧ (disp y [] [tk] []).descRead 1023 0 = (true, disp y [] [tk] [])) ∧
        (({} : Thread).valid && ({} : Thread).mask 3) = false)) ∧
    (let x : Thread := { cfg := 0x18800#32, state := 2, slot3 := some 1#32, res := some (7, 7) }
     let s : State := { disp x [] [] [(Reg.disCtrl, 1), (Reg.disCore, 0x80)] with
                        dis := { threads := [(1023, x)], ready := [(0, [1023])] } }
     s.domOn 10 = true ∧ s.regF Reg.disCtrl 1 0 = 1 ∧ s.readyOrder = [1023] ∧ s.chooseCore 1023 = some (7, false) ∧
       (s.unblocked 1023).dispatchReads 1023 = (true, s.unblocked 1023) ∧ (s.thread 1023).res = some (7, 7) ∧
       (s.bank 7 7).state ≠ 5 ∧ s.dis.overflow = []) ∧
    (let s := disp { cfg := 0x10000#32 } [] [] []
     s.opens .dis ∧ (s.thread 1023).valid = true ∧ (s.thread 0).valid = false ∧ (s.thread 1023).state ≠ 3 ∧
       s.runsNow 1023 = false ∧ s.quiet = true ∧
       s.dis.injWait = [] ∧ s.chanCredit 17 = true ∧
       (let u := s.setCore 7 { s.core 7 with dfault := true }
        u.opens .dis ∧ (u.core 7).dfault = true ∧ (u.core 0).dfault = false)) := by decide +kernel
theorem test_CircularAdvance : (3#32 : Word).toNat ≤ 2 ^ 2 ∧ (∀ j, (3#32 : Word).toNat ≤ 2 ^ j → 2 ≤ j) ∧
    advance 7#32 0xFFFFFFFF#32 3#32 = 6#32 ∧ advance 7#32 1#32 0#32 = 8#32 ∧ advance 4#32 0xFFFFFFFF#32 3#32 = 6#32 := by
  refine ⟨by decide, ?_, by decide +kernel, by decide +kernel, by decide +kernel⟩
  intro j h
  match j with
  | 0 => exact absurd h (by decide)
  | 1 => exact absurd h (by decide)
  | _ + 2 => omega

/-! ## Start, identity, update and sessions -/

theorem test_BootOk : keyed 0x4B5A0001#32 0 ∧ run.released = true ∧ run.primer = false ∧ run.regB Reg.devStatus 2 = false ∧
    ¬ keyed 0x4B5A0000#32 0 ∧ ({ run with boot.wdog := 1 } : State).boot.wdog ≠ 0 := by decide +kernel
theorem test_ResetsAndStarts : (5#4 : BitVec 4).getLsbD 0 = true ∧ (5#4 : BitVec 4).getLsbD 2 = true ∧ keyed 0x4B5AFFFF#32 0 ∧
    ¬ keyed 0x4B590001#32 0 ∧ ({ run with boot.stage := .failed } : State).boot.stage = .failed ∧
    (let s : State := { State.reset with boot.count := 3 }
     s.boot.stage = .due ∧ s.pwr.holdT = false ∧ s.pwr.holdC = false ∧ s.boot.count = 3) ∧
    ({ State.reset with otp.plane := false } : State).otp.plane = false := by decide +kernel

/-- Flash with no sections in the image of Bay 1, and no required units. -/
def emptyBay : State := { run with boot.stage := .waiting 1, flash := [0x0C, 0x0D, 0x0E, 0x0F, 0x1C, 0x1D, 0x1E, 0x1F].map (fun i => (imgBase 1 + i, 0)) }

theorem test_ResetsAndStarts_waiting : emptyBay.boot.stage = .waiting 1 ∧ emptyBay.lastSteps 1 = some 0 := by decide +kernel

/-- `run` in Primer mode with the update status `u`. -/
def updating (u : Nat) : State := regsOf { run with boot := { stage := .primer, updLen := 4 } } [(Reg.devStatus, 8), (Reg.ldrUpdStatus, u)]

theorem test_IdentityAndUpdate : keyed 0x4B5A0001#32 0 ∧ (updating 0).otp.cust = 0#256 ∧ (updating 0).primer = true ∧
    ¬ (run.otp.cust = 0#256 ∧ run.primer = true) ∧ keyed 0x4B5A0004#32 2 ∧ keyed 0x4B5A0002#32 1 ∧ run.sec.attReq = none ∧
    ({ run with sec.attReq := some [] } : State).sec.attReq ≠ none ∧
    (let s := regsOf run [(Reg.ldrUpdLen, bayCap 1), (Reg.ldrUpdCtrl, 1)]
     s.regF Reg.devStatus 5 4 ≠ s.regF Reg.ldrUpdCtrl 0 0 + 1 ∧ s.updBusy = false ∧ (s.reg Reg.ldrUpdLen).toNat ≤ bayCap (s.regF Reg.ldrUpdCtrl 0 0)) ∧
    bayCap 1 < ((regsOf run [(Reg.ldrUpdLen, bayCap 1 + 1)]).reg Reg.ldrUpdLen).toNat := by decide +kernel
theorem test_IdentityAndUpdate_update : (updating 1).updState = 1 ∧ (updating 2).updState = 2 ∧
    ((updating 2).reg Reg.ldrUpdOff).toNat + 4 ≤ (updating 2).boot.updLen ∧ (updating 2).boot.page.length < 252 ∧
    (regsOf (updating 2) [(Reg.ldrUpdOff, 1)]).boot.updLen < ((regsOf (updating 2) [(Reg.ldrUpdOff, 1)]).reg Reg.ldrUpdOff).toNat + 4 ∧
    (updating 3).updState = 3 ∧ (updating 3).checkHeader (updating 3).updBay none ≠ 0 ∧ (updating 3).updBusy = true ∧
    run.updBusy = false := by decide +kernel

/-- The premises of a passed check are met in whatever flash holds an image that the opaque hash and signature accept. -/
theorem test_IdentityAndUpdate_verified (s : State) (h : s.updState = 3) (h1 : s.checkHeader s.updBay none = 0)
    (h2 : s.checkDigests s.updBay = 0) (hb : s.regB Reg.ldrUpdCtrl 1 = false)
    (he : ∀ i, i < 0x34 → s.flashByte (bayBase s.updBay + i) = 255)
    (ho : Obligations.IdentityAndUpdate) : ∃ t, exec .verifyDone s = .next t ∧ t.updState = 5 ∧ t.committed s.updBay = true := by
  obtain ⟨t, h3, h4, h5, -⟩ := (ho.2.2.2 0#32 s).2.2.2.2.2.1 h h1 h2 hb he
  exact ⟨t, h3, h4, h5⟩

/-- A management frame of type `typ` with session number 0, sequence number `seq` and body `b`, and the tag `tag`. -/
def ibFrame (typ : Nat) (seq : Nat) (b tag : List Byte) : List Byte :=
  List.replicate 12 0#8 ++ [0x88#8, 0xB5#8] ++ [1#8, BitVec.ofNat 8 typ] ++ leBytes b.length 2 ++ leBytes 0 4 ++ leBytes seq 4 ++ b ++ tag

/-- Channel 31 linked and open to management frames, with the customer key `k`. -/
def inband (k : Nat) (l : List (Nat × Nat)) : State :=
  { linkedCh ([(Reg.mgtIbCfg, 0x88B50001), (Reg.chCfg 3 7, 0x40001), (Reg.secMkey 3 7, k)] ++ l) with cyc := 0 }

def someSession (k : List Byte) : Session :=
  { chan := 31, mac := List.replicate 6 0#8, vlan := [], sid := 0, k1 := k, k2 := [] }

theorem test_Sessions : (let b := ibFrame 1 0 [3#8] []
     let s := inband 1 []
     s.ibTakes 31 1 b = true ∧ 31 ∉ s.sec.holdoff ∧ s.sec.exch = none ∧ s.openSessions < 4 ∧
       (s.ibKey (byteAt (parseIb b).body 0)).isSome = true ∧ (inband 0 []).ibKey (byteAt (parseIb b).body 0) = none) ∧
    (let e : Exchange := { chan := 31, mac := List.replicate 6 0#8, vlan := [], sid := 0, sa := List.replicate 32 7#8, k1 := [], k2 := [] }
     let s : State := { inband 1 [] with sec.exch := some e, sec.sess := [(0, some (someSession [])), (1, some (someSession [])), (2, some (someSession []))] }
     let b := ibFrame 3 0 (List.replicate 32 7#8) []
     s.ibTakes 31 3 b = true ∧ s.sec.exch = some e ∧ e.mac = (parseIb b).src ∧ e.sid = (parseIb b).sid ∧ s.session 3 = none ∧
       (∀ j, j < 3 → s.session j ≠ none) ∧ (parseIb b).body.take 32 = e.sa ∧
       (parseIb (ibFrame 3 0 (List.replicate 32 8#8) [])).body.take 32 ≠ e.sa) ∧
    (let q : IbReq := { no := 0, sess := 3, fid := 0#8, flits := [.done 0#64 0#64] }
     let s : State := { inband 1 [] with sec.reqs := [q], sec.sess := [(3, some (someSession []))] }
     s.sec.reqs = [q] ∧ s.session 3 = some (someSession []) ∧ s.chRuns 31 = true ∧ s.session 0 = none) := by decide +kernel

/-- A session frame with a right tag, whatever the hash is: the body of a REQ of one RD flit of DEV_UNITS. -/
theorem test_Sessions_frames :
    (let s : State := { inband 1 [] with sec.sess := [(3, some (someSession []))] }
     let flit : List Byte := [1#8, 0#8, 0#8, 0#8] ++ leBytes (2 ^ 44 + 0x2000 * 2 ^ 48) 8 ++ leBytes Reg.devUnits 8
     let b := ibFrame 0x10 1 flit []
     s.session 3 = some (someSession []) ∧ (∀ j, j < 3 → s.session j = none) ∧ (someSession []).sid = (parseIb b).sid ∧
       (someSession []).mac = (parseIb b).src ∧ (someSession []).rx < (parseIb b).seq ∧ s.ibTakes 31 0x10 b = true ∧ s.quiet = true ∧
       s.conforms 42 3 = true ∧
       byteAt (parseIb b).body 0 = 1 ∧ leAt (parseIb b).body 4 8 / 2 ^ 44 % 16 = 1 ∧
       flitAddr (leAt (parseIb b).body 4 8) (leAt (parseIb b).body 12 8) = 0x200000000000 + Reg.devUnits ∧
       s.ibTakes 31 0x13 (ibFrame 0x13 1 [] []) = true) := by decide +kernel

theorem test_Sessions_tag : ∃ tag : List Byte, tag.length = 32 ∧
    digBytes (Config.hmacSm3 (someSession []).k1 (parseIb (ibFrame 0x13 1 [] [])).head) = tag :=
  ⟨_, by simp [digBytes, beBytes], rfl⟩

/-! ## Integrity, faults, the Sketch and management -/

theorem test_ScrubbersAndPasses :
    (let s := regsOf run [(Reg.intScrb 3, 1)]
     s.regB (Reg.intScrb 3) 0 = true ∧ s.nextWord 3 (s.int.scrubPtr.get 3 0) = some 0 ∧ s.classRead 3 0 = s ∧ s.nextWord 3 1 = some 1 ∧
       (let u : State := { s with int.scrubPtr := [(3, 131071)] }
        u.nextWord 3 (u.int.scrubPtr.get 3 0) = some 131071 ∧ u.classRead 3 131071 = u ∧ u.nextWord 3 131072 = none)) ∧
    (regsOf run [(Reg.intScrb 3, 0)]).regB (Reg.intScrb 3) 0 = false ∧ run.int.pass = none ∧
    ((run.reg Reg.intPassStart).toNat ≤ (run.reg Reg.intPassEnd).toNat) ∧ (Word.bits 10#32 3 0) ≤ 10 ∧
    ((regsOf run [(Reg.intPassStart, 1)]).reg Reg.intPassEnd).toNat < ((regsOf run [(Reg.intPassStart, 1)]).reg Reg.intPassStart).toNat ∧
    10 < (Word.bits 11#32 3 0) := by decide +kernel
theorem test_ScrubbersAndPasses_reads :
    (let s : State := { run with int.pass := some (3, 131071), int.passEnd := 131071 }
     s.int.pass = some (3, 131071) ∧ 131071 ≤ s.int.passEnd ∧ s.int.passAbort = false ∧ s.instOk 3 (131071 / (classShape 3).1) = true ∧
       s.classFind 3 131071 = (.good, s)) ∧
    (let s : State := { regsOf run [(Reg.nocFreq, 0x400)] with int.pass := some (3, 0), int.passEnd := 1 }
     s.instOk 3 (0 / (classShape 3).1) = false) ∧
    (let s : State := { run with int.pass := some (3, 0), int.passEnd := 1, cnd.cores := [(0, { imem := [(0, { ecc := .poison })] })] }
     s.instOk 3 0 = true ∧ s.classFind 3 0 = (.failed, s) ∧ s.int.passHit = false) := by decide +kernel

/-- `run` with one report in the collector's inbox and the entries `es`. -/
def collecting (es : SMap FEntry) : State :=
  { regsOf run [(Reg.fltTok, 0), (Reg.mgtIbCfg, 0), (Reg.fltCtrl, 0)] with
    int.inbox := [{ code := 63, unit := 1, subj := 2, count := 1, first := 3, last := 4, span := 0 }], int.entries := es }

theorem test_Collector :
    (let s := collecting []
     s.regB Reg.fltTok 12 = false ∧ s.codeIn Reg.mgtSkfmaskLo Reg.mgtSkfmaskHi 63 = false ∧ s.regB Reg.mgtIbCfg 1 = false ∧
       s.regB Reg.fltCtrl 14 = false ∧ (s.fentry 0).valid = false ∧ s.sec.reports = [] ∧
       (s.collFind { code := 63, unit := 1, subj := 2, count := 1, first := 3, last := 4, span := 0 }).1 = none) ∧
    (let s := collecting [(255, { valid := true, code := 63, unit := 1, subj := 2, count := 0xFFFF })]
     (s.collFind { code := 63, unit := 1, subj := 2, count := 1, first := 3, last := 4, span := 0 }).1 = some 255 ∧
       (s.fentry 255).valid = true ∧ (s.fentry 255).count = (Word.bits 0xFFFF00FF#32 31 16) ∧ (Word.bits 0xFFFF00FF#32 7 0) = 255 ∧
       (Word.bit 0xFFFF00FF#32 8) = false ∧ (Word.bit 0x100#32 8) = true) := by decide +kernel
theorem test_Collector_find (r : Report) (s : State)
    (h : (List.range 256).find? (fun i => let e := s.fentry i; e.valid && e.subj == r.subj && e.unit == r.unit && e.code == r.code) = none) :
    s.collFind r = (none, s) := by
  unfold State.collFind
  rw [h]
theorem test_Collector_full : ∀ j, j < 256 →
    ((collecting ((List.range 256).map (fun i => (i, { valid := true, count := 1 })))).fentry j).valid = true := by decide +kernel

theorem test_SketchAndReadback :
    (let s := regsOf run [(Reg.mgtSkctrl, 0xB)]
     s.regB Reg.mgtSkctrl 0 = true ∧ s.released = true ∧ s.sk.locked = false ∧ s.sk.t0 = none ∧ s.regB Reg.mgtSkctrl 1 = true ∧
       (let u : State := { s with mgt.sk.t0 := some 0, cyc := 14 }
        u.sk.t0 = some 0 ∧ u.cyc + 1 ≤ 0 + 15 ∧ u.cyc + 1 < 0 + 16) ∧
       (let u : State := { s with mgt.sk.t0 := some 0, cyc := 15 }
        0 + 16 ≤ u.cyc + 1) ∧
       ({ s with mgt.sk.locked := true } : State).sk.locked = true ∧ ({ s with mgt.sk.built := true } : State).sk.built = true) ∧
    (regsOf run [(Reg.mgtRbStat, 2)]).regF Reg.mgtRbStat 1 0 = 2 ∧ run.regF Reg.mgtRbStat 1 0 ≠ 2 ∧
    (regsOf run [(Reg.mgtSkctrl, 0)]).regB Reg.mgtSkctrl 0 = false ∧ keyed 0x4B5A00BF#32 7 ∧ ¬ keyed 0x4B5A003F#32 7 ∧
    (regsOf run [(Reg.mgtDbg, 1)]).regB Reg.mgtDbg 0 = true ∧ run.regB Reg.mgtDbg 0 = false ∧
    (regsOf run [(Reg.mgtDbg, 1)]).quadOpen (quadOfPanel ((Word.bits 0x4B5A00BF#32 5 0))) = true := by decide +kernel
theorem test_PortsAndRegisters : run.quiet = true ∧ run.conforms 42 3 = true ∧
    (run.opens .int ∧ run.opens .eas ∧ run.opens .pal ∧ run.opens .noc) ∧
    (run.opens .spx ∧ run.opens .shg ∧ run.opens .tbl ∧ run.opens .dis) ∧ (2 : Nat) ≠ 4 ∧ blockOf 0x50000 = none ∧
    (∀ k : Fin 8, (0x50000 : Nat) ≠ Reg.mgtWdata k.val) ∧ run.mgt.msp.busy = none ∧
    (let s := regsOf run [(Reg.mgtWctl 7, 0), (Reg.mgtWaddrHi 7, 0x2000), (Reg.mgtWaddrLo 7, Reg.devUnits)]
     s.quiet = true ∧ s.conforms 42 3 = true ∧ s.reg (Reg.mgtWctl 7) = 0#32 ∧ s.reg (Reg.mgtWaddrHi 7) = 0x2000#32 ∧ s.reg (Reg.mgtWaddrLo 7) = word Reg.devUnits) ∧
    (regsOf run [(Reg.mgtWaddrLo 7, Reg.mgtTlim)]).reg (Reg.mgtWaddrLo 7) = word Reg.mgtTlim ∧
    ({ run with pwr.holdC := true } : State).jtagPins = true ∧ run.jtagPins = false ∧ run.mgt.jtag.busy = none ∧
    (let c : Byte := mspCrc ([1#8, 0#8] ++ leBytes Reg.devUnits 4 ++ leBytes 0 4)
     let f : BitVec 88 := BitVec.ofNat 88 (1 + Reg.devUnits * 65536 + c.toNat * 2 ^ 80)
     f.toNat % 256 = 1 ∧ f.toNat / 65536 % 4294967296 = Reg.devUnits ∧
       BitVec.ofNat 8 (f.toNat / 2 ^ 80) = mspCrc ([1#8, BitVec.ofNat 8 (f.toNat / 256)] ++ leBytes Reg.devUnits 4 ++
         leBytes (f.toNat / 2 ^ 48 % 4294967296) 4)) := by decide +kernel
theorem test_DomainsAndMonitors :
    run.hasDom 10 = true ∧ run.pwr.change = none ∧ run.pwr.asked = 0#11 ∧ domTarget 10 ((Word.bits 0#32 1 0)) < run.domState 10 ∧
    run.regB Reg.nocFack 10 = false ∧ (regsOf run [(Reg.nocFack, 0x400)]).regB Reg.nocFack 10 = true ∧
    (regsOf run [(Reg.pwrDomctl 10, 0)]).domState 10 < domTarget 10 ((Word.bits 2#32 1 0)) ∧
    ({ run with pwr.change := some (7, 2, 1) } : State).pwr.change = some (7, 2, 1) ∧
    ({ run with pwr.change := some (10, 2, 0) } : State).pwr.asked = 0#11 ∧
    ({ run with pwr.change := some (10, 1, 2) } : State).pwr.change = some (10, 1, 2) ∧ run.hasLg 3 = true ∧ run.sensorOn 15 = true ∧
    (479#10 : BitVec 10).toInt < 480 ∧ (480#10 : BitVec 10).toInt ≥ 480 ∧ run.pwr.holdT = false ∧ run.regB Reg.pwrThctrl 0 = false ∧
    run.monitorOn 7 = true ∧ run.monitorOn 4 = true ∧ (regsOf run [(Reg.pwrDomctl 9, 0)]).monitorOn 5 = false := by decide +kernel
theorem test_DomainsAndMonitors_safe :
    (updating 0).primer = true ∧
    (List.range 18).any (fun w => fieldClash ((updating 0).safeBuf w) (((updating 0).pwr.prog.getD (updating 0).otp.safe).get w 0#32)) = false ∧
    ({ run with pwr.prog := some [] } : State).pwr.prog = some [] := by decide +kernel

end Sys2Proof.Machine.Tests
end

section
namespace Sys2Proof.Machine

/-! ## Bit fields of numbers and headers -/

/-- Bit `i` of field `[hi:lo]` of a number is its bit `lo + i`. -/
theorem testBit_bitsOf (n hi lo i : Nat) :
    (bitsOf n hi lo).testBit i = (decide (i < hi + 1 - lo) && n.testBit (lo + i)) := by
  simp [bitsOf, Nat.testBit_mod_two_pow, Nat.testBit_shiftRight]

/-- A number from which field `[hi:lo]` is taken out, and `v` put in its place, bit by bit. -/
theorem testBit_replaceField (n hi lo v i : Nat) :
    (n - bitsOf n hi lo * 2 ^ lo + v % 2 ^ (hi + 1 - lo) * 2 ^ lo).testBit i =
      if lo ≤ i ∧ i - lo < hi + 1 - lo then v.testBit (i - lo) else n.testBit i := by
  generalize hw : hi + 1 - lo = w
  have hb : bitsOf n hi lo = n / 2 ^ lo % 2 ^ w := by rw [bitsOf, hw, Nat.shiftRight_eq_div_pow]
  have hsplit : n = 2 ^ lo * (2 ^ w * (n / 2 ^ lo / 2 ^ w) + bitsOf n hi lo) + n % 2 ^ lo := by
    rw [hb, Nat.div_add_mod, Nat.div_add_mod]
  have hnew : n - bitsOf n hi lo * 2 ^ lo + v % 2 ^ w * 2 ^ lo =
      2 ^ lo * (2 ^ w * (n / 2 ^ lo / 2 ^ w) + v % 2 ^ w) + n % 2 ^ lo := by
    have h := hsplit
    rw [Nat.mul_add] at h
    rw [Nat.mul_add, Nat.mul_comm (v % 2 ^ w), Nat.mul_comm (bitsOf n hi lo)]
    omega
  rw [hnew, Nat.testBit_two_pow_mul_add _ (Nat.mod_lt _ (Nat.two_pow_pos lo)),
    Nat.testBit_two_pow_mul_add _ (Nat.mod_lt _ (Nat.two_pow_pos w)), Nat.testBit_mod_two_pow, Nat.testBit_mod_two_pow]
  by_cases h1 : i < lo
  · simp [h1, Nat.not_le.2 h1]
  · by_cases h2 : i - lo < w
    · simp [h1, h2, Nat.le_of_not_lt h1]
    · have e : i - lo - w + w + lo = i := by omega
      simp [h1, h2, Nat.testBit_div_two_pow, e]

/-- A header with field `[hi:lo]` replaced, bit by bit. -/
theorem testBit_hdrPut (h : BitVec 64) (hi lo v i : Nat) (hh : hi < 64) :
    (hdrPut h hi lo v).toNat.testBit i =
      if lo ≤ i ∧ i - lo < hi + 1 - lo then v.testBit (i - lo) else h.toNat.testBit i := by
  simp only [hdrPut, BitVec.toNat_ofNat, Nat.testBit_mod_two_pow, testBit_replaceField]
  by_cases hi' : i < 64
  · simp [hi']
  · have h64 : h.toNat.testBit i = false :=
      Nat.testBit_lt_two_pow (lt_of_lt_of_le h.isLt (Nat.pow_le_pow_right (by decide) (by omega)))
    have hn : ¬(lo ≤ i ∧ i - lo < hi + 1 - lo) := by omega
    simp [hi', hn, h64]

/-- The field that was written, or its low bits. -/
theorem bitsOf_hdrPut_same (h : BitVec 64) (hi lo v k : Nat) (hh : hi < 64) (hk : k ≤ hi) :
    bitsOf (hdrPut h hi lo v).toNat k lo = v % 2 ^ (k + 1 - lo) := by
  apply Nat.eq_of_testBit_eq
  intro i
  rw [testBit_bitsOf, testBit_hdrPut h hi lo v _ hh, Nat.testBit_mod_two_pow]
  by_cases hi' : i < k + 1 - lo
  · rw [if_pos (by omega)]
    simp [hi']
  · simp [hi']

/-- A field apart from the one that was written. -/
theorem bitsOf_hdrPut_ne (h : BitVec 64) (hi lo v hi' lo' : Nat) (hh : hi < 64) (hd : hi' < lo ∨ hi < lo') :
    bitsOf (hdrPut h hi lo v).toNat hi' lo' = bitsOf h.toNat hi' lo' := by
  apply Nat.eq_of_testBit_eq
  intro i
  rw [testBit_bitsOf, testBit_bitsOf, testBit_hdrPut h hi lo v _ hh]
  by_cases hi' : i < hi' + 1 - lo'
  · rw [if_neg (by omega)]
  · simp [hi']

/-- A bit apart from the field that was written. -/
theorem getLsbD_hdrPut_ne (h : BitVec 64) (hi lo v i : Nat) (hh : hi < 64) (hd : i < lo ∨ hi < i) :
    (hdrPut h hi lo v).getLsbD i = h.getLsbD i := by
  simp only [BitVec.getLsbD, testBit_hdrPut h hi lo v i hh]
  rw [if_neg (by omega)]

/-- A bit of the field that was written. -/
theorem getLsbD_hdrPut_same (h : BitVec 64) (hi lo v i : Nat) (hh : hi < 64) (h1 : lo ≤ i) (h2 : i ≤ hi) :
    (hdrPut h hi lo v).getLsbD i = v.testBit (i - lo) := by
  simp only [BitVec.getLsbD, testBit_hdrPut h hi lo v i hh]
  rw [if_pos (by omega)]

/-- A field of a register that was written. -/
theorem bits_putBits_same (w : Word) (hi lo v : Nat) (hh : hi < 32) :
    (putBits w hi lo v).bits hi lo = v % 2 ^ (hi + 1 - lo) := by
  have hmask : 2 ^ (hi + 1 - lo) - 1 + 1 = 2 ^ (hi + 1 - lo) := Nat.sub_add_cancel (Nat.one_le_two_pow)
  apply Nat.eq_of_testBit_eq
  intro i
  simp only [Word.bits, putBits, word, BitVec.toNat_ofNat, hmask, testBit_bitsOf, Nat.testBit_mod_two_pow,
    testBit_replaceField]
  by_cases hi' : i < hi + 1 - lo
  · have hlt : lo + i < 32 := by omega
    simp [hi', hlt]
  · simp [hi']

theorem Packet.tc_lt (pk : Packet) : Packet.tc pk < 4 := Nat.mod_lt _ (by decide)

end Sys2Proof.Machine
end
section
namespace Sys2Proof.Machine

/-- Settles O2: every command's meaning is a next state, one arm of the dispatch after the other. -/
theorem noCommandStops : Obligations.NoCommandStops := by
  intro i s
  cases i <;> exact ⟨_, rfl⟩

end Sys2Proof.Machine
end

section
namespace Sys2Proof.Machine

/-! ## Packets as their NI completes them (Table NC-2) -/

/-- ROUTE, SRC and the number of flits in the header that NI `n` sends. -/
theorem State.packetHdr_fields (s : State) (n dst : Nat) (pk : Packet) (conf : Bool) (hn : n < 64) :
    bitsOf (s.packetHdr n dst pk conf).toNat 37 32 = n ∧
      bitsOf (s.packetHdr n dst pk conf).toNat 29 0 = s.routeFor n dst (Packet.tc pk) % 2 ^ 30 ∧
      bitsOf (s.packetHdr n dst pk conf).toNat 49 48 = bitsOf pk.hdr.toNat 49 48 := by
  unfold State.packetHdr
  cases pk.lay with
  | c => simp (disch := decide) [bitsOf_hdrPut_same, bitsOf_hdrPut_ne, Nat.mod_eq_of_lt hn]
  | d => split_ifs <;> simp (disch := decide) [bitsOf_hdrPut_same, bitsOf_hdrPut_ne, Nat.mod_eq_of_lt hn]

/-- CONF of a TC1 packet of the D-layer is what its regulator says of it. -/
theorem State.packetHdr_conf (s : State) (n dst : Nat) (pk : Packet) (conf : Bool) (hl : pk.lay = .d)
    (hc : Packet.tc pk = 1) : (s.packetHdr n dst pk conf).getLsbD 61 = conf := by
  have hput (h : BitVec 64) : (hdrPut h 63 61 (if conf && Packet.tc pk == 1 then 1 else 0)).getLsbD 61 = conf := by
    rw [getLsbD_hdrPut_same _ _ _ _ _ (by decide) (by decide) (by decide)]
    cases conf <;> simp [hc]
  simp only [State.packetHdr, hl]
  split
  · exact hput _
  · rw [getLsbD_hdrPut_ne _ _ _ _ _ (by decide) (by decide)]
    exact hput _

/-- An answer of an NI to its own unit carries the status and the TAG of the request. -/
theorem State.answerOwn_got (s : State) (n : Nat) (pk : Packet) (st : Nat) (hs : st < 8) :
    ∃ r, ((s.answerOwn n pk st).ni n).got = r :: (s.ni n).got ∧ Packet.status r = st ∧
      Packet.tag r = Packet.tag pk := by
  refine ⟨_, by rw [State.answerOwn, State.setNi_ni_same], ?_⟩
  simp only [Packet.status, Packet.tag, Packet.f]
  cases pk.lay <;> simp (disch := decide) [bitsOf_hdrPut_same, bitsOf_hdrPut_ne, Nat.mod_eq_of_lt hs]

/-! ## Buckets that are filled up to the present cycle (R233) -/

theorem State.refillNow_current (s : State) (n : Nat) (h : (s.ni n).tick = s.nck) : s.refillNow n = s := by
  simp [State.refillNow, h]

theorem State.conforms_current (s : State) (n c : Nat) (hr : s.released = true) (h : (s.ni n).tick = s.nck) :
    s.conforms n c = decide (1500 ≤ (s.ni n).level c) := by
  simp [State.conforms, hr, s.refillNow_current n h]

theorem State.spend_current (s : State) (n c k : Nat) (hr : s.released = true) (h : (s.ni n).tick = s.nck) :
    s.spend n c k = s.setNi n ((s.ni n).setLevel c ((s.ni n).level c - ((k * 1500 : Nat) : Int))) := by
  simp only [State.spend, hr, s.refillNow_current n h, if_true]

@[simp] theorem NI.setLevel_queue (x : NI) (c : Nat) (v : Int) : (x.setLevel c v).queue = x.queue := by
  unfold NI.setLevel; split <;> rfl
@[simp] theorem NI.setLevel_routes (x : NI) (c : Nat) (v : Int) : (x.setLevel c v).routes = x.routes := by
  unfold NI.setLevel; split <;> rfl

/-- A refill by `k` cycles refills each of the four buckets and leaves the rest of the NI. -/
theorem State.refillBy_level (s : State) (n k c : Nat) (hc : c < 4) :
    ((s.refillBy n k).ni n).level c = Machine.refill (s.reg (Reg.niTb n c)) ((s.ni n).level c) k := by
  rw [State.refillBy, State.setNi_ni_same]
  match c, hc with
  | 0, _ | 1, _ | 2, _ | 3, _ => rfl

/-! ## An NI at which no packet waits -/

theorem State.ncks_idle (s : State) (n j : Nat) (hq : (s.ni n).queue = []) :
    State.ncks n j s = if j = 0 then s else s.refillBy n j := by
  cases j <;> simp [State.ncks, hq]

/-- The cycles that INJECT tells of pass without an injection: the buckets fill, and nothing but the NI changes
(log 61). -/
theorem State.elapse_idle (s : State) (n k : Nat) (hq : (s.ni n).queue = []) :
    (∃ l, s.elapse n k = { s with noc.nis := l }) ∧ ((s.elapse n k).ni n).queue = [] ∧
      ((s.elapse n k).ni n).got = (s.ni n).got ∧ ((s.elapse n k).ni n).routes = (s.ni n).routes ∧
      ((s.elapse n k).ni n).tick = s.nck ∧
      ∀ c, c < 4 → ((s.elapse n k).ni n).level c = if k - (s.ni n).since = 0 then (s.ni n).level c else
        Machine.refill (s.reg (Reg.niTb n c)) ((s.ni n).level c) (k - (s.ni n).since) := by
  unfold State.elapse
  rw [State.ncks_idle _ _ _ (by rw [State.setNi_ni_same]; exact hq)]
  by_cases hj : k - (s.ni n).since = 0
  · rw [if_pos hj, State.setNi_ni_same]
    exact ⟨⟨_, rfl⟩, hq, rfl, rfl, rfl, fun _ _ => (if_pos hj).symm⟩
  · rw [if_neg hj]
    refine ⟨⟨_, rfl⟩, ?_, ?_, ?_, ?_, fun c hc => ?_⟩
    · simp [State.refillBy, hq]
    · simp [State.refillBy]
    · simp [State.refillBy]
    · simp [State.refillBy]
    · rw [State.refillBy_level _ _ _ _ hc, State.setNi_ni_same, if_neg hj]
      rfl

/-- What INJECT does with a packet that its layer carries, once its cycles have passed (R16, R236). -/
theorem inject_carried (n dst k : Nat) (pk : Packet) (s : State) (hc : carries pk.lay (Packet.tc pk) = true)
    (hb : pk.body.length = Packet.flits pk) (hk : Packet.kind pk ≠ .internal) :
    inject n dst pk k s =
      if (s.elapse n k).niFenced n && Packet.kind pk = .request then (s.elapse n k).answerOwn n pk 2
      else if Packet.unaddressed pk then
        (if Packet.kind pk = .request then (s.elapse n k).answerOwn n pk 1 else s.elapse n k)
      else (s.elapse n k).send n dst pk := by
  simp [inject, hc, hb, hk]

/-- The regulator of an NI in a released device, at a router that is not quiescing and has room (R233). -/
theorem State.mayLaunch_current (s : State) (n : Nat) (pk : Packet) (hr : s.released = true)
    (ht : (s.ni n).tick = s.nck) (hq : s.regB (rtStat pk.lay (n / 2)) 0 = false)
    (hroom : s.room pk.lay (Packet.tc pk) (n / 2) (4 + n % 2) (Packet.flits pk) = true) :
    s.mayLaunch n pk = if 1500 ≤ (s.ni n).level (Packet.tc pk) then some true
      else if Packet.tc pk = 1 ∧ s.regB (Reg.niTb n 1) 11 then some false else none := by
  simp [State.mayLaunch, hq, hroom, s.conforms_current n _ hr ht]

/-- The NI with a packet that waits alone. -/
def State.soleAt (s : State) (n dst : Nat) (pk : Packet) : State := s.setNi n { s.ni n with queue := [(dst, pk)] }

/-- A packet that the regulator holds waits at the NI. -/
theorem State.send_held (s : State) (n dst : Nat) (pk : Packet) (hq : (s.ni n).queue = [])
    (hm : (s.soleAt n dst pk).mayLaunch n pk = none) :
    s.send n dst pk = (s.soleAt n dst pk).setNi n { s.ni n with queue := [(dst, pk)] } := by
  have hs : s.send n dst pk = (s.soleAt n dst pk).pump n := by simp [State.send, State.soleAt, hq]
  have hn : (s.soleAt n dst pk).ni n = { s.ni n with queue := [(dst, pk)] } := State.setNi_ni_same _ _ _
  rw [hs, State.pump, hn]
  simp [State.pumpList, hm, hn]

/-- A packet that the regulator lets go is launched, and none waits. -/
theorem State.send_launched (s : State) (n dst : Nat) (pk : Packet) (conf : Bool) (hq : (s.ni n).queue = [])
    (hm : (s.soleAt n dst pk).mayLaunch n pk = some conf) :
    ∃ u, u = (if conf then (s.soleAt n dst pk).spend n (Packet.tc pk) (Packet.flits pk)
        else s.soleAt n dst pk).launch n dst pk conf ∧ s.send n dst pk = u.setNi n { u.ni n with queue := [] } := by
  have hs : s.send n dst pk = (s.soleAt n dst pk).pump n := by simp [State.send, State.soleAt, hq]
  have hn : (s.soleAt n dst pk).ni n = { s.ni n with queue := [(dst, pk)] } := State.setNi_ni_same _ _ _
  refine ⟨_, rfl, ?_⟩
  rw [hs, State.pump, hn]
  simp [State.pumpList, hm]

/-! ## A packet enters the network -/

/-- `t` is `s` but for the network and the registers of the NIs and routers, which stand from 0x120000 on (Table SC-6). -/
def State.nocOnly (s t : State) : Prop :=
  t = { s with noc := t.noc, regs := t.regs } ∧ ∀ a, a < 0x120000 → t.reg a = s.reg a

theorem State.nocOnly_refl (s : State) : s.nocOnly s := ⟨rfl, fun _ _ => rfl⟩

theorem State.nocOnly.trans {s t u : State} (h : s.nocOnly t) (g : t.nocOnly u) : s.nocOnly u := by
  obtain ⟨h1, h2⟩ := h
  obtain ⟨g1, g2⟩ := g
  exact ⟨g1.trans (by rw [h1]), fun a ha => (g2 a ha).trans (h2 a ha)⟩

/-- The same, and the network itself is as it was. -/
def State.nocRegsOnly (s t : State) : Prop := s.nocOnly t ∧ t.noc = s.noc

theorem State.nocRegsOnly_refl (s : State) : s.nocRegsOnly s := ⟨s.nocOnly_refl, rfl⟩

theorem State.nocRegsOnly.trans {s t u : State} (h : s.nocRegsOnly t) (g : t.nocRegsOnly u) : s.nocRegsOnly u :=
  ⟨h.1.trans g.1, g.2.trans h.2⟩

theorem State.nocRegsOnly.eq {s t : State} (h : s.nocRegsOnly t) : t = { s with regs := t.regs } :=
  h.1.1.trans (by rw [h.2])

theorem State.nocRegsOnly.setReg {s t : State} (h : s.nocRegsOnly t) (a : Nat) (v : Word) (ha : 0x120000 ≤ a) :
    s.nocRegsOnly (t.setReg a v) :=
  h.trans ⟨⟨rfl, fun _ hj => State.setReg_reg_ne _ _ _ _ (by omega)⟩, rfl⟩

theorem State.nocRegsOnly.bump {s t : State} (h : s.nocRegsOnly t) (a k : Nat) (ha : 0x120000 ≤ a) :
    s.nocRegsOnly (t.bump a k) := h.setReg _ _ ha

theorem State.nocRegsOnly.bump64 {s t : State} (h : s.nocRegsOnly t) (lo hi k : Nat) (hl : 0x120000 ≤ lo)
    (hh : 0x120000 ≤ hi) : s.nocRegsOnly (t.bump64 lo hi k) := (h.setReg _ _ hl).setReg _ _ hh

/-- Counting a packet changes nothing but the statistics of its NI (R235). -/
theorem State.statSent_only (s : State) (n tc b : Nat) : s.nocRegsOnly (s.statSent n tc b) := by
  unfold State.statSent
  simp only []
  split
  · exact s.nocRegsOnly_refl
  · exact (s.nocRegsOnly_refl.bump _ _ (by simp only [Reg.niSpkts]; omega)).bump64 _ _ _
      (by simp only [Reg.niSbytesLo]; omega) (by simp only [Reg.niSbytesHi]; omega)

/-- A route is looked up in the table of its NI and in what is known of its words. -/
theorem State.routeFor_congr (s t : State) (n d c : Nat) (hr : (t.ni n).routes = (s.ni n).routes) (hi : t.int = s.int) :
    t.routeFor n d c = s.routeFor n d c := by
  have hw (a : Nat) : t.wordFails 10 a = s.wordFails 10 a := by
    unfold State.wordFails State.wordEcc
    rw [hi]
  have he (e : Nat) : t.routeEntry n e = s.routeEntry n e := by simp only [State.routeEntry, hw, hr]
  simp only [State.routeFor, he]

/-- The packet as `launch` puts it into the network. -/
def State.flightOf (s : State) (n dst : Nat) (pk : Packet) (conf : Bool) : Flight where
  no := s.noc.count
  pk := { pk with hdr := s.packetHdr n dst pk conf }
  flits := (List.range (Packet.flits { pk with hdr := s.packetHdr n dst pk conf })).map (fun i =>
    { hdr := s.packetHdr n dst pk conf, at_ := .router (n / 2) (4 + n % 2), seq := s.noc.count + i })

/-- A launch adds the packet behind the others of the network; it takes no tokens and leaves the memories. -/
theorem State.launch_adds (s : State) (n dst : Nat) (pk : Packet) (conf : Bool) :
    (s.launch n dst pk conf).noc.flights = s.noc.flights ++ [s.flightOf n dst pk conf] ∧
      (∀ c, ((s.launch n dst pk conf).ni n).level c = (s.ni n).level c) ∧ (s.launch n dst pk conf).mem = s.mem := by
  have hs (c b : Nat) := (s.statSent_only n c b).eq
  unfold State.launch
  simp only []
  rw [hs]
  split
  · exact ⟨rfl, fun c => by rw [State.ni, State.setNi, SMap.get_set_same]; rfl, rfl⟩
  · exact ⟨rfl, fun _ => rfl, rfl⟩

/-- A launched packet has all its flits in the local input of the NI's router, the NI as SRC and the route of its table
(R225, R229). -/
theorem State.flightOf_fields (s : State) (n dst : Nat) (pk : Packet) (conf : Bool) (hn : n < 64) :
    (s.flightOf n dst pk conf).flits.map Flit.at_ =
        List.replicate (Packet.flits pk) (.router (n / 2) (4 + n % 2)) ∧
      Packet.src (s.flightOf n dst pk conf).pk = n ∧
      Packet.route (s.flightOf n dst pk conf).pk = s.routeFor n dst (Packet.tc pk) % 2 ^ 30 := by
  obtain ⟨hsrc, hroute, hflits⟩ := s.packetHdr_fields n dst pk conf hn
  have hsame : Packet.flits { pk with hdr := s.packetHdr n dst pk conf } = Packet.flits pk := by
    simp only [Packet.flits, Packet.f, hflits]
  refine ⟨?_, hsrc, hroute⟩
  simp only [State.flightOf, hsame, List.map_map]
  exact List.eq_replicate_iff.2 ⟨by simp, by simp⟩

/-- A TC1 packet is launched as its regulator has classified it. -/
theorem State.flightOf_conf (s : State) (n dst : Nat) (pk : Packet) (conf : Bool)
    (hc : carries pk.lay (Packet.tc pk) = true) (h1 : Packet.tc pk = 1) :
    Packet.conf (s.flightOf n dst pk conf).pk = conf := by
  refine s.packetHdr_conf n dst pk conf ?_ h1
  cases hl : pk.lay with
  | c => simp [hl, h1, carries] at hc
  | d => rfl

/-! ## What becomes of a packet that its unit gives an NI at which none waits -/

/-- From `s` to `t` packet `pk` has entered the network at NI `n`, behind the others, and none waits at the NI. -/
def State.enters (s t : State) (n dst : Nat) (pk : Packet) (conf : Bool) : Prop :=
  ∃ f, t.noc.flights = s.noc.flights ++ [f] ∧
    f.flits.map Flit.at_ = List.replicate (Packet.flits pk) (.router (n / 2) (4 + n % 2)) ∧ Packet.src f.pk = n ∧
    Packet.route f.pk = s.routeFor n dst (Packet.tc pk) % 2 ^ 30 ∧ f.pk.body = pk.body ∧ f.pk.lay = pk.lay ∧
    (Packet.tc pk = 1 → Packet.conf f.pk = conf) ∧ (t.ni n).queue = []

/-- A launch from a state that differs from `s` at its NI alone, not in the routes there, enters the packet. -/
theorem State.launch_enters (s v : State) (n dst : Nat) (pk : Packet) (conf : Bool) (hn : n < 64)
    (hc : carries pk.lay (Packet.tc pk) = true) (hf : v.noc.flights = s.noc.flights)
    (hr : (v.ni n).routes = (s.ni n).routes) (hi : v.int = s.int) :
    s.enters ((v.launch n dst pk conf).setNi n { (v.launch n dst pk conf).ni n with queue := [] }) n dst pk conf := by
  obtain ⟨hadd, -, -⟩ := v.launch_adds n dst pk conf
  obtain ⟨hat, hsrc, hroute⟩ := v.flightOf_fields n dst pk conf hn
  refine ⟨v.flightOf n dst pk conf, ?_, hat, hsrc, ?_, rfl, rfl, v.flightOf_conf n dst pk conf hc, ?_⟩
  · exact hadd.trans (by rw [hf])
  · rw [hroute, State.routeFor_congr s v n dst _ hr hi]
  · rw [State.setNi_ni_same]

/-- With a flit of tokens the packet enters as conforming, and its flits are taken from the bucket (R233). -/
theorem State.send_conforming (s : State) (n dst : Nat) (pk : Packet) (hn : n < 64)
    (hc : carries pk.lay (Packet.tc pk) = true) (hq : (s.ni n).queue = []) (hr : s.released = true)
    (ht : (s.ni n).tick = s.nck) (hm : (s.soleAt n dst pk).mayLaunch n pk = some true) :
    s.enters (s.send n dst pk) n dst pk true ∧ ((s.send n dst pk).ni n).level (Packet.tc pk) =
      (s.ni n).level (Packet.tc pk) - ((Packet.flits pk * 1500 : Nat) : Int) ∧ (s.send n dst pk).mem = s.mem := by
  have hsole : (s.soleAt n dst pk).ni n = { s.ni n with queue := [(dst, pk)] } := State.setNi_ni_same _ _ _
  have hspend := (s.soleAt n dst pk).spend_current n (Packet.tc pk) (Packet.flits pk) hr (by rw [hsole]; exact ht)
  obtain ⟨u, hu, hsend⟩ := s.send_launched n dst pk true hq hm
  rw [if_pos rfl, hspend, hsole] at hu
  obtain ⟨-, hlev, hmem⟩ := State.launch_adds ((s.soleAt n dst pk).setNi n
    (({ s.ni n with queue := [(dst, pk)] } : NI).setLevel (Packet.tc pk)
      ((s.ni n).level (Packet.tc pk) - ((Packet.flits pk * 1500 : Nat) : Int)))) n dst pk true
  rw [hsend, hu]
  refine ⟨State.launch_enters s _ n dst pk true hn hc rfl ?_ rfl, ?_, hmem⟩
  · rw [State.setNi_ni_same, NI.setLevel_routes]
  · rw [State.setNi_ni_same]
    exact (hlev _).trans (by rw [State.setNi_ni_same, NI.level_setLevel])

/-- A TC1 packet without tokens enters as not conforming where its bucket marks, and takes none (R233). -/
theorem State.send_marked (s : State) (n dst : Nat) (pk : Packet) (hn : n < 64)
    (hc : carries pk.lay (Packet.tc pk) = true) (hq : (s.ni n).queue = [])
    (hm : (s.soleAt n dst pk).mayLaunch n pk = some false) :
    s.enters (s.send n dst pk) n dst pk false ∧
      ((s.send n dst pk).ni n).level (Packet.tc pk) = (s.ni n).level (Packet.tc pk) ∧ (s.send n dst pk).mem = s.mem := by
  have hsole : (s.soleAt n dst pk).ni n = { s.ni n with queue := [(dst, pk)] } := State.setNi_ni_same _ _ _
  obtain ⟨u, hu, hsend⟩ := s.send_launched n dst pk false hq hm
  rw [if_neg (by decide)] at hu
  obtain ⟨-, hlev, hmem⟩ := (s.soleAt n dst pk).launch_adds n dst pk false
  rw [hsend, hu]
  refine ⟨State.launch_enters s _ n dst pk false hn hc rfl (by rw [hsole]) rfl, ?_, hmem⟩
  rw [State.setNi_ni_same]
  exact (hlev _).trans (by rw [hsole]; rfl)

end Sys2Proof.Machine
end

section
namespace Sys2Proof.Machine

theorem exec_inject (n dst : Fin 48) (pk : Packet) (k : Nat) (s : State) :
    exec (.inject n dst pk k) s = .next (inject n.val dst.val pk k s) := rfl

/-- Settles O34: the cycles pass without an injection, and then the NI answers, launches or holds the packet. -/
theorem injection : Obligations.Injection := by
  intro n dst pk k s hc hb hk hq c j l answered entered
  obtain ⟨⟨nis, he⟩, heq, hgot, hroutes, htick, hlev⟩ := s.elapse_idle n.val k hq
  obtain ⟨e, hdef⟩ : ∃ e, s.elapse n.val k = e := ⟨_, rfl⟩
  have hinj := inject_carried n.val dst.val k pk s hc hb hk
  rw [hdef] at he heq hgot hroutes htick hlev hinj
  have hl : (e.ni n.val).level c = l := hlev c (Packet.tc_lt pk)
  have hfen : e.niFenced n.val = s.niFenced n.val := by rw [he]; rfl
  have hfl : e.noc.flights = s.noc.flights := by rw [he]
  have hregs : e.regs = s.regs := by rw [he]
  have hmem : e.mem = s.mem := by rw [he]
  have hans (st : Nat) (hst : st < 8) : answered (e.answerOwn n.val pk st) st := by
    obtain ⟨r, hr, hs, htag⟩ := e.answerOwn_got n.val pk st hst
    exact ⟨r, by rw [hr, hgot], hs, htag, hfl, hregs⟩
  have hent (t : State) (conf : Bool) (h : e.enters t n.val dst.val pk conf) : entered t conf := by
    obtain ⟨f, hadd, hat, hsrc, hroute, hbody, hlay, hconf, hempty⟩ := h
    exact ⟨f, by rw [hadd, hfl], hat, hsrc,
      by rw [hroute, State.routeFor_congr s e _ _ _ hroutes (by rw [he])], hbody, hlay, hconf, hempty⟩
  refine ⟨fun hf hreq => ⟨_, ?_, hans 2 (by decide)⟩, fun hf hun hreq => ⟨_, ?_, hans 1 (by decide)⟩,
    fun hr hf hun hqu hroom => ?_⟩
  · rw [exec_inject, hinj, hfen]
    simp [hf, hreq]
  · rw [exec_inject, hinj, hfen]
    simp [hf, hreq, hun]
  · have hsend : exec (.inject n dst pk k) s = .next (e.send n.val dst.val pk) := by
      rw [exec_inject, hinj, hfen]
      simp [hf, hun]
    have hsole : (e.soleAt n.val dst.val pk).ni n.val = { e.ni n.val with queue := [(dst.val, pk)] } :=
      State.setNi_ni_same _ _ _
    have hfull : (e.ni n.val).tick = e.nck := by rw [htick, he]; rfl
    have hrel : e.released = true := by rw [he]; exact hr
    have hlaunch : (e.soleAt n.val dst.val pk).mayLaunch n.val pk = if 1500 ≤ l then some true
        else if c = 1 ∧ s.regB (Reg.niTb n.val 1) 11 then some false else none := by
      rw [(e.soleAt n.val dst.val pk).mayLaunch_current n.val pk hrel (by rw [hsole]; exact hfull)
        (by rw [he]; exact hqu) (by rw [he]; exact hroom), hsole, ← hl, he]
      rfl
    refine ⟨fun h => ?_, fun h h1 hmark => ?_, fun h hmark => ?_⟩
    · rw [if_pos h] at hlaunch
      obtain ⟨hin, hlevel, hm⟩ := e.send_conforming n.val dst.val pk (by omega) hc heq hrel hfull hlaunch
      exact ⟨_, hsend, hent _ _ hin, by rw [← hl]; exact hlevel, hm.trans hmem⟩
    · rw [if_neg (by omega), if_pos ⟨h1, hmark⟩] at hlaunch
      obtain ⟨hin, hlevel, hm⟩ := e.send_marked n.val dst.val pk (by omega) hc heq hlaunch
      exact ⟨_, hsend, hent _ _ hin, by rw [← hl]; exact hlevel, hm.trans hmem⟩
    · rw [if_neg (by omega), if_neg (by simpa using hmark)] at hlaunch
      rw [e.send_held n.val dst.val pk heq hlaunch] at hsend
      refine ⟨_, hsend, hfl, hregs, ?_, ?_⟩
      · rw [State.setNi_ni_same]
      · rw [State.setNi_ni_same]
        exact hl

end Sys2Proof.Machine
end

section
namespace Sys2Proof

/-! ## Sparse maps -/

/-- What holds of every value of a sparse map and of its default holds of what a read answers. -/
theorem SMap.get_of_all {α : Type} (P : α → Prop) (m : SMap α) (k : Nat) (d : α) (hd : P d) (h : ∀ p ∈ m, P p.2) :
    P (m.get k d) := by
  induction m with
  | nil => exact hd
  | cons p r ih =>
    obtain ⟨j, v⟩ := p
    rw [SMap.get]
    split
    · exact h (j, v) (List.mem_cons_self ..)
    · exact ih (fun q hq => h q (List.mem_cons_of_mem _ hq))

/-- Every value of a map after a write is the one written or one of before. -/
theorem SMap.all_set {α : Type} [DecidableEq α] (P : α → Prop) (m : SMap α) (k : Nat) (v d : α) (hv : P v)
    (h : ∀ p ∈ m, P p.2) : ∀ p ∈ SMap.set m k v d, P p.2 := by
  have hput : ∀ l : SMap α, (∀ p ∈ l, P p.2) → ∀ p ∈ SMap.put l k v, P p.2 := by
    intro l hl
    induction l with
    | nil => simpa [SMap.put] using hv
    | cons q r ih =>
      obtain ⟨j, w⟩ := q
      simp only [List.forall_mem_cons] at hl
      rw [SMap.put]
      split_ifs <;> simp only [List.forall_mem_cons]
      · exact ⟨hv, hl⟩
      · exact ⟨hv, hl.2⟩
      · exact ⟨hl.1, ih hl.2⟩
  have hdrop : ∀ l : SMap α, (∀ p ∈ l, P p.2) → ∀ p ∈ SMap.drop l k, P p.2 := by
    intro l hl
    induction l with
    | nil => exact hl
    | cons q r ih =>
      obtain ⟨j, w⟩ := q
      simp only [List.forall_mem_cons] at hl
      rw [SMap.drop]
      split_ifs
      · exact ih hl.2
      · exact List.forall_mem_cons.2 ⟨hl.1, ih hl.2⟩
  unfold SMap.set
  split
  · exact hdrop m h
  · exact hput m h

/-- The later of two insertions at a key stands. -/
theorem SMap.put_put {α : Type} (m : SMap α) (k : Nat) (v w : α) : (SMap.put (SMap.put m k v) k w) = SMap.put m k w := by
  induction m with
  | nil => simp [SMap.put]
  | cons p r ih =>
    obtain ⟨j, x⟩ := p
    by_cases h1 : k < j
    · simp [SMap.put, h1]
    · by_cases h2 : k = j
      · simp [SMap.put, h2]
      · simp [SMap.put, h1, h2, ih]

end Sys2Proof
end

section
namespace Sys2Proof.Machine

/-! ## States with nothing on their way (log 7) -/

/-- An idle window. -/
def Win.idle (x : Win) : Prop := x.issued = [] ∧ x.wait = []

theorem State.quiet_iff (s : State) : s.quiet = true ↔ s.answers = [] ∧ s.mgt.msp.wait = [] ∧ s.mgt.jtag.wait = [] ∧
    s.sec.reqs = [] ∧ ∀ p ∈ s.mgt.wins, p.2.idle := by
  simp [State.quiet, Win.idle, and_assoc]

theorem State.win_idle (s : State) (k : Nat) (h : ∀ p ∈ s.mgt.wins, p.2.idle) : (s.win k).idle :=
  SMap.get_of_all Win.idle _ _ _ ⟨rfl, rfl⟩ h

/-- An idle window has nothing to issue or to complete. -/
theorem State.winRun_idle (s : State) (k : Nat) (h : (s.win k).idle) : s.winRun k = s := by
  obtain ⟨hi, hw⟩ := h
  simp [State.winRun, Win.fuel, State.winPump, hi, hw]

theorem State.winAll_idle (s : State) (h : ∀ p ∈ s.mgt.wins, p.2.idle) : s.winAll = s :=
  List.foldl_fixed' (fun k => s.winRun_idle k (s.win_idle k h)) _

theorem State.hostNext_none (s : State) (j : Bool) (h : (s.host j).wait = []) : s.hostNext j = none := by
  simp [State.hostNext, h]

theorem State.settleN_quiet (s : State) (n : Nat) (h : s.quiet = true) : s.settleN n = s := by
  obtain ⟨ha, hm, hj, hr, -⟩ := s.quiet_iff.1 h
  have hp : s.ibPick = none := by simp [State.ibPick, hr]
  cases n with
  | zero => rfl
  | succ n => simp [State.settleN, ha, s.hostNext_none false hm, s.hostNext_none true hj, hp]

/-- A response that is alone on its way reaches who waits for it; `r` is the state without it. -/
theorem State.settle_answer (s r : State) (w : Asker) (st : Nat) (v : Word) (ha : s.answers = [(w, st, v)])
    (hr : r = { s with answers := [] }) (hq : r.quiet = true)
    (ht : ((r.asked w st).deliverAnswer w st v).quiet = true) : s.settle = (r.asked w st).deliverAnswer w st v := by
  obtain ⟨-, -, -, -, hw⟩ := r.quiet_iff.1 hq
  have hn : s.quiet = false := by simp [State.quiet, ha]
  have hall : s.winAll = s := s.winAll_idle (by rw [hr] at hw; exact hw)
  have hstep : s.settleN 1024 = ((r.asked w st).deliverAnswer w st v).settleN 1023 := by
    rw [hr, State.settleN, ha]
  rw [State.settle, hn, if_neg (by decide), hall, hstep, State.settleN_quiet _ _ ht]

/-! ## What the traffic of an NI changes (R233, R235) -/

theorem State.nocOnly.setNoc {s t : State} (h : s.nocOnly t) (x : Noc) : s.nocOnly { t with noc := x } := by
  obtain ⟨h1, h2⟩ := h
  exact ⟨by rw [h1], h2⟩

/-- Measuring a response changes nothing but the statistics of its NI (R235). -/
theorem State.statLatency_only (s : State) (n tc t : Nat) (b : Bool) : s.nocRegsOnly (s.statLatency n tc t b) := by
  have hist (m : Nat) : 0x120000 ≤ Reg.niShist n m := by simp only [Reg.niShist]; omega
  unfold State.statLatency
  simp only []
  split_ifs
  · exact s.nocRegsOnly_refl
  · exact s.nocRegsOnly_refl.bump _ _ (hist _)
  · refine State.nocRegsOnly.bump (State.nocRegsOnly.bump (State.nocRegsOnly.bump64 (State.nocRegsOnly.setReg
      (s.nocRegsOnly_refl.setReg _ _ ?_) _ _ ?_) _ _ _ ?_ ?_) _ _ ?_) _ _ (hist _)
    · simp only [Reg.niSlmin]; omega
    · simp only [Reg.niSlmax]; omega
    · simp only [Reg.niSlsumLo]; omega
    · simp only [Reg.niSlsumHi]; omega
    · simp only [Reg.niSlcnt]; omega

theorem State.asked_only (s : State) (w : Asker) (st : Nat) : s.nocOnly (s.asked w st) := by
  unfold State.asked
  split
  · exact s.nocOnly_refl
  · exact (s.nocOnly_refl.setNoc _).trans (State.statLatency_only _ _ _ _ _).1

theorem State.wordSent_only (s : State) (n c : Nat) : s.nocOnly (s.wordSent n c) := by
  unfold State.wordSent
  refine State.nocOnly.trans ?_ (State.statSent_only _ _ _ _).1
  split
  · obtain ⟨l, hl⟩ := s.spend_only n c 1
    rw [hl]
    exact s.nocOnly_refl.setNoc _
  · exact s.nocOnly_refl

end Sys2Proof.Machine
end

section
namespace Sys2Proof.Machine

/-! ## Single registers (Table SC-4) -/

/-- A read of a register without RC bits changes nothing. -/
theorem State.rd_plain (s : State) (a : Nat) (h : (regRow a).map RegRow.rc = some 0) : s.rd a = s.ok (s.reg a) := by
  obtain ⟨r, hr, hrc⟩ := Option.map_eq_some_iff.1 h
  simp [State.rd, State.plainRead, hr, hrc]

/-- A read of a register that is all of type RC clears it. -/
theorem State.rd_clears (s : State) (a : Nat) (h : (regRow a).map RegRow.rc = some 0xFFFFFFFF) :
    s.rd a = (s.ok (s.reg a)).setReg a 0#32 := by
  obtain ⟨r, hr, hrc⟩ := Option.map_eq_some_iff.1 h
  simp [State.rd, State.plainRead, hr, hrc, word]

/-- A plain write changes registers alone. -/
theorem State.plainWrite_regs (s : State) (a : Nat) (d : Word) :
    s.plainWrite a d = { s with regs := (s.plainWrite a d).regs } := by
  unfold State.plainWrite
  split <;> rfl

/-- What a register holds after a write depends on what it held alone. -/
theorem State.plainWrite_reg_congr (s t : State) (a : Nat) (d : Word) (h : t.reg a = s.reg a) :
    (t.plainWrite a d).reg a = (s.plainWrite a d).reg a := by
  unfold State.plainWrite
  split
  · exact h
  · simp only [State.setReg_reg_same, h]

/-! ## Accesses of blocks that answer -/

/-- The element and the offset that an address has in an array of registers. -/
theorem arrayAt_place (a base stride n k o : Nat) (h : arrayAt a base stride n = some (k, o)) :
    k < n ∧ a = base + stride * k + o := by
  unfold arrayAt at h
  split at h
  · rename_i hr
    obtain ⟨rfl, rfl⟩ : (a - base) / stride = k ∧ (a - base) % stride = o := by simpa using h
    have := Nat.div_add_mod (a - base) stride
    exact ⟨Nat.div_lt_of_lt_mul (by omega), by omega⟩
  · exact absurd h (by simp)

/-- Outside the window data registers an access goes to the block of its address. -/
theorem State.regAccess_plain (s : State) (w : Asker) (wr : Bool) (a n : Nat) (d : Word)
    (h : ∀ k : Fin 8, a ≠ Reg.mgtWdata k.val) : s.regAccess w wr a n d = s.regAccess0 w wr a n d := by
  unfold State.regAccess
  split
  · rename_i k hk
    obtain ⟨hlt, heq⟩ := arrayAt_place _ _ _ _ _ _ hk
    exact absurd (by rw [heq]; simp only [Reg.mgtWaddrLo, Reg.mgtWdata]; omega) (h ⟨k, hlt⟩)
  · rfl

theorem State.opens_dev (s : State) : s.opens .dev := s.opens_always .dev rfl rfl rfl
theorem State.opens_mgt (s : State) : s.opens .mgt := s.opens_always .mgt rfl rfl rfl

/-- DEV_UNITS reads the units of the variant over every path (Table SC-1). -/
theorem State.regAccess_devUnits (s : State) (w : Asker) (d : Word) :
    s.regAccess w false (word Reg.devUnits).toNat 4 d = s.ok (word (devUnits s.part.variant)) := by
  rw [State.regAccess_plain _ _ _ _ _ _ (by decide),
    State.regAccess0_opens _ _ _ _ _ .dev (by decide) (by decide) s.opens_dev]
  rfl

/-- MGT_TLIM takes its writable bits over every path. -/
theorem State.regAccess_mgtTlim (s : State) (w : Asker) (d : Word) :
    s.regAccess w true (word Reg.mgtTlim).toNat 4 d = (s.plainWrite Reg.mgtTlim d).ok := by
  rw [State.regAccess_plain _ _ _ _ _ _ (by decide),
    State.regAccess0_opens _ _ _ _ _ .mgt (by decide) (by decide) s.opens_mgt]
  rfl

/-- A read of a register of the management block that is neither derived nor typed. -/
theorem State.regAccess_mgt (s : State) (w : Asker) (a : Nat) (d : Word)
    (ha : a ∈ [Reg.mgtStat, Reg.mgtIrq, Reg.mgtIrqen, Reg.mgtTlim, Reg.mgtMcrcerr, Reg.mgtMshort, Reg.mgtIbrx,
      Reg.mgtIbdrop, Reg.mgtSkmiss]) : s.regAccess w false (word a).toNat 4 d = s.rd a := by
  simp only [List.mem_cons, List.not_mem_nil, or_false] at ha
  have hb : a % 4 = 0 ∧ blockOf a = some .mgt ∧ (word a).toNat = a ∧ (∀ k : Fin 8, a ≠ Reg.mgtWdata k.val) ∧
      s.readMgt a = s.rd a := by
    rcases ha with rfl | rfl | rfl | rfl | rfl | rfl | rfl | rfl | rfl <;>
      exact ⟨by decide, by decide, by decide, by decide, rfl⟩
  obtain ⟨h4, hblock, hword, hwin, hread⟩ := hb
  rw [hword, State.regAccess_plain _ _ _ _ _ _ hwin, State.regAccess0_opens _ _ _ _ _ .mgt h4 hblock s.opens_mgt]
  exact hread

/-- One RC counter of each block that has some, beside the management block. -/
def blockCounters : List (Block × Nat) :=
  [(Block.int, Reg.fltLost), (.eas, Reg.easColl), (.pal, Reg.palIssued), (.noc, Reg.nocStray), (.spx, Reg.spxMarkdrop),
    (.shg, Reg.shgHopexc), (.tbl, Reg.tblMiss), (.dis, Reg.disCancelDiscard)]

/-- A read of an RC counter returns it and clears it alone (R17). -/
theorem State.regAccess_counter (s : State) (w : Asker) (b : Block) (a : Nat) (d : Word) (h : (b, a) ∈ blockCounters)
    (ho : s.opens b) : s.regAccess w false (word a).toNat 4 d = (s.ok (s.reg a)).setReg a 0#32 := by
  have hb : a % 4 = 0 ∧ blockOf a = some b ∧ (word a).toNat = a ∧ (∀ k : Fin 8, a ≠ Reg.mgtWdata k.val) ∧
      (regRow a).map RegRow.rc = some 0xFFFFFFFF ∧ s.blockRead b a = s.rd a := by
    simp only [blockCounters, List.mem_cons, List.not_mem_nil, or_false, Prod.mk.injEq] at h
    rcases h with ⟨rfl, rfl⟩ | ⟨rfl, rfl⟩ | ⟨rfl, rfl⟩ | ⟨rfl, rfl⟩ | ⟨rfl, rfl⟩ | ⟨rfl, rfl⟩ | ⟨rfl, rfl⟩ |
      ⟨rfl, rfl⟩ <;>
      exact ⟨by decide, by decide, by decide, by decide, by decide, rfl⟩
  obtain ⟨h4, hblock, hword, hwin, hrc, hread⟩ := hb
  rw [hword, State.regAccess_plain _ _ _ _ _ _ hwin, State.regAccess0_opens _ _ _ _ _ b h4 hblock ho]
  exact hread.trans (s.rd_clears a hrc)

end Sys2Proof.Machine
end

section
namespace Sys2Proof.Machine

/-! ## The management port and MGTACC (R369 to R373, R393) -/

/-- Whether anything is on its way is a matter of the answers, of the ports, of the in-band requests and of the windows. -/
theorem State.quiet_congr (s t : State) (ha : t.answers = s.answers) (hm : t.mgt.msp.wait = s.mgt.msp.wait)
    (hj : t.mgt.jtag.wait = s.mgt.jtag.wait) (hr : t.sec = s.sec) (hw : t.mgt.wins = s.mgt.wins) :
    t.quiet = s.quiet := by
  simp only [State.quiet, ha, hm, hj, hr, hw]

/-- Whether a packet may leave an NI is a matter of the registers, of the NI and of the time (R233). -/
theorem State.conforms_congr (s t : State) (n c : Nat) (hr : t.regs = s.regs) (hn : t.noc = s.noc) (hc : t.cyc = s.cyc) :
    t.conforms n c = s.conforms n c := by
  have hni : t.ni n = s.ni n := by simp only [State.ni, hn]
  have hreg (a : Nat) : t.reg a = s.reg a := by simp only [State.reg, hr]
  have hrel : t.released = s.released := by simp only [State.released, State.regB, hreg]
  have hnck : t.nck = s.nck := by simp only [State.nck, hc]
  have hfill : (t.refillNow n).ni n = (s.refillNow n).ni n := by
    by_cases h : s.nck - (s.ni n).tick = 0
    · simp [State.refillNow, hni, hnck, h]
    · simp [State.refillNow, State.refillBy, hni, hnck, h, hreg]
  simp only [State.conforms, hrel, hfill]

@[simp] theorem State.host_setHost (s : State) (j : Bool) (x : HostPort) : (s.setHost j x).host j = x := by
  cases j <;> rfl

theorem State.quiet_setHost (s : State) (j : Bool) (x : HostPort) (h : x.wait = (s.host j).wait) :
    (s.setHost j x).quiet = s.quiet := by
  cases j
  · exact State.quiet_congr s _ rfl h rfl rfl rfl
  · exact State.quiet_congr s _ rfl rfl h rfl rfl

theorem State.host_wait_quiet (s : State) (j : Bool) (h : s.quiet = true) : (s.host j).wait = [] := by
  obtain ⟨-, hm, hj, -, -⟩ := s.quiet_iff.1 h
  cases j
  · exact hm
  · exact hj

/-- A frame whose CRC is right is performed at once where nothing is on its way and NI 42 does not hold its class. -/
theorem hostFrame_performed (j : Bool) (cmd tag : Byte) (addr d : Word) (s : State) (hq : s.quiet = true)
    (hb : (s.host j).busy = none) (hheld : s.hostHeld cmd.toNat addr.toNat = false) :
    hostFrame j cmd tag addr d (mspCrc ([cmd, tag] ++ leBytes addr.toNat 4 ++ leBytes d.toNat 4)) s =
      s.hostStart j cmd.toNat tag.toNat addr d := by
  simp [hostFrame, hb, s.host_wait_quiet j hq, hheld]

theorem State.nocOnly.mgt {s t : State} (h : s.nocOnly t) : t.mgt = s.mgt := by rw [h.1]
theorem State.nocOnly.part {s t : State} (h : s.nocOnly t) : t.part = s.part := by rw [h.1]
theorem State.nocOnly.resp {s t : State} (h : s.nocOnly t) : t.resp = s.resp := by rw [h.1]

theorem State.nocOnly.answers {s t : State} (h : s.nocOnly t) : t.answers = s.answers := by rw [h.1]
theorem State.nocOnly.sec {s t : State} (h : s.nocOnly t) : t.sec = s.sec := by rw [h.1]

theorem State.nocOnly.quiet {s t : State} (h : s.nocOnly t) : t.quiet = s.quiet := by
  rw [h.1]
  rfl

/-- The traffic of the NIs leaves the other blocks. -/
theorem State.nocOnly.dataSame {s t : State} (h : s.nocOnly t) : s.dataSame t := by
  rw [h.1]
  exact ⟨rfl, rfl, rfl, rfl, rfl, rfl, rfl, rfl, rfl, rfl, rfl⟩

theorem State.answer_host (s : State) (j : Bool) (st : Nat) (v : Word) :
    s.answer (hostAsker j) st v = { s with answers := s.answers ++ [(hostAsker j, st, v)] } := by
  cases j <;> rfl

/-- A response that sets out to a host port, alone, is stored there. -/
theorem State.settle_finish_host (y : State) (j : Bool) (tag : Nat) (v : Word) (hq : y.quiet = true)
    (hb : (y.host j).busy = some tag) (hr : y.resp = { status := 0, data := v }) :
    (y.finish (hostAsker j)).settle = (y.asked (hostAsker j) 0).hostStore j 0 tag v := by
  obtain ⟨ha, -, -, -, -⟩ := y.quiet_iff.1 hq
  have hasked := y.asked_only (hostAsker j) 0
  have hport : (y.asked (hostAsker j) 0).host j = y.host j := by simp only [State.host, hasked.mgt]
  have hdone : (y.asked (hostAsker j) 0).deliverAnswer (hostAsker j) 0 v =
      (y.asked (hostAsker j) 0).hostStore j 0 tag v := by
    have h : (y.asked (hostAsker j) 0).hostDone j 0 v = (y.asked (hostAsker j) 0).hostStore j 0 tag v := by
      simp only [State.hostDone, hport, hb]
    cases j <;> exact h
  have hfin : y.finish (hostAsker j) = { y with answers := [(hostAsker j, 0, v)] } := by
    have hst : y.resp.status = 0 ∧ y.resp.data = v := by rw [hr]; exact ⟨rfl, rfl⟩
    rw [State.finish, hst.1, hst.2, if_neg (by decide), State.answer_host, ha, List.nil_append]
  rw [hfin, State.settle_answer _ y _ _ _ rfl (by rw [← ha]) hq, hdone]
  rw [hdone]
  rw [State.hostStore, State.quiet_setHost]
  · exact hasked.quiet.trans hq
  · rfl

/-- An access that is answered at once, made by one who is answered: its flit leaves the NI, and the time to the answer is
counted as 0 (R233, R235). -/
theorem State.asNi_immediate (s : State) (w : Asker) (tc : Nat) (k : State → State) (hp : ∀ p d, w ≠ .posted p d)
    (hf : ∀ n pk, w ≠ .flight n pk) (h : (k (s.wordSent w.niOf tc)).resp.status ≠ 5) :
    s.asNi w tc k = (k (s.wordSent w.niOf tc)).statLatency w.niOf tc 0 false := by
  cases w with
  | posted p d => exact absurd rfl (hp p d)
  | flight n pk => exact absurd rfl (hf n pk)
  | _ => exact if_neg h

/-- The access of a frame that is answered at once with OK and `v` from state `x`: the port is free again and holds the
response, and but for the traffic of NI 42 everything else is as the access leaves it. -/
theorem State.hostStart_access (s : State) (j : Bool) (cmd tag : Nat) (addr d v : Word) (u x : State)
    (hcmd : cmd = 1 ∨ cmd = 2) (hq : s.quiet = true)
    (hu : u = (s.setHost j { s.host j with busy := some tag, out := [] }).wordSent 42 (regClass 3 addr.toNat))
    (hacc : u.regAccess (hostAsker j) (cmd == 2) addr.toNat 4 d = x.ok v) (hx : x = { u with regs := x.regs }) :
    ∃ q, (x.ok v).nocOnly q ∧ (s.hostStart j cmd tag addr d).settle = q.hostStore j 0 tag v := by
  have hus : (s.setHost j { s.host j with busy := some tag, out := [] }).nocOnly u := by
    rw [hu]; exact State.wordSent_only _ _ _
  obtain ⟨y, hy⟩ : ∃ y, y = (x.ok v).statLatency 42 (regClass 3 addr.toNat) 0 false := ⟨_, rfl⟩
  have hxy : (x.ok v).nocOnly y := by rw [hy]; exact (State.statLatency_only _ _ _ _ _).1
  have hmgt : y.mgt = (s.setHost j { s.host j with busy := some tag, out := [] }).mgt := by
    rw [hxy.mgt, ← hus.mgt, hx]; rfl
  have hstart : s.hostStart j cmd tag addr d = y.finish (hostAsker j) := by
    have hni : (hostAsker j).niOf = 42 := by cases j <;> rfl
    rw [State.hostStart, if_pos hcmd, State.asNi_immediate _ _ _ _ (by cases j <;> simp [hostAsker])
      (by cases j <;> simp [hostAsker]), hni, ← hu, hacc, hy]
    rw [hni, ← hu, hacc]
    exact (show (0 : Nat) ≠ 5 by decide)
  have hquiet : y.quiet = true := by
    have hxu : (x.ok v).quiet = u.quiet := by rw [hx]; rfl
    rw [hxy.quiet, hxu, hus.quiet, State.quiet_setHost]
    · exact hq
    · rfl
  refine ⟨y.asked (hostAsker j) 0, hxy.trans (y.asked_only _ _), ?_⟩
  rw [hstart]
  refine y.settle_finish_host j tag v hquiet ?_ hxy.resp
  have : y.host j = (s.setHost j { s.host j with busy := some tag, out := [] }).host j := by simp only [State.host, hmgt]
  rw [this, State.host_setHost]

theorem State.dataSame.trans {s t u : State} (h : s.dataSame t) (g : t.dataSame u) : s.dataSame u := by
  simp only [State.dataSame] at h g ⊢
  simp [h, g]

theorem State.dataSame_setHost (s : State) (j : Bool) (x : HostPort) : s.dataSame (s.setHost j x) := by
  cases j <;> exact ⟨rfl, rfl, rfl, rfl, rfl, rfl, rfl, rfl, rfl, rfl, rfl⟩

/-- A frame whose access `f` is answered at once with OK and `v`, changing registers alone: the port stores the response;
the access saw the registers outside the network as they were, and the rest is the traffic of NI 42. -/
theorem hostFrame_access (s : State) (j : Bool) (cmd tag : Byte) (addr d v : Word) (f : State → State)
    (hcmd : cmd.toNat = 1 ∨ cmd.toNat = 2) (hq : s.quiet = true) (hb : (s.host j).busy = none)
    (hc : s.conforms 42 (regClass 3 addr.toNat) = true)
    (hacc : ∀ u : State, u.part = s.part → u.regAccess (hostAsker j) (cmd.toNat == 2) addr.toNat 4 d = (f u).ok v)
    (hf : ∀ u : State, f u = { u with regs := (f u).regs }) :
    ∃ u q : State, (∀ a, a < 0x120000 → u.reg a = s.reg a) ∧ (∀ a, a < 0x120000 → q.reg a = (f u).reg a) ∧
      s.dataSame q ∧ q.mgt = (s.setHost j { s.host j with busy := some tag.toNat, out := [] }).mgt ∧
      (hostFrame j cmd tag addr d (mspCrc ([cmd, tag] ++ leBytes addr.toNat 4 ++ leBytes d.toNat 4)) s).settle =
        q.hostStore j 0 tag.toNat v := by
  have hheld : s.hostHeld cmd.toNat addr.toNat = false := by simp [State.hostHeld, hc]
  obtain ⟨u, hu⟩ : ∃ u, u = (s.setHost j { s.host j with busy := some tag.toNat, out := [] }).wordSent 42
    (regClass 3 addr.toNat) := ⟨_, rfl⟩
  have hsu : (s.setHost j { s.host j with busy := some tag.toNat, out := [] }).nocOnly u := by
    rw [hu]; exact State.wordSent_only _ _ _
  have hpart : u.part = s.part := hsu.part.trans (by cases j <;> rfl)
  obtain ⟨q, hxq, hsettle⟩ := s.hostStart_access j cmd.toNat tag.toNat addr d v u (f u) hcmd hq hu (hacc u hpart) (hf u)
  have hfu : u.dataSame ((f u).ok v) ∧ ((f u).ok v).mgt = u.mgt := by
    rw [hf u]
    exact ⟨⟨rfl, rfl, rfl, rfl, rfl, rfl, rfl, rfl, rfl, rfl, rfl⟩, rfl⟩
  refine ⟨u, q, fun a ha => (hsu.2 a ha).trans (by cases j <;> rfl), fun a ha => hxq.2 a ha, ?_, ?_, ?_⟩
  · exact (((s.dataSame_setHost j _).trans hsu.dataSame).trans hfu.1).trans hxq.dataSame
  · rw [hxq.mgt, hfu.2, hsu.mgt]
  · rw [hostFrame_performed j cmd tag addr d s hq hb hheld, hsettle]

/-- DEV_UNITS over the management port and over MGTACC. -/
theorem hostFrame_devUnits (s : State) (j : Bool) (tag : Byte) (d : Word) (hq : s.quiet = true)
    (hb : (s.host j).busy = none) (hc : s.conforms 42 3 = true) :
    ∃ q : State, s.dataSame q ∧ q.mgt = (s.setHost j { s.host j with busy := some tag.toNat, out := [] }).mgt ∧
      (hostFrame j 1#8 tag (word Reg.devUnits) d
        (mspCrc ([1#8, tag] ++ leBytes (word Reg.devUnits).toNat 4 ++ leBytes d.toNat 4)) s).settle =
        q.hostStore j 0 tag.toNat (word (devUnits s.part.variant)) := by
  obtain ⟨-, q, -, -, hsame, hmgt, hsettle⟩ := hostFrame_access s j 1#8 tag (word Reg.devUnits) d
    (word (devUnits s.part.variant)) id (by decide) hq hb hc
    (fun u hu => (u.regAccess_devUnits _ _).trans (by rw [hu]; rfl)) (fun _ => rfl)
  exact ⟨q, hsame, hmgt, hsettle⟩

/-- MGT_TLIM over the management port and over MGTACC. -/
theorem hostFrame_mgtTlim (s : State) (j : Bool) (tag : Byte) (d : Word) (hq : s.quiet = true)
    (hb : (s.host j).busy = none) (hc : s.conforms 42 3 = true) :
    ∃ q : State, s.dataSame q ∧ q.reg Reg.mgtTlim = (s.plainWrite Reg.mgtTlim d).reg Reg.mgtTlim ∧
      (hostFrame j 2#8 tag (word Reg.mgtTlim) d
        (mspCrc ([2#8, tag] ++ leBytes (word Reg.mgtTlim).toNat 4 ++ leBytes d.toNat 4)) s).settle =
        q.hostStore j 0 tag.toNat 0#32 := by
  obtain ⟨u, q, hu, hreg, hsame, -, hsettle⟩ := hostFrame_access s j 2#8 tag (word Reg.mgtTlim) d 0#32
    (fun u => u.plainWrite Reg.mgtTlim d) (by decide) hq hb hc (fun u _ => u.regAccess_mgtTlim _ _)
    (fun u => u.plainWrite_regs _ _)
  refine ⟨q, hsame, ?_, hsettle⟩
  rw [hreg _ (by decide)]
  exact State.plainWrite_reg_congr s u _ _ (hu _ (by decide))

/-! ## Frames that make no access -/

/-- Reports are kept by the collector and change no register. -/
theorem State.report_regs (s : State) (code unit : Nat) : (s.report code unit).regs = s.regs ∧
    (s.report code unit).mgt = s.mgt ∧ (s.report code unit).pwr = s.pwr ∧ (s.report code unit).quiet = s.quiet := by
  unfold State.report State.reportOn State.reportOnce
  split
  · exact ⟨rfl, rfl, rfl, rfl⟩
  · exact ⟨rfl, rfl, rfl, rfl⟩

/-- A counter that counts, and then a bit set in another register (R372). -/
theorem State.bump_orReg (s : State) (a b m i : Nat) (h : a ≠ b) (hm : (word m).bit i = true) :
    s.counts ((s.bump a 1).orReg b m) a 1 ∧ ((s.bump a 1).orReg b m).regB b i = true := by
  constructor
  · rw [State.counts, State.orReg_reg_ne _ _ _ _ h]
    exact s.bump_counts a 1
  · simp only [State.regB, State.orReg_reg_same, Word.bit] at hm ⊢
    simp [hm]

/-- A frame with a wrong CRC is not performed: it is counted and shown, and the stored response stays (R370, R372). -/
theorem hostFrame_badCrc (j : Bool) (cmd tag : Byte) (addr d : Word) (crc : Byte) (s : State) (hq : s.quiet = true)
    (h : crc ≠ mspCrc ([cmd, tag] ++ leBytes addr.toNat 4 ++ leBytes d.toNat 4)) :
    let t := (hostFrame j cmd tag addr d crc s).settle
    t.host j = { s.host j with out := hostBytes 0x10 tag.toNat 0#32 } ∧ s.counts t Reg.mgtMcrcerr 1 ∧
      t.regB Reg.mgtStat 0 = true := by
  obtain ⟨u, hu⟩ : ∃ u, u = ((s.setHost j { s.host j with out := hostBytes 0x10 tag.toNat 0#32 }).bump
    Reg.mgtMcrcerr 1).orReg Reg.mgtStat 1 := ⟨_, rfl⟩
  obtain ⟨hregs, hmgt, -, hquiet⟩ := u.report_regs 0x1C 0x1900
  have hf : hostFrame j cmd tag addr d crc s = u.report 0x1C 0x1900 := by rw [hu]; exact if_pos h
  have huq : u.quiet = true := by
    have h0 : u.quiet = (s.setHost j { s.host j with out := hostBytes 0x10 tag.toNat 0#32 }).quiet := by rw [hu]; rfl
    rw [h0, State.quiet_setHost]
    · exact hq
    · rfl
  have hreg (a : Nat) : (u.report 0x1C 0x1900).reg a = u.reg a := by simp only [State.reg, hregs]
  obtain ⟨hcount, hbit⟩ := (s.setHost j { s.host j with out := hostBytes 0x10 tag.toNat 0#32 }).bump_orReg Reg.mgtMcrcerr
    Reg.mgtStat 1 0 (by decide) (by decide)
  rw [← hu] at hcount hbit
  simp only [hf, State.settle_quiet _ (hquiet.trans huq)]
  refine ⟨?_, ?_, ?_⟩
  · have h0 : u.host j = (s.setHost j { s.host j with out := hostBytes 0x10 tag.toNat 0#32 }).host j := by rw [hu]; rfl
    simp only [State.host, hmgt] at h0 ⊢
    exact h0.trans (State.host_setHost _ _ _)
  · have hs : (s.setHost j { s.host j with out := hostBytes 0x10 tag.toNat 0#32 }).reg Reg.mgtMcrcerr =
        s.reg Reg.mgtMcrcerr := by cases j <;> rfl
    rw [State.counts, hs] at hcount
    rw [State.counts, hreg, hcount]
  · rw [State.regB, hreg]
    exact hbit

/-- Setting a host port without its queue leaves nothing on its way. -/
theorem State.settle_setHost (s : State) (j : Bool) (x : HostPort) (hq : s.quiet = true)
    (h : x.wait = (s.host j).wait) : (s.setHost j x).settle = s.setHost j x :=
  State.settle_quiet _ ((s.quiet_setHost j x h).trans hq)

/-- A frame that is neither RD nor WR is never held. -/
theorem State.hostHeld_other (s : State) (cmd addr : Nat) (h1 : cmd ≠ 1) (h2 : cmd ≠ 2) :
    s.hostHeld cmd addr = false := by
  simp [State.hostHeld, h1, h2]

/-- LAST returns the stored response, or an error where none is stored (R372). -/
theorem hostFrame_last (s : State) (j : Bool) (tag : Byte) (addr d : Word) (hq : s.quiet = true)
    (hb : (s.host j).busy = none) :
    ∃ o, (hostFrame j 4#8 tag addr d (mspCrc ([4#8, tag] ++ leBytes addr.toNat 4 ++ leBytes d.toNat 4)) s).settle =
        s.setHost j { s.host j with out := o } ∧
      (∀ r, (s.host j).stored = some r → o = hostBytes r.status tag.toNat r.data) ∧
      ((s.host j).stored = none → o = hostBytes 1 tag.toNat 0#32) := by
  rw [hostFrame_performed j _ _ _ _ s hq hb (s.hostHeld_other _ _ (by decide) (by decide))]
  cases hst : (s.host j).stored with
  | none =>
    refine ⟨_, ?_, fun r hr => absurd hr (by simp), fun _ => rfl⟩
    simp only [State.hostStart, hst]
    exact s.settle_setHost j _ hq rfl
  | some r =>
    refine ⟨hostBytes r.status tag.toNat r.data, ?_, fun r' hr => ?_, fun hr => absurd hr (by simp)⟩
    · simp only [State.hostStart, hst]
      exact s.settle_setHost j _ hq rfl
    · obtain rfl := Option.some.inj hr
      rfl

/-- AON answers DEV_PRIMER_REASON in every state of the device (R371). -/
theorem hostFrame_aon (s : State) (j : Bool) (tag : Byte) (addr d : Word) (hq : s.quiet = true)
    (hb : (s.host j).busy = none) :
    (hostFrame j 5#8 tag addr d (mspCrc ([5#8, tag] ++ leBytes addr.toNat 4 ++ leBytes d.toNat 4)) s).settle =
      s.hostStore j 0 tag.toNat s.primerReason := by
  rw [hostFrame_performed j _ _ _ _ s hq hb (s.hostHeld_other _ _ (by decide) (by decide))]
  exact s.settle_setHost j _ hq rfl

/-- Another command is answered BADCMD and leaves the stored response (R371). -/
theorem hostFrame_badCmd (s : State) (j : Bool) (cmd tag : Byte) (addr d : Word) (hq : s.quiet = true)
    (hb : (s.host j).busy = none) (h1 : cmd.toNat ≠ 1) (h2 : cmd.toNat ≠ 2)
    (h4 : cmd.toNat ≠ 4) (h5 : cmd.toNat ≠ 5) :
    (hostFrame j cmd tag addr d (mspCrc ([cmd, tag] ++ leBytes addr.toNat 4 ++ leBytes d.toNat 4)) s).settle =
      s.setHost j { s.host j with out := hostBytes 0x11 tag.toNat 0#32 } := by
  rw [hostFrame_performed j _ _ _ _ s hq hb (s.hostHeld_other _ _ h1 h2)]
  have hstart : s.hostStart j cmd.toNat tag.toNat addr d =
      s.setHost j { s.host j with out := hostBytes 0x11 tag.toNat 0#32 } := by
    simp [State.hostStart, h1, h2, h4, h5]
  rw [hstart]
  exact s.settle_setHost j _ hq rfl

/-! ## JTAG (R391, R392) -/

/-- The level at a pin is read without changing more than the count of open values (log 8). -/
theorem State.padLevel_only (s : State) (i : Nat) : ∃ k, (s.padLevel i).2 = { s with free := k } := by
  unfold State.padLevel
  split
  · exact ⟨_, rfl⟩
  · split_ifs
    · exact ⟨_, rfl⟩
    · exact ⟨_, rfl⟩
    · exact ⟨_, rfl⟩

/-- So is the boundary register (log 28). -/
theorem State.boundary_only (s : State) : ∃ k, s.boundary.2 = { s with free := k } := by
  unfold State.boundary
  have h (l : List Nat) (p : Nat × State) (hp : ∃ k, p.2 = { s with free := k }) :
      ∃ k, (l.foldl (fun (p : Nat × State) i =>
        let (b, s) := p.2.padLevel i
        (p.1 + (if b then 2 ^ i else 0), s)) p).2 = { s with free := k } := by
    induction l generalizing p with
    | nil => exact hp
    | cons i r ih =>
      obtain ⟨k, hk⟩ := hp
      obtain ⟨m, hm⟩ := p.2.padLevel_only i
      exact ih _ ⟨m, hm.trans (by rw [hk])⟩
  exact h _ _ ⟨s.free, rfl⟩

/-- An instruction of R392 acts while reset is held or in Primer mode: it is selected and changes no register. -/
theorem State.jtagDrive_acts (s : State) (ir : Nat) (h : s.jtagPins = true) :
    (s.jtagDrive ir).mgt.jir = ir ∧ (s.jtagDrive ir).mgt.bsr = s.mgt.bsr ∧ (s.jtagDrive ir).regs = s.regs := by
  obtain ⟨k, hk⟩ := s.boundary_only
  rw [State.jtagDrive, if_pos h]
  split
  · simp only [hk]
    exact ⟨rfl, rfl, rfl⟩
  · exact ⟨rfl, rfl, rfl⟩

/-- Otherwise it selects BYPASS, and MGT_STAT.JBLK shows it (R392). -/
theorem State.jtagDrive_blocked (s : State) (ir : Nat) (h : s.jtagPins = false) :
    (s.jtagDrive ir).mgt.jir = 0xFF ∧ (s.jtagDrive ir).regB Reg.mgtStat 3 = true ∧ (s.jtagDrive ir).pwr = s.pwr := by
  have hd : s.jtagDrive ir = (((s.jtagIr 0xFF 0).orReg Reg.mgtStat 8).report 0x1F 0x1900) := by simp [State.jtagDrive, h]
  obtain ⟨hregs, hmgt, hpwr, -⟩ := ((s.jtagIr 0xFF 0).orReg Reg.mgtStat 8).report_regs 0x1F 0x1900
  rw [hd, hmgt, hpwr]
  refine ⟨rfl, ?_, rfl⟩
  simp only [State.regB, State.reg, hregs]
  show (((s.jtagIr 0xFF 0).orReg Reg.mgtStat 8).reg Reg.mgtStat).bit 3 = true
  rw [State.orReg_reg_same]
  simp [Word.bit, word]

theorem State.idcodeOf_toNat (s : State) : s.idcodeOf.toNat = s.part.rev % 16 * 268435456 + 0xB064DA7 := by
  simp only [State.idcodeOf, word, BitVec.toNat_ofNat]
  omega

end Sys2Proof.Machine
end

section
namespace Sys2Proof.Machine

/-! ## Windows (R375 to R377) -/

/-- The management block with window `k` set. -/
def Mgmt.putWin (m : Mgmt) (k : Nat) (x : Win) : Mgmt := { m with wins := m.wins.set k x {} }

theorem State.setWin_mgt (s : State) (k : Nat) (x : Win) : (s.setWin k x).mgt = s.mgt.putWin k x := rfl

/-- The later of two writes of a window that has taken an access stands. -/
theorem Mgmt.putWin_putWin (m : Mgmt) (k : Nat) (x y : Win) (hx : x.next ≠ 0) (hy : y.next ≠ 0) :
    (m.putWin k x).putWin k y = m.putWin k y := by
  have hne (z : Win) (hz : z.next ≠ 0) : z ≠ {} := fun h => hz (by rw [h])
  simp only [Mgmt.putWin, SMap.set, if_neg (hne x hx), if_neg (hne y hy), SMap.put_put]

theorem State.win_setWin_same (s : State) (k : Nat) (x : Win) : (s.setWin k x).win k = x := SMap.get_set_same _ _ _ _

theorem State.answer_mgt (s : State) (w : Asker) (st : Nat) (d : Word) : (s.answer w st d).mgt = s.mgt := by
  cases w <;> rfl

theorem State.winPump_issue (s : State) (k n : Nat) (z : WinAcc) (r : List WinAcc) (hi : (s.win k).issued = [])
    (hw : (s.win k).wait = z :: r) (h : s.winReady (s.win k) z = true) :
    s.winPump k (n + 1) = ((s.setWin k { s.win k with wait := r }).winIssue k z).winPump k n := by
  rw [State.winPump]
  simp only [hi, hw, h, if_true]

theorem State.winPump_complete (s : State) (k n st : Nat) (d : Word) (y : WinAcc) (l : List WinAcc)
    (hi : (s.win k).issued = y :: l) (hy : y.res = some (st, d)) :
    s.winPump k (n + 1) = (s.winComplete k y st d).winPump k n := by
  rw [State.winPump, hi]
  simp [hy]

theorem State.winPump_idle (s : State) (k n : Nat) (h : (s.win k).idle) : s.winPump k n = s := by
  obtain ⟨hi, hw⟩ := h
  cases n <;> simp [State.winPump, hi, hw]

/-- A register's global address names the register space. -/
theorem spaceOf_reg (lo : Word) : spaceOf (0x200000000000 + lo.toNat) = .regs := by
  have hlt := lo.isLt
  have hstack : ¬0x200000000000 + lo.toNat < 0x800000000 := by omega
  have htable : ¬0x200000000000 + lo.toNat < 0x81000000000 := by omega
  have htile : ¬0x200000000000 + lo.toNat < tileBase + 0x1000000 := by simp only [tileBase]; omega
  have hcond : ¬0x200000000000 + lo.toNat < 0x110000400000 := by omega
  have hregs : 0x200000000000 + lo.toNat < 0x200100000000 := by omega
  simp [spaceOf, hstack, htable, htile, hcond, hregs]

/-- The access of a register at `lo` that a window takes from `w`, of class TC3. -/
def State.winAcc (s : State) (w : Asker) (k : Nat) (wr : Bool) (d lo : Word) : WinAcc where
  no := (s.win k).next
  who := if wr then none else some w
  write := wr
  data := d
  addr := 0x200000000000 + lo.toNat
  dev := (s.reg (Reg.mgtWaddrHi k)).bits 29 16
  tc := 3
  remote := false

/-- A window that has taken one access, and answers at once when it is a write. -/
def State.winTook (s : State) (k : Nat) (y : WinAcc) : State :=
  (s.setWin k { wait := [y], next := (s.win k).next + 1 }).respond (if y.write then 0 else 5) 0#32

/-- An idle window that does not step its address takes an access of a register outside the EAS and PAL blocks, and
runs. -/
theorem State.winAccess_reg (s : State) (w : Asker) (k : Nat) (wr : Bool) (d lo : Word) (hk : (s.win k).idle)
    (hctl : s.reg (Reg.mgtWctl k) = 0#32) (hhi : s.reg (Reg.mgtWaddrHi k) = 0x2000#32)
    (hlo : s.reg (Reg.mgtWaddrLo k) = lo) (hfast : fastTarget (0x200000000000 + lo.toNat) = false) :
    s.winAccess w k wr d = (s.winTook k (s.winAcc w k wr d lo)).winRun k := by
  obtain ⟨hi, hw⟩ := hk
  have hwr : (s.win k).writes = 0 := by simp [Win.writes, hi, hw]
  have haddr : Word.bits 0x2000#32 15 0 * 4294967296 + lo.toNat = 0x200000000000 + lo.toNat := rfl
  have h0 : Word.bit 0#32 0 = false := by decide
  have h1 : Word.bit 0#32 1 = false := by decide
  have h30 : Word.bit 0x2000#32 30 = false := by decide
  unfold State.winAccess
  simp only [hctl, hhi, hlo, haddr, h0, h1, h30, hwr, hw, State.winTarget, spaceOf_reg, hfast, List.nil_append, if_false,
    Bool.false_eq_true, reduceCtorEq]
  cases wr <;> simp [State.winTook, State.winAcc, hi, hhi, State.ok]

/-- It names the own device. -/
theorem State.winTarget_winAcc (s r : State) (w : Asker) (k : Nat) (wr : Bool) (d lo : Word) :
    r.winTarget (s.winAcc w k wr d lo) = (none, 0x200000000000 + lo.toNat) := by
  simp [State.winTarget, State.winAcc, spaceOf_reg]

/-- Such an access may be issued at once where NI 42 holds tokens of TC3. -/
theorem State.winReady_reg (s r : State) (w : Asker) (k : Nat) (wr : Bool) (d lo : Word) (x : Win) (hi : x.issued = [])
    (hc : r.conforms 42 3 = true) : r.winReady x (s.winAcc w k wr d lo) = true := by
  have hmem : r.memWaits (0x200000000000 + lo.toNat) = false := by simp [State.memWaits, spaceOf_reg]
  rw [State.winReady, State.winTarget_winAcc]
  simp [hi, hmem, State.winAcc, hc]

/-- The issue of an access of the device's own space, outside the windows, that is answered at once. -/
theorem State.winIssue_own (r z : State) (k : Nat) (y : WinAcc) (hr : y.remote = false)
    (hw : inWindows (r.winTarget y).2 = false)
    (hz : r.asNi (.window k y.no) y.tc (fun s => s.globalAccess0 (.window k y.no) y.write y.tc y.addr y.data) = z)
    (hst : z.resp.status ≠ 5) :
    r.winIssue k y = { z.setWin k { z.win k with
      issued := (z.win k).issued ++ [{ y with res := some (z.resp.status, z.resp.data) }] } with resp := r.resp } := by
  unfold State.winIssue
  simp [hr, hw, hz, hst]

/-- The issue of an access of a register outside the windows that is answered at once with OK and `v`, changing registers
alone: it waits in the window with its result, and the rest is the traffic of NI 42. -/
theorem State.winIssue_reg (s r : State) (w : Asker) (k : Nat) (wr : Bool) (d lo v : Word) (f : State → State)
    (hi : (r.win k).issued = []) (hwin : inWindows (0x200000000000 + lo.toNat) = false) (h4 : lo.toNat % 4 = 0)
    (hacc : ∀ (w : Asker) (u : State), u.part = r.part → u.regAccess0 w wr lo.toNat 4 d = (f u).ok v)
    (hf : ∀ u : State, f u = { u with regs := (f u).regs }) :
    ∃ u q : State, (∀ a, a < 0x120000 → u.reg a = r.reg a) ∧ (∀ a, a < 0x120000 → q.reg a = (f u).reg a) ∧
      q.mgt = r.mgt ∧ q.resp = r.resp ∧ q.answers = r.answers ∧ q.sec = r.sec ∧
      r.winIssue k (s.winAcc w k wr d lo) =
        q.setWin k { r.win k with issued := [{ s.winAcc w k wr d lo with res := some (0, v) }] } := by
  have hru := r.wordSent_only 42 3
  obtain ⟨u, hu⟩ : ∃ u, u = r.wordSent 42 3 := ⟨_, rfl⟩
  rw [← hu] at hru
  obtain ⟨z, hz⟩ : ∃ z, z = ((f u).ok v).statLatency 42 3 0 false := ⟨_, rfl⟩
  have hzu : ((f u).ok v).nocOnly z := by rw [hz]; exact (State.statLatency_only _ _ _ _ _).1
  have hfu : (f u).mgt = u.mgt ∧ (f u).answers = u.answers ∧ (f u).sec = u.sec := by rw [hf u]; exact ⟨rfl, rfl, rfl⟩
  have hzmgt : z.mgt = r.mgt := by rw [hzu.mgt, ← hru.mgt]; exact hfu.1
  have hzwin : z.win k = r.win k := by simp only [State.win, hzmgt]
  have hstatus : z.resp.status = 0 ∧ z.resp.data = v := by rw [hzu.resp]; exact ⟨rfl, rfl⟩
  have hglobal : u.globalAccess0 (.window k (s.win k).next) wr 3 (0x200000000000 + lo.toNat) d = (f u).ok v := by
    rw [State.globalAccess0, if_neg (by omega), spaceOf_reg, Nat.add_sub_cancel_left]
    exact hacc _ u hru.part
  have hasni : r.asNi (.window k (s.win k).next) 3 (fun u =>
      u.globalAccess0 (.window k (s.win k).next) wr 3 (0x200000000000 + lo.toNat) d) = z := by
    have hk : (Asker.window k (s.win k).next).niOf = 42 := rfl
    rw [State.asNi_immediate _ _ _ _ (by simp) (by simp), hk, ← hu, hglobal, hz]
    rw [hk, ← hu, hglobal]
    exact (show (0 : Nat) ≠ 5 by decide)
  have hissue := r.winIssue_own z k (s.winAcc w k wr d lo) rfl (by rw [State.winTarget_winAcc]; exact hwin) hasni
    (by rw [hstatus.1]; decide)
  rw [hzwin, hi, hstatus.1, hstatus.2, List.nil_append] at hissue
  refine ⟨u, { z with resp := r.resp }, hru.2, hzu.2, hzmgt, rfl, ?_, ?_, hissue⟩
  · show z.answers = r.answers
    rw [hzu.answers, ← hru.answers]
    exact hfu.2.1
  · show z.sec = r.sec
    rw [hzu.sec, ← hru.sec]
    exact hfu.2.2

/-- The window without the access that it has completed with OK, which MGT_WSTATk shows (R376). -/
def State.winDone (s : State) (k : Nat) : State :=
  (s.setWin k { s.win k with issued := [] }).setRegF (Reg.mgtWstat k) 2 0 0

theorem State.winComplete_write (s : State) (k : Nat) (y : WinAcc) (v : Word) (hi : (s.win k).issued = [y])
    (hw : (s.win k).wait = []) (hy : y.write = true) : s.winComplete k y 0 v = s.winDone k := by
  have hwait : ((s.winDone k).win k).wait = [] := by
    rw [State.winDone, State.win]
    simp only [State.setRegF, State.setReg_mgt]
    rw [← State.win, State.win_setWin_same]
    exact hw
  simp only [State.winComplete, hi, List.drop_one, List.tail_cons, if_true, hy]
  rw [← State.winDone, hwait]
  rfl

theorem State.winComplete_read (s : State) (k : Nat) (y : WinAcc) (w : Asker) (v : Word) (hi : (s.win k).issued = [y])
    (hy : y.write = false) (hwho : y.who = some w) : s.winComplete k y 0 v = (s.winDone k).answer w 0 v := by
  simp only [State.winComplete, hi, List.drop_one, List.tail_cons, if_true, hy, hwho, Bool.false_eq_true, if_false]
  rfl

theorem State.winDone_mgt (s : State) (k : Nat) : (s.winDone k).mgt = s.mgt.putWin k { s.win k with issued := [] } := rfl

theorem State.winDone_idle (s : State) (k : Nat) (h : (s.win k).wait = []) : ((s.winDone k).win k).idle := by
  have hwin : (s.winDone k).win k = { s.win k with issued := [] } := s.win_setWin_same k { s.win k with issued := [] }
  rw [hwin]
  exact ⟨rfl, h⟩

/-- A window that holds one access, which may be issued and is answered OK at once, issues and completes it. -/
theorem State.winRun_once (r i j : State) (k : Nat) (y z : WinAcc) (w : Asker) (v : Word)
    (hr : (r.win k).issued = [] ∧ (r.win k).wait = [y]) (hready : r.winReady (r.win k) y = true)
    (hid : i = r.setWin k { r.win k with wait := [] }) (hjd : j = i.winIssue k y)
    (hj : (j.win k).issued = [z] ∧ (j.win k).wait = []) (hz : z.res = some (0, v)) (hwho : z.write = false → z.who = some w) :
    r.winRun k = if z.write then j.winDone k else (j.winDone k).answer w 0 v := by
  obtain ⟨hri, hrw⟩ := hr
  obtain ⟨hji, hjw⟩ := hj
  have hfuel : (r.win k).fuel = 2 + 1 := by rw [Win.fuel, hri, hrw]; rfl
  have hidle := j.winDone_idle k hjw
  rw [State.winRun, hfuel, r.winPump_issue k 2 y [] hri hrw hready, ← hid, ← hjd, j.winPump_complete k 1 0 v z [] hji hz]
  cases hzw : z.write with
  | true =>
    rw [j.winComplete_write k z v hji hjw hzw, State.winPump_idle _ _ _ hidle]
    rfl
  | false =>
    rw [j.winComplete_read k z w v hji hzw (hwho hzw), State.winPump_idle]
    · rfl
    · simpa only [State.win, State.answer_mgt] using hidle

/-- An access of a register that an idle window takes, and that is answered at once with OK and `v`, `f` changing registers
alone: the window is idle again and shows OK, a read is answered, and the rest is the traffic of NI 42. -/
theorem State.winAccess_answered (s : State) (w : Asker) (k : Nat) (wr : Bool) (d lo v : Word) (f : State → State)
    (hq : s.quiet = true) (hctl : s.reg (Reg.mgtWctl k) = 0#32) (hhi : s.reg (Reg.mgtWaddrHi k) = 0x2000#32)
    (hlo : s.reg (Reg.mgtWaddrLo k) = lo) (hfast : fastTarget (0x200000000000 + lo.toNat) = false)
    (hwin : inWindows (0x200000000000 + lo.toNat) = false) (h4 : lo.toNat % 4 = 0) (hc : s.conforms 42 3 = true)
    (hacc : ∀ (w : Asker) (u : State), u.part = s.part → u.regAccess0 w wr lo.toNat 4 d = (f u).ok v)
    (hf : ∀ u : State, f u = { u with regs := (f u).regs }) :
    ∃ u t : State, (∀ a, a < 0x120000 → u.reg a = s.reg a) ∧
      (∀ a, a < 0x120000 → a ≠ Reg.mgtWstat k → t.reg a = (f u).reg a) ∧ t.regF (Reg.mgtWstat k) 2 0 = 0 ∧
      t.quiet = true ∧ (wr = true → t.resp.status = 0) ∧
      s.winAccess w k wr d = if wr then t else t.answer w 0 v := by
  obtain ⟨ha, hm, hj, hreqs, hwins⟩ := s.quiet_iff.1 hq
  have hk := s.win_idle k hwins
  obtain ⟨y, hy⟩ : ∃ y, y = s.winAcc w k wr d lo := ⟨_, rfl⟩
  obtain ⟨r, hrd⟩ : ∃ r, r = s.winTook k y := ⟨_, rfl⟩
  obtain ⟨i, hid⟩ : ∃ i, i = r.setWin k { r.win k with wait := [] } := ⟨_, rfl⟩
  have hrwin : r.win k = { wait := [y], next := (s.win k).next + 1 } := by rw [hrd]; exact State.win_setWin_same _ _ _
  have hiwin : i.win k = { next := (s.win k).next + 1 } := by rw [hid, State.win_setWin_same, hrwin]
  have hi : i.answers = s.answers ∧ i.sec = s.sec ∧ (∀ a, i.reg a = s.reg a) ∧ i.part = s.part ∧
      i.resp.status = if y.write then 0 else 5 := by
    rw [hid, hrd]; exact ⟨rfl, rfl, fun _ => rfl, rfl, rfl⟩
  obtain ⟨hians, hisec, hireg, hipart, hiresp⟩ := hi
  obtain ⟨u, q, hu, hqreg, hqmgt, hqresp, hqans, hqsec, hissue⟩ := s.winIssue_reg i w k wr d lo v f (by rw [hiwin]) hwin h4
    (fun w u hp => hacc w u (hp.trans hipart)) hf
  obtain ⟨z, hz⟩ : ∃ z : WinAcc, z = { s.winAcc w k wr d lo with res := some (0, v) } := ⟨_, rfl⟩
  rw [← hz, hiwin, ← hy] at hissue
  have hjwin : (i.winIssue k y).win k = { issued := [z], next := (s.win k).next + 1 } := by
    rw [hissue, State.win_setWin_same]
  have hready : r.winReady (r.win k) y = true := by
    rw [hy]
    exact s.winReady_reg r w k wr d lo _ (by rw [hrwin])
      (by rw [hrd, State.conforms_congr s (s.winTook k y) 42 3 rfl rfl rfl, hc])
  have hwho (h : z.write = false) : z.who = some w := by
    rw [hz] at h ⊢
    obtain rfl : wr = false := h
    rfl
  have hrun := State.winRun_once r i _ k y z w v (by rw [hrwin]; exact ⟨rfl, rfl⟩) hready hid rfl
    (by rw [hjwin]; exact ⟨rfl, rfl⟩) (by rw [hz]) hwho
  have hmgt : ((i.winIssue k y).winDone k).mgt = s.mgt.putWin k { next := (s.win k).next + 1 } := by
    have hqm : q.mgt = (s.mgt.putWin k { wait := [y], next := (s.win k).next + 1 }).putWin k
        { next := (s.win k).next + 1 } := by
      rw [hqmgt, hid, hrwin, hrd]; rfl
    rw [State.winDone_mgt, hjwin, hissue, State.setWin_mgt, hqm]
    simp [Mgmt.putWin_putWin]
  rw [hissue] at hmgt hrun
  refine ⟨u, (q.setWin k { issued := [z], next := (s.win k).next + 1 }).winDone k, fun a ha => (hu a ha).trans (hireg a),
    fun a ha hne => ?_, ?_, (State.quiet_iff _).2 ⟨?_, ?_, ?_, ?_, ?_⟩, fun hwr => ?_, ?_⟩
  · rw [State.winDone, State.setRegF_reg_ne _ _ _ _ _ _ hne]
    exact hqreg a ha
  · rw [State.regF, State.winDone, State.setRegF_reg_same, bits_putBits_same _ _ _ _ (by decide), Nat.zero_mod]
  · exact (hqans.trans hians).trans ha
  · rw [hmgt]; exact hm
  · rw [hmgt]; exact hj
  · show q.sec.reqs = []
    rw [hqsec, hisec, hreqs]
  · rw [hmgt]
    exact SMap.all_set Win.idle s.mgt.wins k { next := (s.win k).next + 1 } {} ⟨rfl, rfl⟩ hwins
  · show q.resp.status = 0
    rw [hqresp, hiresp, hy]
    exact if_pos hwr
  · rw [s.winAccess_reg w k wr d lo hk hctl hhi hlo hfast, ← hy, ← hrd, hrun, hz]
    rfl

end Sys2Proof.Machine
end

section
namespace Sys2Proof.Machine

/-! ## The statement on register accesses, the management port, windows and JTAG, part by part -/

/-- Register accesses over every path (R16 to R18). -/
theorem registerAccesses (p : Path) (addr d : Word) (size : Nat) (s : State) (hq : s.quiet = true) :
    (size ≠ 4 ∨ addr.toNat % 4 ≠ 0 ∨ blockOf addr.toNat = none →
      (∀ k : Fin 8, addr.toNat ≠ Reg.mgtWdata k.val) →
      exec (.registerWrite p addr size d) s = .next s.err ∧ exec (.rcRead p addr size) s = .next s.err) ∧
    exec (.rcRead p (word Reg.devUnits) 4) s = .next (s.ok (word (devUnits s.part.variant))) ∧
    exec (.registerWrite p (word Reg.mgtTlim) 4 d) s = .next (s.plainWrite Reg.mgtTlim d).ok ∧
    (∀ a ∈ [Reg.mgtStat, Reg.mgtIrq, Reg.mgtIrqen, Reg.mgtTlim],
      exec (.rcRead p (word a) 4) s = .next (s.ok (s.reg a))) ∧
    (∀ a ∈ [Reg.mgtMcrcerr, Reg.mgtMshort, Reg.mgtIbrx, Reg.mgtIbdrop, Reg.mgtSkmiss],
      exec (.rcRead p (word a) 4) s = .next ((s.ok (s.reg a)).setReg a 0#32)) ∧
    (∀ (b : Block) (a : Nat), (b, a) ∈ blockCounters → s.opens b → ∃ t, exec (.rcRead p (word a) 4) s = .next t ∧
      t.resp.status = 0 ∧ t.resp.data = s.reg a ∧ t.reg a = 0#32 ∧ (∀ r, r ≠ a → t.reg r = s.reg r) ∧
      s.dataSame t ∧ t.noc = s.noc ∧ t.str = s.str) := by
  have hread (a : Word) (n : Nat) (t : State) (h : s.regAccess (.direct p) false a.toNat n 0#32 = t) (ht : t.quiet = true) :
      exec (.rcRead p a n) s = .next t := by
    show Host.Outcome.next ((s.regAccess (.direct p) false a.toNat n 0#32).settle) = _
    rw [h, t.settle_quiet ht]
  have hwrite (a : Word) (n : Nat) (t : State) (h : s.regAccess (.direct p) true a.toNat n d = t) (ht : t.quiet = true) :
      exec (.registerWrite p a n d) s = .next t := by
    show Host.Outcome.next ((s.regAccess (.direct p) true a.toNat n d).settle) = _
    rw [h, t.settle_quiet ht]
  refine ⟨fun hbad hw => ⟨hwrite _ _ _ ?_ hq, hread _ _ _ ?_ hq⟩, hread _ _ _ (s.regAccess_devUnits _ _) hq,
    hwrite _ _ _ (s.regAccess_mgtTlim _ _) ?_, fun a ha => hread _ _ _ ?_ hq, fun a ha => hread _ _ _ ?_ hq,
    fun b a hba ho => ⟨_, hread _ _ _ (s.regAccess_counter _ b a _ hba ho) hq, rfl, rfl, ?_, fun r hr => ?_, ?_, rfl, rfl⟩⟩
  · rw [State.regAccess_plain _ _ _ _ _ _ hw, State.regAccess0_bad _ _ _ _ _ _ hbad]
  · rw [State.regAccess_plain _ _ _ _ _ _ hw, State.regAccess0_bad _ _ _ _ _ _ hbad]
  · rw [s.plainWrite_regs]; exact hq
  · have hrc : (regRow a).map RegRow.rc = some 0 := by
      revert a; decide
    rw [s.regAccess_mgt _ a _ (List.mem_append_left [Reg.mgtMcrcerr, Reg.mgtMshort, Reg.mgtIbrx, Reg.mgtIbdrop,
      Reg.mgtSkmiss] ha), s.rd_plain a hrc]
  · have hrc : (regRow a).map RegRow.rc = some 0xFFFFFFFF := by
      revert a; decide
    rw [s.regAccess_mgt _ a _ (List.mem_append_right [Reg.mgtStat, Reg.mgtIrq, Reg.mgtIrqen, Reg.mgtTlim] ha),
      s.rd_clears a hrc]
  · exact State.setReg_reg_same _ _ _
  · exact State.setReg_reg_ne _ _ _ _ hr
  · exact ⟨rfl, rfl, rfl, rfl, rfl, rfl, rfl, rfl, rfl, rfl, rfl⟩

end Sys2Proof.Machine
end

section
namespace Sys2Proof.Machine

theorem State.hostStore_msp (q s : State) (x : HostPort) (tag : Nat) (v : Word)
    (hq : q.mgt = (s.setHost false x).mgt) :
    (q.hostStore false 0 tag v).mgt.msp =
      { x with stored := some { status := 0, tag := tag, data := v }, busy := none, out := hostBytes 0 tag v } := by
  have hx : q.host false = x := by simp only [State.host, hq]; rfl
  simp only [State.hostStore, hx]
  rfl

/-- A command of the management port is its frame, and what follows at once. -/
theorem mspFrames (tag cmd crc : Byte) (addr d : Word) (s : State) (hq : s.quiet = true) (hb : s.mgt.msp.busy = none)
    (hc : s.conforms 42 3 = true) :
    let crcOf (c : Byte) (a : Word) : Byte := mspCrc ([c, tag] ++ leBytes a.toNat 4 ++ leBytes d.toNat 4)
    (∃ t, exec (.mspRd tag (word Reg.devUnits) d (crcOf 1#8 (word Reg.devUnits))) s = .next t ∧
      t.mgt.msp.out = hostBytes 0 tag.toNat (word (devUnits s.part.variant)) ∧ t.mgt.msp.busy = none ∧
      t.mgt.msp.stored = some { status := 0, tag := tag.toNat, data := word (devUnits s.part.variant) } ∧
      s.dataSame t) ∧
    (∃ t, exec (.mspWr tag (word Reg.mgtTlim) d (crcOf 2#8 (word Reg.mgtTlim))) s = .next t ∧
      t.mgt.msp.out = hostBytes 0 tag.toNat 0#32 ∧ t.reg Reg.mgtTlim = (s.plainWrite Reg.mgtTlim d).reg Reg.mgtTlim ∧
      s.dataSame t) ∧
    (crc ≠ crcOf 1#8 addr → ∃ t, exec (.mspRd tag addr d crc) s = .next t ∧ t.mgt.msp.out = hostBytes 0x10 tag.toNat 0#32 ∧
      t.mgt.msp.stored = s.mgt.msp.stored ∧ s.counts t Reg.mgtMcrcerr 1 ∧ t.regB Reg.mgtStat 0 = true) ∧
    (∃ t, exec (.lastCmd tag addr d (crcOf 4#8 addr)) s = .next t ∧ t.mgt.msp.stored = s.mgt.msp.stored ∧
      (∀ r, s.mgt.msp.stored = some r → t.mgt.msp.out = hostBytes r.status tag.toNat r.data) ∧
      (s.mgt.msp.stored = none → t.mgt.msp.out = hostBytes 1 tag.toNat 0#32) ∧ t.regs = s.regs) ∧
    (∃ t, exec (.aon tag addr d (crcOf 5#8 addr)) s = .next t ∧ t.mgt.msp.out = hostBytes 0 tag.toNat s.primerReason ∧
      t.regs = s.regs) ∧
    (cmd ≠ 1#8 → cmd ≠ 2#8 → cmd ≠ 4#8 → cmd ≠ 5#8 → ∃ t, exec (.badcmd cmd tag addr d (crcOf cmd addr)) s = .next t ∧
      t.mgt.msp.out = hostBytes 0x11 tag.toNat 0#32 ∧ t.mgt.msp.stored = s.mgt.msp.stored ∧ t.regs = s.regs) := by
  intro crcOf
  refine ⟨?_, ?_, fun hne => ?_, ?_, ?_, fun h1 h2 h4 h5 => ?_⟩
  · obtain ⟨q, hsame, hmgt, hsettle⟩ := hostFrame_devUnits s false tag d hq hb hc
    have hmsp := q.hostStore_msp s _ tag.toNat (word (devUnits s.part.variant)) hmgt
    exact ⟨_, congrArg Host.Outcome.next hsettle, by rw [hmsp], by rw [hmsp], by rw [hmsp],
      hsame.trans (q.dataSame_setHost false _)⟩
  · obtain ⟨q, hsame, hreg, hsettle⟩ := hostFrame_mgtTlim s false tag d hq hb hc
    exact ⟨_, congrArg Host.Outcome.next hsettle, rfl, hreg, hsame.trans (q.dataSame_setHost false _)⟩
  · obtain ⟨hport, hcount, hbit⟩ := hostFrame_badCrc false 1#8 tag addr d crc s hq hne
    rw [State.host, if_neg (by decide)] at hport
    exact ⟨_, rfl, by rw [hport], by rw [hport]; rfl, hcount, hbit⟩
  · obtain ⟨o, hsettle, hsome, hnone⟩ := hostFrame_last s false tag addr d hq hb
    exact ⟨_, congrArg Host.Outcome.next hsettle, rfl, hsome, hnone, rfl⟩
  · exact ⟨_, congrArg Host.Outcome.next (hostFrame_aon s false tag addr d hq hb), rfl, rfl⟩
  · have hnat (n : Nat) (hn : n < 256) (h : cmd ≠ BitVec.ofNat 8 n) : cmd.toNat ≠ n :=
      fun he => h (BitVec.eq_of_toNat_eq (by rw [he, BitVec.toNat_ofNat, Nat.mod_eq_of_lt hn]))
    exact ⟨_, congrArg Host.Outcome.next (hostFrame_badCmd s false cmd tag addr d hq hb (hnat 1 (by decide) h1)
      (hnat 2 (by decide) h2) (hnat 4 (by decide) h4) (hnat 5 (by decide) h5)), rfl, rfl, rfl⟩

/-- A frame that is cut short is counted, and leaves the port (R372). -/
theorem mspShort_counts (n : Nat) (s : State) : (11 ≤ n → exec (.mspShort n) s = .next s) ∧
    (n < 11 → ∃ t, exec (.mspShort n) s = .next t ∧ s.counts t Reg.mgtMshort 1 ∧ t.regB Reg.mgtStat 1 = true ∧
      t.mgt = s.mgt) := by
  refine ⟨fun h => ?_, fun h => ⟨_, congrArg Host.Outcome.next (if_pos h), ?_⟩⟩
  · exact congrArg Host.Outcome.next (if_neg (by omega))
  · obtain ⟨hcount, hbit⟩ := s.bump_orReg Reg.mgtMshort Reg.mgtStat 2 1 (by decide) (by decide)
    exact ⟨hcount, hbit, rfl⟩

/-- Registers of the device through a window (R375, R376). -/
theorem windowAccesses (p : Path) (k : Fin 8) (d : Word) (s : State) (hq : s.quiet = true)
    (hctl : s.reg (Reg.mgtWctl k.val) = 0#32) (hhi : s.reg (Reg.mgtWaddrHi k.val) = 0x2000#32)
    (hc : s.conforms 42 3 = true) :
    (s.reg (Reg.mgtWaddrLo k.val) = word Reg.devUnits → ∃ t, exec (.windowRead p k) s = .next t ∧ t.resp.status = 0 ∧
      t.resp.data = word (devUnits s.part.variant) ∧ t.regF (Reg.mgtWstat k.val) 2 0 = 0) ∧
    (s.reg (Reg.mgtWaddrLo k.val) = word Reg.mgtTlim → ∃ t, exec (.windowWrite p k d) s = .next t ∧ t.resp.status = 0 ∧
      t.reg Reg.mgtTlim = (s.plainWrite Reg.mgtTlim d).reg Reg.mgtTlim ∧ t.regF (Reg.mgtWstat k.val) 2 0 = 0) := by
  have hdata (wr : Bool) (d : Word) : s.regAccess (.direct p) wr (Reg.mgtWdata k.val) 4 d =
      s.winAccess (.direct p) k.val wr d := by
    have hat : ∀ k : Fin 8, arrayAt (Reg.mgtWdata k.val) (Reg.mgtWaddrLo 0) 0x20 8 = some (k.val, 8) := by decide
    rw [State.regAccess, hat k]
    rfl
  refine ⟨fun hlo => ?_, fun hlo => ?_⟩
  · obtain ⟨u, t, -, -, hshow, hquiet, -, hans⟩ := s.winAccess_answered (.direct p) k.val false 0#32 (word Reg.devUnits)
      (word (devUnits s.part.variant)) id hq hctl hhi hlo (by decide) (by decide) (by decide) hc
      (fun w u hu => by
        rw [← State.regAccess_plain _ _ _ _ _ _ (by decide), State.regAccess_devUnits, hu]; rfl) (fun _ => rfl)
    refine ⟨t.respond 0 (word (devUnits s.part.variant)), ?_, rfl, rfl, hshow⟩
    show Host.Outcome.next ((s.regAccess (.direct p) false (Reg.mgtWdata k.val) 4 0#32).settle) = _
    rw [hdata, hans]
    exact congrArg Host.Outcome.next (State.settle_quiet _ hquiet)
  · obtain ⟨u, t, hu, ht, hshow, hquiet, hok, hans⟩ := s.winAccess_answered (.direct p) k.val true d (word Reg.mgtTlim) 0#32
      (fun u => u.plainWrite Reg.mgtTlim d) hq hctl hhi hlo (by decide) (by decide) (by decide) hc
      (fun w u _ => by rw [← State.regAccess_plain _ _ _ _ _ _ (by decide), State.regAccess_mgtTlim])
      (fun u => u.plainWrite_regs _ _)
    refine ⟨t, ?_, hok rfl, ?_, hshow⟩
    · show Host.Outcome.next ((s.regAccess (.direct p) true (Reg.mgtWdata k.val) 4 d).settle) = _
      rw [hdata, hans]
      exact congrArg Host.Outcome.next (State.settle_quiet _ hquiet)
    · rw [ht _ (by decide) (by simp only [Reg.mgtTlim, Reg.mgtWstat]; omega)]
      exact State.plainWrite_reg_congr s u _ _ (hu _ (by decide))

/-- The frame of an MGTACC that reads DEV_UNITS with a right CRC (R393). -/
theorem mgtacc_devUnits (f : BitVec 88) (s : State) (hcmd : f.toNat % 256 = 1)
    (haddr : f.toNat / 65536 % 4294967296 = Reg.devUnits)
    (hcrc : BitVec.ofNat 8 (f.toNat / 2 ^ 80) = mspCrc ([1#8, BitVec.ofNat 8 (f.toNat / 256)] ++ leBytes Reg.devUnits 4 ++
      leBytes (f.toNat / 2 ^ 48 % 4294967296) 4)) :
    ∃ d : Word, mgtacc f s = hostFrame true 1#8 (BitVec.ofNat 8 (f.toNat / 256)) (word Reg.devUnits) d
      (mspCrc ([1#8, BitVec.ofNat 8 (f.toNat / 256)] ++ leBytes (word Reg.devUnits).toNat 4 ++ leBytes d.toNat 4))
      (s.jtagIr 0x20 (leAt s.mgt.jtag.out 0 8)) := by
  have h0 : BitVec.ofNat 8 (f.toNat / 256 ^ 0) = 1#8 := by
    apply BitVec.eq_of_toNat_eq
    simpa using hcmd
  have ha : bitsOf f.toNat 47 16 = Reg.devUnits := by
    rw [← haddr, bitsOf, Nat.shiftRight_eq_div_pow]
    rfl
  have hd : (word (bitsOf f.toNat 79 48)).toNat = f.toNat / 2 ^ 48 % 4294967296 := by
    rw [bitsOf, Nat.shiftRight_eq_div_pow, word, BitVec.toNat_ofNat, Nat.mod_mod]
    rfl
  have hc : BitVec.ofNat 8 (f.toNat / 256 ^ 10) = mspCrc ([1#8, BitVec.ofNat 8 (f.toNat / 256)] ++
      leBytes (word Reg.devUnits).toNat 4 ++ leBytes (word (bitsOf f.toNat 79 48)).toNat 4) := by
    rw [hd, ← show Reg.devUnits = (word Reg.devUnits).toNat by decide, ← hcrc]
    rfl
  refine ⟨word (bitsOf f.toNat 79 48), ?_⟩
  simp only [mgtacc]
  rw [h0, ha, hc, Nat.pow_one]

/-- The JTAG instructions (R391 to R393). -/
theorem jtagInstructions (v : BitVec 176) (f : BitVec 88) (s : State) :
    (∃ t, exec .idcode s = .next t ∧ t.mgt.jir = 1 ∧ t.mgt.jdr = s.part.rev % 16 * 268435456 + 0xB064DA7 ∧
      t.regs = s.regs) ∧
    (∃ t, exec (.samplePreload v) s = .next t ∧ t.mgt.jir = 2 ∧ t.mgt.bsr = v ∧ t.regs = s.regs) ∧
    (s.jtagPins = true →
      (∃ t, exec .extest s = .next t ∧ t.mgt.jir = 3 ∧ t.mgt.bsr = s.mgt.bsr ∧ t.regs = s.regs) ∧
      (∃ t, exec .extestPulse s = .next t ∧ t.mgt.jir = 4 ∧ t.mgt.bsr = s.mgt.bsr ∧ t.regs = s.regs) ∧
      (∃ t, exec .extestTrain s = .next t ∧ t.mgt.jir = 5 ∧ t.mgt.bsr = s.mgt.bsr ∧ t.regs = s.regs) ∧
      (∃ t, exec .clamp s = .next t ∧ t.mgt.jir = 6 ∧ t.mgt.bsr = s.mgt.bsr ∧ t.regs = s.regs) ∧
      ∃ t, exec .highz s = .next t ∧ t.mgt.jir = 7 ∧ t.mgt.bsr = s.mgt.bsr ∧ t.regs = s.regs) ∧
    (s.jtagPins = false → ∀ i ∈ [Instr.extest, .extestPulse, .extestTrain, .clamp, .highz],
      ∃ t, exec i s = .next t ∧ t.mgt.jir = 0xFF ∧ t.regB Reg.mgtStat 3 = true ∧ t.pwr = s.pwr) ∧
    (∃ t, exec .rbscan s = .next t ∧ t.mgt.jir = 0x21 ∧
      t.mgt.jdr = (if s.regF Reg.mgtRbStat 1 0 = 2 then (Config.freeWord s.free).toNat else 0)) ∧
    (∃ t, exec .bypass s = .next t ∧ t.mgt.jir = 0xFF ∧ t.mgt.jdr = 0 ∧ t.regs = s.regs) ∧
    (s.quiet = true → s.mgt.jtag.busy = none → s.conforms 42 3 = true →
      f.toNat % 256 = 1 → f.toNat / 65536 % 4294967296 = Reg.devUnits →
      BitVec.ofNat 8 (f.toNat / 2 ^ 80) = mspCrc ([1#8, BitVec.ofNat 8 (f.toNat / 256)] ++ leBytes Reg.devUnits 4 ++
        leBytes (f.toNat / 2 ^ 48 % 4294967296) 4) →
      ∃ t, exec (.mgtacc f) s = .next t ∧ t.mgt.jir = 0x20 ∧ t.mgt.jdr = leAt s.mgt.jtag.out 0 8 ∧
        t.mgt.jtag.out = hostBytes 0 (f.toNat / 256 % 256) (word (devUnits s.part.variant)) ∧ s.dataSame t) := by
  refine ⟨⟨_, rfl, rfl, s.idcodeOf_toNat, rfl⟩, ?_, fun h => ⟨⟨_, rfl, s.jtagDrive_acts 3 h⟩, ⟨_, rfl, s.jtagDrive_acts 4 h⟩,
    ⟨_, rfl, s.jtagDrive_acts 5 h⟩, ⟨_, rfl, s.jtagDrive_acts 6 h⟩, ⟨_, rfl, s.jtagDrive_acts 7 h⟩⟩, fun h i hi => ?_, ?_,
    ⟨_, rfl, rfl, rfl, rfl⟩, fun hq hb hc hcmd haddr hcrc => ?_⟩
  · obtain ⟨k, hk⟩ := s.boundary_only
    refine ⟨_, rfl, rfl, rfl, ?_⟩
    show s.boundary.2.regs = s.regs
    rw [hk]
  · simp only [List.mem_cons, List.not_mem_nil, or_false] at hi
    rcases hi with rfl | rfl | rfl | rfl | rfl
    · exact ⟨_, rfl, s.jtagDrive_blocked 3 h⟩
    · exact ⟨_, rfl, s.jtagDrive_blocked 4 h⟩
    · exact ⟨_, rfl, s.jtagDrive_blocked 5 h⟩
    · exact ⟨_, rfl, s.jtagDrive_blocked 6 h⟩
    · exact ⟨_, rfl, s.jtagDrive_blocked 7 h⟩
  · refine ⟨_, rfl, rfl, ?_⟩
    show s.rbNext.1.toNat = _
    unfold State.rbNext
    split <;> rfl
  · obtain ⟨d, hframe⟩ := mgtacc_devUnits f s hcmd haddr hcrc
    obtain ⟨q, hsame, hmgt, hsettle⟩ := hostFrame_devUnits (s.jtagIr 0x20 (leAt s.mgt.jtag.out 0 8)) true
      (BitVec.ofNat 8 (f.toNat / 256)) d hq hb
      (by rw [State.conforms_congr s (s.jtagIr 0x20 (leAt s.mgt.jtag.out 0 8)) 42 3 rfl rfl rfl, hc])
    rw [← hframe] at hsettle
    refine ⟨_, congrArg Host.Outcome.next hsettle, ?_, ?_, ?_, State.dataSame.trans hsame (q.dataSame_setHost true _)⟩
    · exact congrArg Mgmt.jir hmgt
    · exact congrArg Mgmt.jdr hmgt
    · show hostBytes 0 (BitVec.ofNat 8 (f.toNat / 256)).toNat _ = _
      rw [BitVec.toNat_ofNat]
      rfl

/-- Settles O59: register accesses, the frames of the management port, the windows and the JTAG instructions. -/
theorem portsAndRegisters : Obligations.PortsAndRegisters :=
  ⟨registerAccesses, mspFrames, mspShort_counts, windowAccesses, jtagInstructions⟩

end Sys2Proof.Machine
end

section
namespace Sys2Proof.Machine

/-! ## What the operations on one axis read back (02_easel_axes.md) -/

@[simp] theorem State.setReg_axis (s : State) (a : Nat) (v : Word) (n : Nat) : (s.setReg a v).axis n = s.axis n := rfl
@[simp] theorem State.orReg_axis (s : State) (a m n : Nat) : (s.orReg a m).axis n = s.axis n := rfl
@[simp] theorem State.ok_axis (s : State) (d : Word) (n : Nat) : (s.ok d).axis n = s.axis n := rfl

@[simp] theorem State.addRev_axis_same (s : State) (n : Nat) (k : Int) :
    (s.addRev n k).axis n = { s.axis n with wraps := (s.axis n).wraps + k } := State.setAxis_axis_same _ _ _
theorem State.addRev_reg_same (s : State) (n : Nat) (k : Int) :
    (s.addRev n k).reg (Reg.axRev n) = wordI ((s.reg (Reg.axRev n)).toNat + k) := State.setReg_reg_same _ _ _

@[simp] theorem State.jumped_axis_same (s : State) (n : Nat) : (s.jumped n).axis n = { s.axis n with jump := true } :=
  State.setAxis_axis_same _ _ _
/-- A jump sets AXn_STAT.JUMP. -/
theorem State.jumped_stat (s : State) (n : Nat) : ((s.jumped n).reg (Reg.axStat n)).bit 6 = true := by
  simp [State.jumped, State.orReg_reg_same, Word.bit, word]

/-- Of the axis, the opening of a cycle changes what step 6 of Table EA-6 sees of it (log 3). -/
theorem State.openCycle_axis_same (s : State) (n : Nat) (h : (s.axis n).opened = false) :
    (s.openCycle n).axis n = { s.axis n with
      opened := true, prev := s.axPos n, edge := false, jump := false, wraps := 0, velDue := false } := by
  simp [State.openCycle, h]

/-! ## What the operations on one axis leave alone -/

/-- The registers that the interpolator writes for axis `n` (Table EA-7). -/
def axisLog (n : Nat) : List Nat :=
  [Reg.axRev n, Reg.axIntv n, Reg.axVel n, Reg.axStat n, Reg.axErr n, Reg.axZcap n]

/-- From `s` to `t` only axis `n`, the registers of its results, the schedule entries and the reports have changed. -/
def State.axisOnly (n : Nat) (s t : State) : Prop :=
  t = { s with
    eas := { s.eas with axes := t.eas.axes, entries := t.eas.entries, staged := t.eas.staged }, regs := t.regs, int := t.int } ∧
    (∀ k, k ≠ n → t.axis k = s.axis k) ∧ ∀ a, a ∉ axisLog n → t.reg a = s.reg a

theorem State.axisOnly_refl (n : Nat) (s : State) : s.axisOnly n s := ⟨rfl, fun _ _ => rfl, fun _ _ => rfl⟩

theorem State.axisOnly.axis_ne {n : Nat} {s t : State} (h : State.axisOnly n s t) {k : Nat} (hk : k ≠ n) :
    t.axis k = s.axis k := by
  obtain ⟨-, haxes, -⟩ := h
  exact haxes k hk

theorem State.axisOnly.reg_ne {n : Nat} {s t : State} (h : State.axisOnly n s t) {a : Nat} (ha : a ∉ axisLog n) :
    t.reg a = s.reg a := by
  obtain ⟨-, -, hregs⟩ := h
  exact hregs a ha

theorem State.axisOnly.trans {n : Nat} {s t u : State} (h : State.axisOnly n s t) (g : State.axisOnly n t u) :
    State.axisOnly n s u := by
  obtain ⟨h1, h2, h3⟩ := h
  obtain ⟨g1, g2, g3⟩ := g
  exact ⟨g1.trans (by rw [h1]), fun k hk => (g2 k hk).trans (h2 k hk), fun a ha => (g3 a ha).trans (h3 a ha)⟩

theorem State.axisOnly.setAxis {n : Nat} {s t : State} (h : State.axisOnly n s t) (x : Axis) :
    State.axisOnly n s (t.setAxis n x) :=
  h.trans ⟨rfl, fun _ hk => State.setAxis_axis_ne _ _ _ _ hk, fun _ _ => rfl⟩

theorem State.axisOnly.setReg {n : Nat} {s t : State} (h : State.axisOnly n s t) (a : Nat) (v : Word)
    (ha : a ∈ axisLog n := by simp [axisLog]) : State.axisOnly n s (t.setReg a v) :=
  h.trans ⟨rfl, fun _ _ => rfl, fun _ hj => State.setReg_reg_ne _ _ _ _ (fun e => hj (e ▸ ha))⟩

theorem State.axisOnly.ite {n : Nat} {s t u : State} {c : Prop} [Decidable c] (h : State.axisOnly n s t)
    (g : State.axisOnly n s u) : State.axisOnly n s (if c then t else u) := by
  split
  · exact h
  · exact g

/-- Reports go to the collector and change nothing else (R358). -/
theorem State.axisOnly.reportOnce {n : Nat} {s t : State} (h : State.axisOnly n s t) (key : Nat × Nat × Nat)
    (code unit subj : Nat) : State.axisOnly n s (t.reportOnce key code unit subj) := by
  unfold State.reportOnce
  split
  · exact h
  · exact h.trans ⟨rfl, fun _ _ => rfl, fun _ _ => rfl⟩

theorem State.axisOnly.addRev {n : Nat} {s t : State} (h : State.axisOnly n s t) (k : Int) :
    State.axisOnly n s (t.addRev n k) := (h.setReg _ _).setAxis _

theorem State.axisOnly.jumped {n : Nat} {s t : State} (h : State.axisOnly n s t) : State.axisOnly n s (t.jumped n) :=
  (h.setAxis _).setReg _ _

theorem State.closeEntries_axisOnly (s : State) (n : Nat) : s.axisOnly n (s.closeEntries n) := by
  unfold State.closeEntries
  split
  · exact ⟨rfl, fun _ _ => rfl, fun _ _ => rfl⟩
  · exact s.axisOnly_refl n

theorem State.openCycle_axisOnly (s : State) (n : Nat) : s.axisOnly n (s.openCycle n) := by
  have h := s.closeEntries_axisOnly n
  exact .ite (s.axisOnly_refl n) (.setAxis (.ite (h.setReg _ _) h) _)

theorem State.axAdvance_axisOnly (s : State) (n : Nat) : s.axisOnly n (s.axAdvance n) := by
  have h := s.axisOnly_refl n
  have hlocal (x : Axis) : s.axisOnly n ((s.setAxis n x).setReg (Reg.axVel n) 0#32) :=
    (h.setAxis x).setReg _ _
  have hwrap (k : Int) {c : Prop} [Decidable c] : s.axisOnly n (if c then s else s.addRev n k) := .ite h (h.addRev k)
  exact .ite h (.ite (.ite (hlocal _) (h.setAxis _)) (.ite ((hwrap _).setAxis _) (.ite ((hwrap _).setAxis _) h)))

theorem State.countEdge_axisOnly (s : State) (n : Nat) (neg : Bool) : s.axisOnly n (s.countEdge n neg) :=
  (((s.openCycle_axisOnly n).setReg _ _).addRev _).setAxis _

theorem State.illegalQuad_axisOnly (s : State) (n : Nat) : s.axisOnly n (s.illegalQuad n) :=
  ((((s.axisOnly_refl n).setReg _ _).setReg _ _).setAxis _).reportOnce _ _ _ _

theorem State.idxLoad_axisOnly (s : State) (n : Nat) : s.axisOnly n (s.idxLoad n) :=
  .jumped (.setAxis (.addRev (.ite (s.axisOnly_refl n) ((s.openCycle_axisOnly n).trans (State.axAdvance_axisOnly _ n))) _) _)

theorem State.index_axisOnly (s : State) (n : Nat) : s.axisOnly n (s.index n) := by
  have h : s.axisOnly n ((s.setReg (Reg.axZcap n) (wordI (s.axis n).c)).orReg (Reg.axStat n) 0x10) :=
    ((s.axisOnly_refl n).setReg _ _).setReg _ _
  exact .ite (.trans (.ite (h.setReg _ _) h) (State.idxLoad_axisOnly _ n))
    (.ite ((h.trans (State.idxLoad_axisOnly _ n)).setAxis _) h)

/-- The inputs of an axis give it at most one counting edge, by the branch of its source, and an index (R43 to R47, R52). -/
theorem State.axInputs_axisOnly (s : State) (n : Nat) : s.axisOnly n (s.axInputs n) := by
  have hedge (t : State) (neg : Bool) (h : s.axisOnly n t) : s.axisOnly n (t.countEdge n neg) :=
    h.trans (t.countEdge_axisOnly n neg)
  have hindex (t : State) {c : Prop} [Decidable c] (h : s.axisOnly n t) : s.axisOnly n (if c then t.index n else t) :=
    .ite (h.trans (t.index_axisOnly n)) h
  refine .ite (s.axisOnly_refl n) ?_
  have h := (s.axisOnly_refl n).setAxis { s.axis n with
    lvA := (s.axLevels n).1, lvB := (s.axLevels n).2.1, lvZ := (s.axLevels n).2.2 }
  refine hindex _ (.ite (.ite (h.trans (State.illegalQuad_axisOnly _ n)) (.ite ?_ h)) (.ite (.ite (hedge _ _ h) h)
    (.ite (.ite (hedge _ _ h) h) (.ite (.ite ?_ (hedge _ _ h)) h))))
  · split
    · exact hedge _ _ h
    · exact h
  · exact (h.setReg _ _).setReg _ _

theorem State.axTick_axisOnly (s : State) (n : Nat) : s.axisOnly n (s.axTick n) := by
  have h {c : Prop} [Decidable c] : s.axisOnly n (if c then s else s.axInputs n) :=
    .ite (s.axisOnly_refl n) (s.axInputs_axisOnly n)
  exact .ite (h.setAxis _) (.setAxis ((h.trans (State.openCycle_axisOnly _ n)).trans (State.axAdvance_axisOnly _ n)) _)

/-! ## The configuration of the axes, which no cycle writes -/

/-- The results of the axes stand above the registers of the other blocks that they read. -/
theorem notMem_axisLog (a n : Nat) (h : a < 0x100120) : a ∉ axisLog n := by
  simp only [axisLog, Reg.axRev, Reg.axIntv, Reg.axVel, Reg.axStat, Reg.axErr, Reg.axZcap, List.mem_cons,
    List.not_mem_nil, or_false]
  omega

/-- The configuration of an axis, at offset `o` of its registers, is none of the results of any. -/
theorem config_notMem_axisLog (k n o : Nat) (h : o < 0x20 ∨ o = 0x38) : 0x100100 + o + k * 0x40 ∉ axisLog n := by
  simp only [axisLog, Reg.axRev, Reg.axIntv, Reg.axVel, Reg.axStat, Reg.axErr, Reg.axZcap, List.mem_cons,
    List.not_mem_nil, or_false]
  omega

section
variable {n : Nat} {s t : State} (h : State.axisOnly n s t)
include h

theorem State.axisOnly.axCfg (k : Nat) : t.reg (Reg.axCfg k) = s.reg (Reg.axCfg k) :=
  h.reg_ne (config_notMem_axisLog k n 0 (by decide))
theorem State.axisOnly.axPin (k : Nat) : t.reg (Reg.axPin k) = s.reg (Reg.axPin k) :=
  h.reg_ne (config_notMem_axisLog k n 4 (by decide))
theorem State.axisOnly.axMod (k : Nat) : t.reg (Reg.axMod k) = s.reg (Reg.axMod k) :=
  h.reg_ne (config_notMem_axisLog k n 0x1C (by decide))
theorem State.axisOnly.axIdxv (k : Nat) : t.reg (Reg.axIdxv k) = s.reg (Reg.axIdxv k) :=
  h.reg_ne (config_notMem_axisLog k n 0x38 (by decide))
theorem State.axisOnly.released : t.released = s.released :=
  congrArg (Word.bit · 1) (h.reg_ne (notMem_axisLog Reg.devStatus n (by decide)))

/-- The value that an index load takes comes from the configuration (R52). -/
theorem State.axisOnly.idxValue (k : Nat) : t.idxValue k = s.idxValue k := by
  simp only [State.idxValue, h.axMod, h.axIdxv]

end

/-! ## An index load, a stall and a lost axis -/

/-- Settles O51: the load follows step 1 of its cycle, which leaves the configuration, and changes C and A alone (R53). -/
theorem indexLoad : Obligations.IndexLoad := by
  intro n s u
  have hu : s.axisOnly n.val u :=
    .ite (s.axisOnly_refl _) ((s.openCycle_axisOnly _).trans (State.axAdvance_axisOnly _ _))
  have hload : (s.idxLoad n.val).axis n.val = { (u.noWraps n.val).axis n.val with
      c := (u.noWraps n.val).idxValue n.val, a := 0, jump := true } := by
    show ((State.setAxis _ _ _).jumped n.val).axis n.val = _
    rw [State.jumped_axis_same, State.setAxis_axis_same]
  have hwraps : (u.noWraps n.val).axis n.val = { u.axis n.val with wraps := (u.axis n.val).wraps + -(u.axis n.val).wraps } :=
    State.addRev_axis_same _ _ _
  rw [hload, hwraps]
  exact ⟨(hu.addRev _).idxValue _, rfl, Nat.zero_div _, rfl, rfl, rfl⟩

/-- Settles O6: each row acts as its rule says on an enabled axis of its kind (R50, R62). -/
theorem axisStops : Obligations.AxisStops := by
  intro n s cfg x hr hen
  refine ⟨fun hsrc => ?_, fun hsrc hlost => ?_⟩
  · have hlocal : (axEn cfg && decide (axSrc cfg ≤ 3) && s.released) = true := by simp [hen, hsrc, hr]
    exact congrArg Host.Outcome.next (if_pos hlocal)
  · have hremote : (axEn cfg && axSrc cfg = 5 && !x.lost && s.released) = true := by simp [hen, hsrc, hlost, hr]
    have hpin (y : Axis) : ((s.setAxis n.val y).setReg (Reg.axVel n.val) 0#32).reg (Reg.axPin n.val) =
        s.reg (Reg.axPin n.val) :=
      (((s.axisOnly_refl n.val).setAxis y).setReg _ _).axPin _
    exact congrArg Host.Outcome.next ((if_pos hremote).trans
      (congrArg (fun w : Word => State.reportAlways _ 0x0B 0x1100 (w.bits 13 0)) (hpin _)))

end Sys2Proof.Machine
end

section
namespace Sys2Proof.Machine

/-! ## Positions modulo the range of an axis (R57, R422) -/

/-- The counts that axis modulus `m` tells apart: M, or 2^48 on a linear axis. -/
def countRange (m : Nat) : Int := if m = 0 then 2 ^ 48 else m

/-- The positions that it tells apart, in units of 2^-16. -/
def posRange (m : Nat) : Int := countRange m * 65536

/-- A position as a number: signed on a linear axis, in [0, M·2^16) on a modulo axis (R57). -/
def posVal (m : Nat) (p : Pos) : Int := if m = 0 then p.toInt else (p.toNat : Int)

theorem sextN_modEq (n b : Nat) : sextN n b ≡ n [ZMOD ((2 ^ b : Nat) : Int)] := by
  have h : ((n % 2 ^ b : Nat) : Int) ≡ n [ZMOD ((2 ^ b : Nat) : Int)] := by
    rw [Int.natCast_mod]
    exact Int.mod_modEq _ _
  unfold sextN
  simp only
  split
  · exact h
  · exact (Int.modEq_sub_modulus_iff.2 h.symm).symm

theorem sextN_lowBits_modEq (i : Int) (b : Nat) : sextN (lowBits i b) b ≡ i [ZMOD ((2 ^ b : Nat) : Int)] := by
  refine (sextN_modEq _ _).trans ?_
  rw [lowBits, Int.toNat_of_nonneg (Int.emod_nonneg _ (by positivity))]
  exact Int.mod_modEq _ _

theorem reduceCount_modEq (m : Nat) (c : Int) : reduceCount m c ≡ c [ZMOD countRange m] := by
  unfold reduceCount countRange
  split
  · exact sextN_lowBits_modEq c 48
  · exact Int.mod_modEq _ _

theorem posRange_eq (m : Nat) : posRange m = if m = 0 then 2 ^ 64 else ((m * 65536 : Nat) : Int) := by
  unfold posRange countRange
  split
  · rfl
  · push_cast
    rfl

theorem ofInt_modEq_congr (i j : Int) (h : i ≡ j [ZMOD 2 ^ 64]) : BitVec.ofInt 64 i = BitVec.ofInt 64 j := by
  apply BitVec.eq_of_toNat_eq
  rw [BitVec.toNat_ofInt, BitVec.toNat_ofInt]
  exact congrArg Int.toNat h

/-- Two numbers that the range does not tell apart are one position. -/
theorem reducePos_congr (m : Nat) (i j : Int) (h : i ≡ j [ZMOD posRange m]) : reducePos m i = reducePos m j := by
  rw [posRange_eq] at h
  unfold reducePos
  split
  · rename_i hm
    rw [if_pos hm] at h
    exact ofInt_modEq_congr i j h
  · rename_i hm
    rw [if_neg hm] at h
    exact congrArg _ h

/-- A reduced position stands for the number it was reduced from. -/
theorem posVal_reducePos (m : Nat) (q : Int) (hm : m < 2 ^ 32) : posVal m (reducePos m q) ≡ q [ZMOD posRange m] := by
  rw [posRange_eq]
  unfold posVal reducePos
  split
  · rw [BitVec.toInt_ofInt]
    exact Int.bmod_emod
  · have h0 := Int.emod_nonneg q (show ((m * 65536 : Nat) : Int) ≠ 0 by omega)
    have h1 := Int.emod_lt_of_pos q (show (0 : Int) < ((m * 65536 : Nat) : Int) by omega)
    rw [BitVec.toNat_ofInt, Int.emod_eq_of_lt h0 (by push_cast at h1 ⊢; omega), Int.toNat_of_nonneg h0]
    exact Int.mod_modEq _ _

/-- Numbers that agree modulo `r * k` agree modulo `r` when they are divided by `k`. -/
theorem ediv_modEq (a b r k : Int) (hk : k ≠ 0) (h : a ≡ b [ZMOD r * k]) : a / k ≡ b / k [ZMOD r] := by
  obtain ⟨c, hc⟩ := h.symm.dvd
  have ha : a = b + r * c * k := by linarith
  rw [ha, Int.add_mul_ediv_right _ _ hk]
  exact Int.modEq_iff_dvd.2 ⟨-c, by ring⟩

/-- A position is its count and its fraction. -/
theorem posVal_split (m : Nat) (p : Pos) :
    (if m = 0 then p.toInt / 65536 else ((p.toNat / 65536 : Nat) : Int)) * 65536 + ((p.toNat % 65536 : Nat) : Int) =
      posVal m p := by
  unfold posVal
  split
  · rw [BitVec.toInt_eq_toNat_cond]
    split <;> omega
  · omega

/-- The count of a reduced position gives the position back. -/
theorem reduceCount_pos (m : Nat) (c g q : Int) (h : c * 65536 + g ≡ q [ZMOD posRange m]) :
    reducePos m (reduceCount m c * 65536 + g) = reducePos m q :=
  reducePos_congr _ _ _ ((((reduceCount_modEq m c).mul_right' (c := 65536)).add_right g).trans h)

/-- The position of a local axis whose fraction is shown (R48). -/
theorem formPos_local (src m : Nat) (x : Axis) (h4 : src ≠ 4) (h5 : src ≠ 5) :
    formPos src true m x =
      reducePos m (x.c * 65536 + if x.neg then -((x.a / 4294967296 : Nat) : Int) else (x.a / 4294967296 : Nat)) := by
  rw [formPos, if_neg h4, if_neg h5]
  rfl

/-- A local axis placed at count `c` and fraction `f`: with d = −1 a fraction counts down from the count above (R54). -/
theorem placeAt_local (src m : Nat) (p : Pos) (x : Axis) (h4 : src ≠ 4) (h5 : src ≠ 5) (c : Int) (f : Nat)
    (hc : (if m = 0 then p.toInt / 65536 else ((p.toNat / 65536 : Nat) : Int)) = c) (hf : p.toNat % 65536 = f) :
    placeAt src m p x =
      if x.neg = true ∧ f ≠ 0 then { x with c := reduceCount m (c + 1), a := (65536 - f) * 4294967296 }
      else { x with c := reduceCount m c, a := f * 4294967296 } := by
  subst hc hf
  rw [placeAt, if_neg h4, if_neg h5]
  simp

/-- An axis whose fraction is shown stands where it was placed (R54). -/
theorem formPos_placeAt (src m : Nat) (interp : Bool) (q : Int) (x : Axis) (hm : m < 2 ^ 32)
    (h : src = 4 ∨ src = 5 ∨ interp = true) :
    formPos src interp m (placeAt src m (reducePos m q) x) = reducePos m q := by
  have hval : posVal m (reducePos m q) ≡ q [ZMOD posRange m] := posVal_reducePos m q hm
  have hacc : reducePos m (posVal m (reducePos m q) * 4294967296 / 4294967296) = reducePos m q := by
    rw [Int.mul_ediv_cancel _ (by decide)]
    exact reducePos_congr _ _ _ hval
  by_cases h4 : src = 4
  · subst h4
    exact hacc
  by_cases h5 : src = 5
  · subst h5
    exact hacc
  obtain rfl : interp = true := by simpa [h4, h5] using h
  have hf : (reducePos m q).toNat % 65536 < 65536 := Nat.mod_lt _ (by decide)
  rw [← posVal_split] at hval
  rw [formPos_local _ _ _ h4 h5, placeAt_local _ _ _ _ h4 h5 _ _ rfl rfl]
  generalize (reducePos m q).toNat % 65536 = f at *
  generalize (if m = 0 then (reducePos m q).toInt / 65536 else (((reducePos m q).toNat / 65536 : Nat) : Int)) = c at *
  by_cases hd : x.neg = true ∧ f ≠ 0
  · rw [if_pos hd]
    simp only [hd.1, if_true, Nat.mul_div_cancel _ (show 0 < 4294967296 by decide)]
    have hdown : (c + 1) * 65536 + -((65536 - f : Nat) : Int) = c * 65536 + f := by omega
    exact reduceCount_pos m _ _ q (by rw [hdown]; exact hval)
  · have hg : (if x.neg then -(f : Int) else f) = f := by
      by_cases hx : x.neg = true
      · simp [show f = 0 by simpa [hx] using hd]
      · simp [hx]
    rw [if_neg hd]
    simp only [Nat.mul_div_cancel _ (show 0 < 4294967296 by decide), hg]
    exact reduceCount_pos m _ _ q hval

end Sys2Proof.Machine
end

section
namespace Sys2Proof.Machine

/-! ## LOAD and ADD (R54 to R57) -/

theorem placeAt_keeps (src m : Nat) (p : Pos) (x : Axis) :
    (placeAt src m p x).inc = x.inc ∧ (placeAt src m p x).e = x.e ∧ (placeAt src m p x).neg = x.neg := by
  unfold placeAt
  simp only
  split_ifs <;> exact ⟨rfl, rfl, rfl⟩

/-- From `s` to `u` nothing has changed but the wraps of axis `n` in the present cycle and AXn_REV, which counts them. -/
def State.revOnly (n : Nat) (s u : State) : Prop :=
  s.axisOnly n u ∧ (∀ a, a ≠ Reg.axRev n → u.reg a = s.reg a) ∧ ∃ w, u.axis n = { s.axis n with wraps := w }

theorem State.revOnly_refl (n : Nat) (s : State) : s.revOnly n s := ⟨s.axisOnly_refl n, fun _ _ => rfl, _, rfl⟩

theorem State.revOnly_addRev (n : Nat) (s : State) (k : Int) : s.revOnly n (s.addRev n k) :=
  ⟨(s.axisOnly_refl n).addRev k, fun _ ha => State.setReg_reg_ne _ _ _ _ ha, _, State.addRev_axis_same _ _ _⟩

/-- What LOAD and ADD leave, with `y` the axis in its new place: a jump, with INC, e and d kept (R54, R55). -/
theorem State.jumped_place {n : Nat} {s u : State} (hu : s.revOnly n u) (y : Axis)
    (hinc : y.inc = (u.axis n).inc) (he : y.e = (u.axis n).e) (hneg : y.neg = (u.axis n).neg) :
    let t := (u.setAxis n y).jumped n
    t.axPos n = formPos (axSrc (s.reg (Reg.axCfg n))) ((s.reg (Reg.axCfg n)).bit 9) (s.reg (Reg.axMod n)).toNat y ∧
      (t.axis n).jump = true ∧ (t.reg (Reg.axStat n)).bit 6 = true ∧ (t.axis n).inc = (s.axis n).inc ∧
      (t.axis n).e = (s.axis n).e ∧ (t.axis n).neg = (s.axis n).neg ∧ t.reg (Reg.axRev n) = u.reg (Reg.axRev n) ∧
      (∀ a, a ≠ Reg.axStat n → a ≠ Reg.axRev n → t.reg a = s.reg a) ∧ ∀ k, k ≠ n → t.axis k = s.axis k := by
  intro t
  obtain ⟨honly, hreg, w, hw⟩ := hu
  have ht : s.axisOnly n t := (honly.setAxis y).jumped
  have hx : t.axis n = { y with jump := true } := by rw [State.jumped_axis_same, State.setAxis_axis_same]
  have hother (a : Nat) (ha : a ≠ Reg.axStat n) : t.reg a = u.reg a := State.orReg_reg_ne _ _ _ _ ha
  rw [hx, State.axPos, ht.axCfg, ht.axMod, hx]
  refine ⟨rfl, rfl, State.jumped_stat _ _, ?_, ?_, ?_, hother _ ?_, fun a ha hr => (hother a ha).trans (hreg a hr),
    fun _ hk => ht.axis_ne hk⟩
  · exact hinc.trans (by rw [hw])
  · exact he.trans (by rw [hw])
  · exact hneg.trans (by rw [hw])
  · simp only [Reg.axRev, Reg.axStat]
    omega

/-- The accumulator of a time axis that ADD moves by `d` (R54). -/
def timeSum (m : Nat) (acc d : Int) : Int :=
  if m = 0 then sextN (lowBits (acc + d * 4294967296) 96) 96 else (acc + d * 4294967296) % ((m * 2 ^ 48 : Nat) : Int)

/-- A time axis keeps its sub-fraction: its position moves by the whole of SET (R54). -/
theorem reducePos_timeSum (m : Nat) (acc d : Int) (hm : m < 2 ^ 32) :
    reducePos m (timeSum m acc d / 4294967296) = reducePos m (posVal m (reducePos m (acc / 4294967296)) + d) := by
  have hsum : timeSum m acc d ≡ acc + d * 4294967296 [ZMOD posRange m * 4294967296] := by
    rw [posRange_eq, timeSum]
    split
    · exact sextN_lowBits_modEq _ 96
    · have hr : ((m * 65536 : Nat) : Int) * 4294967296 = ((m * 2 ^ 48 : Nat) : Int) := by push_cast; ring
      rw [hr]
      exact Int.mod_modEq _ _
  refine reducePos_congr _ _ _ ((ediv_modEq _ _ _ _ (by decide) hsum).trans ?_)
  rw [Int.add_mul_ediv_right _ _ (by decide)]
  exact (posVal_reducePos m _ hm).symm.add_right d

theorem State.revOnly.axSet {n : Nat} {s u : State} (h : State.revOnly n s u) : u.axSet n = s.axSet n := by
  obtain ⟨-, hreg, -⟩ := h
  have hhi : u.reg (Reg.axSetHi n) = s.reg (Reg.axSetHi n) := hreg _ (by simp only [Reg.axSetHi, Reg.axRev]; omega)
  have hlo : u.reg (Reg.axSetLo n) = s.reg (Reg.axSetLo n) := hreg _ (by simp only [Reg.axSetLo, Reg.axRev]; omega)
  simp only [State.axSet, hhi, hlo]

/-- ADD counts its wraps, and leaves the axis where its position and SET together reduce to (R54, R57). -/
theorem axisAdd_moves (n : Nat) (s : State) (hshown : axSrc (s.reg (Reg.axCfg n)) = 4 ∨ axSrc (s.reg (Reg.axCfg n)) = 5 ∨
      (s.reg (Reg.axCfg n)).bit 9 = true) :
    ∃ (u : State) (y : Axis), s.revOnly n u ∧ axisAdd n s = (u.setAxis n y).jumped n ∧
      (y.inc = (u.axis n).inc ∧ y.e = (u.axis n).e ∧ y.neg = (u.axis n).neg) ∧
      formPos (axSrc (s.reg (Reg.axCfg n))) ((s.reg (Reg.axCfg n)).bit 9) (s.reg (Reg.axMod n)).toNat y =
        reducePos (s.reg (Reg.axMod n)).toNat (posVal (s.reg (Reg.axMod n)).toNat (s.axPos n) + (s.axSet n).toInt) := by
  have hm : (s.reg (Reg.axMod n)).toNat < 2 ^ 32 := (s.reg (Reg.axMod n)).isLt
  have hrev (k : Int) : s.revOnly n (if (s.reg (Reg.axMod n)).toNat = 0 then s else s.addRev n k) := by
    split
    · exact s.revOnly_refl n
    · exact s.revOnly_addRev n k
  by_cases h4 : axSrc (s.reg (Reg.axCfg n)) = 4
  · have hnow : s.axPos n = reducePos (s.reg (Reg.axMod n)).toNat ((s.axis n).acc / 4294967296) := if_pos h4
    rw [hnow]
    exact ⟨_, _, hrev _, if_pos h4, ⟨rfl, rfl, rfl⟩, (if_pos h4).trans (reducePos_timeSum _ _ _ hm)⟩
  · exact ⟨_, _, hrev _, if_neg h4, placeAt_keeps _ _ _ _, formPos_placeAt _ _ _ _ _ hm hshown⟩

/-- Settles O4: LOAD and ADD place the axis, which then stands there, and jump (R54, R55). -/
theorem axisLoadExact : Obligations.AxisLoadExact := by
  intro n s hopen cfg m hshown
  constructor
  · have hu : s.ok.revOnly n.val (s.ok.noWraps n.val) := s.ok.revOnly_addRev _ _
    obtain ⟨kinc, ke, kneg⟩ := placeAt_keeps (axSrc cfg) m (reducePos m ((s.ok.noWraps n.val).axSet n.val).toInt)
      ((s.ok.noWraps n.val).axis n.val)
    obtain ⟨hpos, hjump, hstat, hinc, he, hneg, hrev, hreg, haxes⟩ := State.jumped_place hu _ kinc ke kneg
    refine ⟨axisLoad n.val s.ok, congrArg Host.Outcome.next (s.viaBlock_opens .eas _ hopen), hpos.trans ?_, hjump, hstat,
      hinc, he, hneg, hrev.trans ?_, hreg, haxes⟩
    · rw [hu.axSet]
      exact formPos_placeAt _ _ _ _ _ (s.reg (Reg.axMod n.val)).isLt hshown
    · rw [State.noWraps, State.addRev_reg_same, ← Int.sub_eq_add_neg]
      rfl
  · obtain ⟨u, y, hu, hadd, ⟨kinc, ke, kneg⟩, hform⟩ := axisAdd_moves n.val s.ok hshown
    obtain ⟨hpos, hjump, hstat, hinc, he, hneg, -, hreg, haxes⟩ := State.jumped_place hu y kinc ke kneg
    refine ⟨axisAdd n.val s.ok, congrArg Host.Outcome.next (s.viaBlock_opens .eas _ hopen), ?_⟩
    rw [hadd]
    exact ⟨hpos.trans hform, hjump, hstat, hinc, he, hneg, hreg, haxes⟩

end Sys2Proof.Machine
end

section
namespace Sys2Proof.Machine

/-! ## A change of one pin reaches one axis -/

theorem foldl_eq_self {α β : Type} (f : α → β → α) (s : α) (l : List β) (h : ∀ k ∈ l, f s k = s) : l.foldl f s = s := by
  induction l with
  | nil => rfl
  | cons k r ih =>
    rw [List.foldl_cons, h k List.mem_cons_self]
    exact ih fun j hj => h j (List.mem_cons_of_mem _ hj)

/-- A fold in which only element `n` acts. -/
theorem foldl_eq_one {α : Type} (f : α → Nat → α) (s : α) (l : List Nat) (n : Nat) (hn : n ∈ l) (hd : l.Nodup)
    (hbefore : ∀ k ∈ l, k ≠ n → f s k = s) (hafter : ∀ k ∈ l, k ≠ n → f (f s n) k = f s n) : l.foldl f s = f s n := by
  obtain ⟨p, q, rfl⟩ := List.append_of_mem hn
  obtain ⟨hp, hq⟩ := List.nodup_middle.1 hd |> List.nodup_cons.1 |>.1 |> List.mem_append.not.1 |> not_or.1
  rw [List.foldl_append, List.foldl_cons, foldl_eq_self f s p fun k hk => hbefore k (by simp [hk]) fun e => hp (e ▸ hk)]
  exact foldl_eq_self f _ q fun k hk => hafter k (by simp [hk]) fun e => hq (e ▸ hk)

theorem getLsbD_ofNat_two_pow (p k : Nat) (hp : p < 64) : (BitVec.ofNat 64 (2 ^ p)).getLsbD k = decide (k = p) := by
  rw [BitVec.getLsbD_ofNat, Nat.testBit_two_pow]
  by_cases h : k = p
  · simp [h, hp]
  · simp [h, Ne.symm h]

/-- A pin without a filter is accepted in the cycle of its change (R40). -/
theorem State.acceptedPins_one (s : State) (p : Fin 64) (h : s.reg (Reg.tpCfg p.val) = 0#32) :
    s.acceptedPins (BitVec.ofNat 64 (2 ^ p.val)) 1 = [p.val] := by
  have hone : ∀ p : Fin 64, (List.range 64).filter (fun k => decide (k = p.val)) = [p.val] := by decide
  rw [← hone p]
  refine List.filter_congr fun k _ => ?_
  rw [getLsbD_ofNat_two_pow _ _ p.isLt]
  by_cases hk : k = p.val
  · subst hk
    simp [State.regF, h, filterLen, Word.bits, bitsOf]
  · simp [hk]

theorem setLevel_getLsbD_same (v : BitVec 64) (p : Nat) (hp : p < 64) : (setLevel v p true).getLsbD p = true := by
  rw [setLevel, if_pos rfl, BitVec.getLsbD_or, getLsbD_ofNat_two_pow p p hp]
  simp

theorem State.axInputs_disabled (s : State) (n : Nat) (h : axEn (s.reg (Reg.axCfg n)) = false) : s.axInputs n = s := by
  simp [State.axInputs, h]

/-- The decoder of axis `n` has seen the levels of its inputs (R39, R43). -/
def State.seeLevels (s : State) (n : Nat) : State :=
  s.setAxis n { s.axis n with lvA := (s.axLevels n).1, lvB := (s.axLevels n).2.1, lvZ := (s.axLevels n).2.2 }

theorem State.seeLevels_axis_same (s : State) (n : Nat) : (s.seeLevels n).axis n =
    { s.axis n with lvA := (s.axLevels n).1, lvB := (s.axLevels n).2.1, lvZ := (s.axLevels n).2.2 } :=
  State.setAxis_axis_same _ _ _

/-- On a pulse-count axis with EDGE 0 a rise of A is a counting edge in the direction of DIR_INV (R46). -/
theorem State.axInputs_rise (s : State) (n : Nat) (hr : s.released = true) (hen : axEn (s.reg (Reg.axCfg n)) = true)
    (hsrc : axSrc (s.reg (Reg.axCfg n)) = 2) (hedge : (s.reg (Reg.axCfg n)).bits 7 6 = 0)
    (hwas : (s.axis n).lvA = false) (hnow : (s.axLevels n).1 = true) :
    s.axInputs n = (s.seeLevels n).countEdge n ((s.reg (Reg.axCfg n)).bit 8) := by
  simp [State.axInputs, State.seeLevels, hr, hen, hsrc, hedge, hwas, hnow, edgeSel]

/-! ## A counting edge (R48) -/

/-- The opening of a cycle writes AXn_VEL and no other register (R51). -/
theorem State.openCycle_reg_ne (s : State) (n a : Nat) (h : a ≠ Reg.axVel n) : (s.openCycle n).reg a = s.reg a := by
  have hclose : (s.closeEntries n).regs = s.regs := by
    unfold State.closeEntries
    split <;> rfl
  have hreg : (s.closeEntries n).reg a = s.reg a := by simp only [State.reg, hclose]
  unfold State.openCycle
  simp only
  split
  · rfl
  · split
    · exact (State.setReg_reg_ne _ _ _ _ h).trans hreg
    · exact hreg

/-- The axis, AXn_INTV and AXn_REV after an edge that opens its cycle (R48, R57). -/
theorem State.countEdge_opens (s : State) (n : Nat) (neg : Bool) (h : (s.axis n).opened = false) :
    let t := s.countEdge n neg
    let cfg := s.reg (Reg.axCfg n)
    let m := (s.reg (Reg.axMod n)).toNat
    let x := s.axis n
    let c1 := x.c + (if neg then -1 else 1)
    (t.axis n).c = reduceCount m c1 ∧ (t.axis n).a = 0 ∧ (t.axis n).e = 0 ∧ (t.axis n).known = true ∧
      (t.axis n).neg = neg ∧ (t.axis n).inc =
        (if x.known = true ∧ x.neg = neg ∧ x.e < stallLimit cfg then 2 ^ 48 / Nat.max x.e 1 else 0) ∧
      t.reg (Reg.axIntv n) = word x.e ∧ (t.axis n).velDue = true ∧
      t.reg (Reg.axRev n) = wordI ((s.reg (Reg.axRev n)).toNat + (if m = 0 then 0 else c1 / (m : Int))) := by
  have hopen := s.openCycle_axis_same n h
  have honly := s.openCycle_axisOnly n
  have hrev : (s.openCycle n).reg (Reg.axRev n) = s.reg (Reg.axRev n) :=
    s.openCycle_reg_ne n _ (by simp only [Reg.axRev, Reg.axVel]; omega)
  have hne : Reg.axIntv n ≠ Reg.axRev n := by simp only [Reg.axIntv, Reg.axRev]; omega
  simp only [State.countEdge, honly.axCfg, honly.axMod, hopen, State.setAxis_axis_same, State.setAxis_reg,
    State.addRev_reg_same, State.setReg_reg_ne _ _ _ _ hne.symm, hrev, true_and, and_true]
  refine ⟨?_, ?_⟩
  · simp only [Bool.and_eq_true, beq_iff_eq, decide_eq_true_eq, eq_comm (a := neg), and_assoc]
  · exact (State.setReg_reg_ne _ _ _ _ hne).trans (State.setReg_reg_same _ _ _)

/-- The axis input on a pin without inversion that is no output is the level at the pin (R38). -/
theorem State.pinLevel_plain (s : State) (p : Nat) (h : s.reg (Reg.tpCfg p) = 0#32) :
    s.pinLevel p = s.eas.level.getLsbD p := by
  simp [State.pinLevel, State.pinIn, State.regB, h, Word.bit]

/-- The state with the level of pin `p` high. -/
def State.pinHigh (s : State) (p : Nat) : State := { s with eas.level := setLevel s.eas.level p true }

/-- A rise of one pin that no filter holds back is presented to every axis (R40). -/
theorem timingPinEdge_one (s : State) (p : Fin 64) (h : s.reg (Reg.tpCfg p.val) = 0#32) :
    timingPinEdge (BitVec.ofNat 64 (2 ^ p.val)) (BitVec.ofNat 64 (2 ^ p.val)) 1 s =
      (List.range 16).foldl (fun s n => s.axInputs n) (s.pinHigh p.val) := by
  have hlevel : (BitVec.ofNat 64 (2 ^ p.val)).getLsbD p.val = true := by
    rw [getLsbD_ofNat_two_pow _ _ p.isLt]
    simp
  simp only [timingPinEdge, s.acceptedPins_one p h, List.foldl_cons, List.foldl_nil, hlevel, State.pinHigh]

/-- Settles O5: the rise reaches the one enabled axis, where it is a counting edge (R46, R48). -/
theorem countingEdge : Obligations.CountingEdge := by
  intro n p s cfg m x c1 hr hen hsrc hedge hothers hpin htp _ hlow hopen
  have hnow : ((s.pinHigh p.val).axLevels n.val).1 = true := by
    show (s.pinHigh p.val).pinLevel ((s.reg (Reg.axPin n.val)).bits 5 0) = true
    rw [hpin, (s.pinHigh p.val).pinLevel_plain p.val htp]
    exact setLevel_getLsbD_same _ _ p.isLt
  have hrise := (s.pinHigh p.val).axInputs_rise n.val hr hen hsrc hedge hlow hnow
  have honly : (s.pinHigh p.val).axisOnly n.val ((s.pinHigh p.val).axInputs n.val) := State.axInputs_axisOnly _ _
  have hfold : (List.range 16).foldl (fun s n => s.axInputs n) (s.pinHigh p.val) = (s.pinHigh p.val).axInputs n.val := by
    refine foldl_eq_one _ _ _ n.val (List.mem_range.2 n.isLt) List.nodup_range (fun k hk hne => ?_) (fun k hk hne => ?_)
    · exact State.axInputs_disabled _ _ (hothers ⟨k, List.mem_range.1 hk⟩ fun e => hne (congrArg Fin.val e))
    · refine State.axInputs_disabled _ _ ?_
      rw [honly.axCfg]
      exact hothers ⟨k, List.mem_range.1 hk⟩ fun e => hne (congrArg Fin.val e)
  have hx := (s.pinHigh p.val).seeLevels_axis_same n.val
  obtain ⟨hc, ha, he, hknown, hneg, hinc, hintv, hvel, hrev⟩ :=
    ((s.pinHigh p.val).seeLevels n.val).countEdge_opens n.val (cfg.bit 8) (by rw [hx]; exact hopen)
  refine ⟨_, congrArg Host.Outcome.next ((timingPinEdge_one s p htp).trans hfold), ?_⟩
  rw [hrise]
  rw [hx] at hc hinc hintv hrev
  refine ⟨hc, ha, he, hknown, hneg, hinc, hintv, hvel, hrev, fun k hk => ?_⟩
  rw [← hrise]
  exact honly.axis_ne fun e => hk (Fin.ext e)

end Sys2Proof.Machine
end

section
namespace Sys2Proof.Machine

/-! ## What the cycle of one axis leaves of the others -/

theorem tpCfg_notMem_axisLog (p k : Nat) (hk : k < 16) : Reg.tpCfg p ∉ axisLog k := by
  simp only [axisLog, Reg.tpCfg, Reg.axRev, Reg.axIntv, Reg.axVel, Reg.axStat, Reg.axErr, Reg.axZcap, List.mem_cons,
    List.not_mem_nil, or_false]
  omega

/-- The level of a pin, driven or read, is not a matter of any axis (R38). -/
theorem State.axisOnly.pinLevel {k : Nat} {s t : State} (h : State.axisOnly k s t) (hk : k < 16) (p : Nat) (hp : p < 64) :
    t.pinLevel p = s.pinLevel p := by
  have htp (i : Nat) : t.regB (Reg.tpCfg p) i = s.regB (Reg.tpCfg p) i :=
    congrArg (Word.bit · i) (h.reg_ne (tpCfg_notMem_axisLog p k hk))
  have hctl : t.regB Reg.easCtrl 1 = s.regB Reg.easCtrl 1 :=
    congrArg (Word.bit · 1) (h.reg_ne (notMem_axisLog _ k (by decide)))
  have hio : t.regB (Reg.pwrIocfg p) 6 = s.regB (Reg.pwrIocfg p) 6 :=
    congrArg (Word.bit · 6) (h.reg_ne (notMem_axisLog _ k (by simp only [Reg.pwrIocfg]; omega)))
  have hsafe : t.safeCode p = s.safeCode p :=
    congrArg (Word.bits · _ _) (h.reg_ne (notMem_axisLog _ k (by simp only [Reg.pwrSafe]; omega)))
  have hpin : t.pin p = s.pin p := by rw [h.1]; rfl
  have hlevel : t.eas.level = s.eas.level := by rw [h.1]
  have hwants : t.pinWants p = s.pinWants p := by simp only [State.pinWants, State.pinDrive, htp, hpin]
  have hout : t.pinOut p = s.pinOut p := by rw [State.pinOut, State.pinOut, hctl, hsafe, hwants, hio]
  simp only [State.pinLevel, State.pinIn, htp, hout, hlevel]

theorem State.axisOnly.inputsMoved {k : Nat} {s t : State} (h : State.axisOnly k s t) (hk : k < 16) (n : Nat)
    (hn : n ≠ k) : t.inputsMoved n = s.inputsMoved n := by
  have hlt (hi lo : Nat) (hw : hi + 1 - lo = 6) : (s.reg (Reg.axPin n)).bits hi lo < 64 := by
    rw [Word.bits, bitsOf, hw]
    exact Nat.mod_lt _ (by decide)
  simp only [State.inputsMoved, State.axLevels, h.axPin, h.axis_ne hn, h.pinLevel hk _ (hlt 5 0 rfl),
    h.pinLevel hk _ (hlt 13 8 rfl), h.pinLevel hk _ (hlt 21 16 rfl)]

/-- From `s` to `t` nothing has changed of what a cycle of axis `n` acts on. -/
def State.keepsAxis (n : Nat) (s t : State) : Prop :=
  t.axis n = s.axis n ∧ t.inputsMoved n = s.inputsMoved n ∧ t.released = s.released ∧
    t.reg (Reg.axCfg n) = s.reg (Reg.axCfg n) ∧ t.reg (Reg.axMod n) = s.reg (Reg.axMod n)

theorem State.keepsAxis.trans {n : Nat} {s t u : State} (h : State.keepsAxis n s t) (g : State.keepsAxis n t u) :
    State.keepsAxis n s u := by
  obtain ⟨h1, h2, h3, h4, h5⟩ := h
  obtain ⟨g1, g2, g3, g4, g5⟩ := g
  exact ⟨g1.trans h1, g2.trans h2, g3.trans h3, g4.trans h4, g5.trans h5⟩

theorem State.foldl_axTick_keeps (n : Nat) (l : List Nat) (s : State) (hl : ∀ k ∈ l, k < 16) (hn : n ∉ l) :
    s.keepsAxis n (l.foldl (fun s k => s.axTick k) s) := by
  induction l generalizing s with
  | nil => exact ⟨rfl, rfl, rfl, rfl, rfl⟩
  | cons k r ih =>
    have h := s.axTick_axisOnly k
    have hk : n ≠ k := fun e => hn (e ▸ List.mem_cons_self)
    refine State.keepsAxis.trans ⟨h.axis_ne hk, h.inputsMoved (hl k List.mem_cons_self) n hk, h.released, h.axCfg n, h.axMod n⟩ ?_
    exact ih _ (fun j hj => hl j (List.mem_cons_of_mem _ hj)) fun hj => hn (List.mem_cons_of_mem _ hj)

/-- The cycle is counted, and the same-cycle targets of R72 are forgotten. -/
def State.cycleEnd (s : State) : State := { s with cyc := s.cyc + 1, eas.fired := [] }

theorem interpolator_eq (s : State) :
    interpolator s = ((List.range 16).foldl (fun s k => s.axTick k) s).cycleEnd := rfl

theorem State.cycleEnd_axis (s : State) (n : Nat) : s.cycleEnd.axis n = s.axis n := rfl
theorem State.cycleEnd_quiet (s : State) : s.cycleEnd.quiet = s.quiet := rfl
theorem State.cycleEnd_dis (s : State) : s.cycleEnd.dis = s.dis := rfl
theorem State.cycleEnd_cyc (s : State) : s.cycleEnd.cyc = s.cyc + 1 := rfl

/-- An EKL cycle leaves axis `n` as its own tick does, from a state that keeps what this acts on. -/
theorem interpolator_axis (n : Fin 16) (s : State) :
    ∃ u, s.keepsAxis n.val u ∧ (interpolator s).axis n.val = (u.axTick n.val).axis n.val := by
  obtain ⟨p, q, hpq⟩ := List.append_of_mem (List.mem_range.2 n.isLt)
  have hd : (p ++ n.val :: q).Nodup := hpq ▸ List.nodup_range
  have hlt : ∀ k ∈ p ++ n.val :: q, k < 16 := fun k hk => List.mem_range.1 (hpq ▸ hk)
  obtain ⟨hp, hq⟩ := not_or.1 (List.mem_append.not.1 (List.nodup_cons.1 (List.nodup_middle.1 hd)).1)
  refine ⟨p.foldl (fun s k => s.axTick k) s,
    State.foldl_axTick_keeps n.val p s (fun k hk => hlt k (by simp [hk])) hp, ?_⟩
  rw [interpolator_eq, State.cycleEnd_axis, hpq, List.foldl_append, List.foldl_cons]
  exact (State.foldl_axTick_keeps n.val q _ (fun k hk => hlt k (by simp [hk])) hq).1

/-! ## The cycle of an axis that nothing has opened (R48, R59) -/

theorem State.axTick_unopened (s : State) (n : Nat) (h : (s.axis n).opened = false)
    (hin : s.inputsMoved n = false ∨ s.axInputs n = s) :
    (s.axTick n).axis n = { ((s.openCycle n).axAdvance n).axis n with opened := false } := by
  have hs : (if (s.axis n).opened || !s.inputsMoved n then s else s.axInputs n) = s := by
    rcases hin with hin | hin
    · simp [hin]
    · simp [hin]
  unfold State.axTick
  rw [hs]
  simp [h]

theorem State.axAdvance_disabled (s : State) (n : Nat) (h : axEn (s.reg (Reg.axCfg n)) = false) : s.axAdvance n = s := by
  simp [State.axAdvance, h]

/-- Without an edge a local axis adds one to e and INC to A, each up to its top (R48). -/
theorem State.axAdvance_local (s : State) (n : Nat) (hr : s.released = true) (hen : axEn (s.reg (Reg.axCfg n)) = true)
    (hsrc : axSrc (s.reg (Reg.axCfg n)) ≤ 3) :
    ∃ t, (s.axAdvance n).axis n = { s.axis n with
      e := Nat.min ((s.axis n).e + 1) (stallLimit (s.reg (Reg.axCfg n)))
      a := Nat.min ((s.axis n).a + (s.axis n).inc) (2 ^ 48 - 1), period := t } := by
  simp only [State.axAdvance, hr, hen, hsrc, Bool.and_self, Bool.not_true, Bool.false_eq_true, if_false, if_true]
  split <;> exact ⟨_, State.setAxis_axis_same _ _ _⟩

/-- A linear time axis adds STEP to its accumulator, modulo 2^96 (R59). -/
theorem State.axAdvance_time (s : State) (n : Nat) (hr : s.released = true) (hen : axEn (s.reg (Reg.axCfg n)) = true)
    (hsrc : axSrc (s.reg (Reg.axCfg n)) = 4) (hm : s.reg (Reg.axMod n) = 0#32) :
    (s.axAdvance n).axis n =
      { s.axis n with acc := sextN (lowBits ((s.axis n).acc + (s.axis n).step) 96) 96 } := by
  simp [State.axAdvance, hr, hen, hsrc, hm]

end Sys2Proof.Machine
end

section
namespace Sys2Proof.Machine

/-! ## The rest of the end of an EKL cycle -/

/-- From `s` to `t` no access has set out or been answered, and the cycle is the same. -/
def State.sameTraffic (s t : State) : Prop :=
  t.quiet = s.quiet ∧ t.cyc = s.cyc ∧ t.dis.injWait = s.dis.injWait

theorem State.sameTraffic.trans {s t u : State} (h : State.sameTraffic s t) (g : State.sameTraffic t u) :
    State.sameTraffic s u := by
  obtain ⟨h1, h2, h3⟩ := h
  obtain ⟨g1, g2, g3⟩ := g
  exact ⟨g1.trans h1, g2.trans h2, g3.trans h3⟩

theorem State.axisOnly.sameTraffic {n : Nat} {s t : State} (h : State.axisOnly n s t) : s.sameTraffic t := by
  rw [h.1]
  exact ⟨rfl, rfl, rfl⟩

theorem State.foldl_axTick_sameTraffic (l : List Nat) (s : State) : s.sameTraffic (l.foldl (fun s k => s.axTick k) s) := by
  induction l generalizing s with
  | nil => exact ⟨rfl, rfl, rfl⟩
  | cons k r ih => exact (s.axTick_axisOnly k).sameTraffic.trans (ih _)

/-- So it is, and the Easel is as it was. -/
def State.easelKept (s t : State) : Prop := t.eas = s.eas ∧ s.sameTraffic t

theorem State.easelKept_refl (s : State) : s.easelKept s := ⟨rfl, rfl, rfl, rfl⟩

theorem State.easelKept.trans {s t u : State} (h : State.easelKept s t) (g : State.easelKept t u) : State.easelKept s u :=
  ⟨g.1.trans h.1, h.2.trans g.2⟩

theorem State.easelKept.injWait {s t : State} (h : State.easelKept s t) : t.dis.injWait = s.dis.injWait := by
  obtain ⟨-, -, -, hwait⟩ := h
  exact hwait

theorem State.foldl_easelKept {α : Type} (f : State → α → State) (h : ∀ s k, State.easelKept s (f s k)) (l : List α)
    (s : State) : s.easelKept (l.foldl f s) := by
  induction l generalizing s with
  | nil => exact s.easelKept_refl
  | cons k r ih => exact (h s k).trans (ih _)

theorem State.nocOnly.easelKept {s t : State} (h : s.nocOnly t) : s.easelKept t := by
  rw [h.1]
  exact ⟨rfl, rfl, rfl, rfl⟩

theorem State.report_easelKept (s : State) (code unit : Nat) : s.easelKept (s.report code unit) := by
  unfold State.report State.reportOn State.reportOnce
  split <;> exact ⟨rfl, rfl, rfl, rfl⟩

/-- A contention detector counts, shows and reports (R126). -/
theorem State.contend_easelKept (s : State) (n j line pos : Nat) : s.easelKept (s.contend n j line pos) := by
  have hcount (s : State) (t : Nat) :
      s.easelKept ((s.orReg (Reg.tileXstat t) (2 ^ j)).tileCount t (Reg.tileXcont t) n) := by
    unfold State.tileCount
    split <;> exact ⟨rfl, rfl, rfl, rfl⟩
  have hfold := s.foldl_easelKept _ hcount (s.drivers j line pos)
  unfold State.contend
  simp only
  split
  · exact ⟨rfl, rfl, rfl, rfl⟩
  · split
    · exact hfold
    · exact (hfold.trans ⟨rfl, rfl, rfl, rfl⟩).trans (State.report_easelKept _ _ _)

theorem State.contendCycle_easelKept (s : State) : s.easelKept s.contendCycle :=
  State.foldl_easelKept _ (fun s _ => s.contend_easelKept _ _ _ _) _ s

/-- A token enters its channel, or is dropped at the fence (R30, R292). -/
theorem State.sendToken_easelKept (s : State) (ch : Nat) (tk : Token) : s.easelKept (s.sendToken ch tk) := by
  have hplace (u : State) : u.easelKept (if u.domFenced 10 && (chanNi ch).isSome then u.fenceDrop
      else u.setChan ch { u.chan ch with transit := (u.chan ch).transit ++ [tk] }) := by
    split <;> exact ⟨rfl, rfl, rfl, rfl⟩
  unfold State.sendToken
  refine State.easelKept.trans ?_ (hplace _)
  split
  · exact (s.wordSent_only _ _).easelKept
  · exact s.easelKept_refl

/-- A source that sends the token at its head leaves the Easel. -/
theorem State.easelKept.send {s u : State} (h : State.easelKept s u) (ch : Nat) (tk : Token) {c : Prop} [Decidable c] :
    State.easelKept s (if c then u.sendToken ch tk else s) := by
  split
  · exact h.trans (u.sendToken_easelKept ch tk)
  · exact s.easelKept_refl

theorem State.injExpire_none (s : State) (h : s.dis.injWait = []) : s.injExpire = s := by
  simp only [State.injExpire, h, List.filter_nil, List.foldl_nil]
  rw [← h]

/-- Each of the sources that wait sends one token, or none (R292). -/
theorem State.creditReturn_easelKept (s : State) (ch : Nat) (h : s.dis.injWait = []) : s.easelKept (s.creditReturn ch) := by
  unfold State.creditReturn
  split_ifs
  · unfold State.palDrain
    split
    · exact s.easelKept_refl
    · refine State.easelKept.send ?_ _ _
      exact ⟨rfl, rfl, rfl, rfl⟩
  · unfold State.postDrain
    split
    · exact s.easelKept_refl
    · refine State.easelKept.send ?_ _ _
      exact ⟨rfl, rfl, rfl, rfl⟩
  · unfold State.shgDrain
    split
    · exact s.easelKept_refl
    · refine State.easelKept.send ?_ _ _
      exact ⟨rfl, rfl, rfl, rfl⟩
  · unfold State.collDrain
    split
    · exact s.easelKept_refl
    · refine State.easelKept.send ?_ _ _
      exact ⟨rfl, rfl, rfl, rfl⟩
  · have hinj : s.injDrain = s := by simp [State.injDrain, s.injExpire_none h, h]
    rw [hinj]
    exact s.easelKept_refl
  · exact s.easelKept_refl

theorem State.sourcesWake_easelKept (s : State) (h : s.dis.injWait = []) : s.easelKept s.sourcesWake := by
  have hall (l : List Nat) (s : State) (h : s.dis.injWait = []) :
      s.easelKept (l.foldl (fun s i => s.creditReturn (5 + i)) s) := by
    induction l generalizing s with
    | nil => exact s.easelKept_refl
    | cons i r ih =>
      have hi := s.creditReturn_easelKept (5 + i) h
      exact hi.trans (ih _ (hi.injWait.trans h))
  exact hall _ s h

/-- With no staging READ and no SKETCH action in the cycle, its end before the axes keeps what they act on. -/
theorem State.cycleStart_keeps (s : State) (n : Nat) (hreads : s.eas.reads = []) (hsketch : s.eas.sketch = none) :
    s.keepsAxis n s.probeCycle.easelEnd ∧ s.sameTraffic s.probeCycle.easelEnd := by
  have hend : s.probeCycle.easelEnd =
      { s.probeCycle with eas := { s.probeCycle.eas with reads := [], staged := [], sketch := none } } := by
    have hr : s.probeCycle.eas.reads = [] := hreads
    have hs : s.probeCycle.eas.sketch = none := hsketch
    simp only [State.easelEnd, hr, List.foldl_nil, hs]
  rw [hend]
  exact ⟨⟨rfl, rfl, rfl, rfl, rfl⟩, rfl, rfl, rfl⟩

/-- INTERPOLATOR counts the cycle and leaves the axes as their ticks do (log 3). -/
theorem exec_interpolator (n : Fin 16) (s : State) (hq : s.quiet = true) (hinj : s.dis.injWait = [])
    (hreads : s.eas.reads = []) (hsketch : s.eas.sketch = none) :
    ∃ t u, exec .interpolator s = .next t ∧ t.cyc = s.cyc + 1 ∧ s.keepsAxis n.val u ∧
      t.axis n.val = (u.axTick n.val).axis n.val := by
  obtain ⟨hstart, hquiet, hcyc, hwait⟩ := s.cycleStart_keeps n.val hreads hsketch
  obtain ⟨u, hu, haxis⟩ := interpolator_axis n s.probeCycle.easelEnd
  obtain ⟨iquiet, icyc, iwait⟩ : s.probeCycle.easelEnd.sameTraffic
      ((List.range 16).foldl (fun s k => s.axTick k) s.probeCycle.easelEnd) := State.foldl_axTick_sameTraffic _ _
  have hcontend := (interpolator s.probeCycle.easelEnd).contendCycle_easelKept
  have hwait' : (interpolator s.probeCycle.easelEnd).contendCycle.dis.injWait = [] := by
    rw [hcontend.injWait, interpolator_eq, State.cycleEnd_dis, iwait, hwait, hinj]
  obtain ⟨heas, kquiet, kcyc, -⟩ := hcontend.trans (State.sourcesWake_easelKept _ hwait')
  have hsettle : (interpolator s.probeCycle.easelEnd).contendCycle.sourcesWake.settle =
      (interpolator s.probeCycle.easelEnd).contendCycle.sourcesWake := by
    refine State.settle_quiet _ (kquiet.trans ?_)
    rw [interpolator_eq, State.cycleEnd_quiet, iquiet, hquiet, hq]
  refine ⟨(interpolator s.probeCycle.easelEnd).contendCycle.sourcesWake, u, ?_, kcyc.trans ?_, hstart.trans hu, ?_⟩
  · show Host.Outcome.next (interpolator s.probeCycle.easelEnd).contendCycle.injExpire.sourcesWake.settle = _
    rw [State.injExpire_none _ hwait', hsettle]
  · rw [interpolator_eq, State.cycleEnd_cyc, icyc, hcyc]
  · simp only [State.axis, heas]
    exact haxis

/-- Settles O7: the tick of an axis that nothing has opened opens its cycle and advances it (R48, R59). -/
theorem interpolatorCycle : Obligations.InterpolatorCycle := by
  intro n s hq hinj hreads hsketch hopen cfg x
  obtain ⟨t, u, ht, hcyc, ⟨hx, hmoved, hrel, hcfg, hmod⟩, haxis⟩ := exec_interpolator n s hq hinj hreads hsketch
  have hclosed : (u.axis n.val).opened = false := by rw [hx]; exact hopen
  have honly := u.openCycle_axisOnly n.val
  have hocfg : (u.openCycle n.val).reg (Reg.axCfg n.val) = cfg := (honly.axCfg _).trans hcfg
  have horel : (u.openCycle n.val).released = s.released := honly.released.trans hrel
  have hopened := u.openCycle_axis_same n.val hclosed
  rw [hx] at hopened
  refine ⟨t, ht, hcyc, fun hen => ?_, fun hr hen hsrc hin => ?_, fun hr hen hsrc hm => ?_⟩
  · rw [haxis, u.axTick_unopened n.val hclosed (.inr (u.axInputs_disabled n.val (by rw [hcfg]; exact hen))),
      State.axAdvance_disabled _ _ (by rw [hocfg]; exact hen), hopened]
    exact ⟨rfl, rfl, rfl, rfl⟩
  · obtain ⟨p, hadv⟩ := (u.openCycle n.val).axAdvance_local n.val (horel.trans hr) (by rw [hocfg]; exact hen)
      (by rw [hocfg]; exact hsrc)
    rw [haxis, u.axTick_unopened n.val hclosed (.inl (hmoved.trans hin)), hadv, hopened, hocfg]
    exact ⟨rfl, rfl, rfl, rfl⟩
  · have hinputs : u.axInputs n.val = u := by
      have h4 : axSrc (u.reg (Reg.axCfg n.val)) = 4 := by rw [hcfg]; exact hsrc
      simp [State.axInputs, h4]
    have hadv := (u.openCycle n.val).axAdvance_time n.val (horel.trans hr) (by rw [hocfg]; exact hen)
      (by rw [hocfg]; exact hsrc) ((honly.axMod _).trans (hmod.trans hm))
    rw [haxis, u.axTick_unopened n.val hclosed (.inr hinputs), hadv, hopened]

end Sys2Proof.Machine
end

section
namespace Sys2Proof.Machine

/-! ## Resets (R408, R409, Table PW-6) -/

/-- At reset every axis is disabled, of a local source and linear, and so stands at its count of 0 (R65). -/
theorem reset_axes (n : Fin 16) : axEn (State.reset.reg (Reg.axCfg n.val)) = false ∧ State.reset.axPos n.val = 0#64 ∧
    State.reset.reg (Reg.axRev n.val) = 0#32 ∧ (State.reset.axis n.val).known = false := by
  have hregs : ∀ n : Fin 16, axEn (regReset (Reg.axCfg n.val)) = false ∧ axSrc (regReset (Reg.axCfg n.val)) = 0 ∧
      regReset (Reg.axRev n.val) = 0#32 ∧ regReset (Reg.axMod n.val) = 0#32 := by decide
  have hreg (a : Nat) : State.reset.reg a = regReset a := rfl
  have hzero (interp : Bool) : formPos 0 interp 0 {} = 0#64 := by cases interp <;> rfl
  obtain ⟨hen, hsrc, hrev, hmod⟩ := hregs n
  refine ⟨hen, ?_, hrev, rfl⟩
  rw [State.axPos, hreg, hreg, hsrc, hmod]
  exact hzero _

/-- A register of a state that holds no value of its own is at reset. -/
theorem State.reg_setReg_empty (s : State) (a b : Nat) (v : Word) (h : s.regs = []) (hb : b ≠ a) :
    (s.setReg a v).reg b = regReset b := by
  rw [State.setReg_reg_ne _ _ _ _ hb, State.reg, h]
  rfl

/-- The rise of PORST_N, with banks A and C detected (R408, R409). -/
theorem powerOnReset_fresh (straps : BitVec 14) (banks : BitVec 4) (s : State) (ha : banks.getLsbD 0 = true)
    (hc : banks.getLsbD 2 = true) :
    ∃ t, exec (.powerOnReset straps banks) s = .next t ∧ t.boot.count = 0 ∧ t.boot.stage = .due ∧ t.eas = {} ∧
      t.can = {} ∧ t.mem = {} ∧ t.cnd = {} ∧ t.otp = s.otp ∧ t.flash = s.flash ∧ t.part = s.part ∧
      t.reg Reg.shgDid = straps.setWidth 32 ∧ ∀ a, a ≠ Reg.shgDid → t.reg a = regReset a := by
  have hbanks : (banks.getLsbD 0 && banks.getLsbD 2) = true := by rw [ha, hc]; rfl
  refine ⟨_, congrArg Host.Outcome.next (if_pos hbanks), rfl, rfl, rfl, rfl, rfl, rfl, rfl, rfl, rfl,
    State.setReg_reg_same _ _ _, fun a h => State.reg_setReg_empty _ _ _ _ rfl h⟩

/-- Registers that are copied one by one from `v`. -/
theorem State.foldl_setReg (v : Nat → Word) (l : List Nat) (r : State) :
    (∃ m, l.foldl (fun r a => r.setReg a (v a)) r = { r with regs := m }) ∧
      ∀ a, (l.foldl (fun r a => r.setReg a (v a)) r).reg a = if a ∈ l then v a else r.reg a := by
  induction l generalizing r with
  | nil => exact ⟨⟨_, rfl⟩, fun a => rfl⟩
  | cons b l ih =>
    obtain ⟨⟨m, hm⟩, hreg⟩ := ih (r.setReg b (v b))
    refine ⟨⟨m, hm⟩, fun a => ?_⟩
    rw [List.foldl_cons, hreg]
    by_cases hl : a ∈ l
    · simp [hl]
    · by_cases hb : a = b
      · subst hb
        simp [hl]
      · simp [hl, hb, State.setReg_reg_ne _ _ _ _ hb]

theorem State.stopWdog_reg_ne (s : State) (a : Nat) (hw : a ≠ Reg.devWdog) (hs : a ≠ Reg.devStatus) :
    s.stopWdog.reg a = s.reg a :=
  (State.clrReg_reg_ne _ _ _ _ hs).trans (State.setReg_reg_ne _ _ _ _ hw)

/-- A warm reset keeps what Table PW-6 names and the failed-start count, and holds the device where it was held. -/
theorem State.warmReset_warmTo (s : State) (bit : Nat) :
    s.warmTo (s.warmReset bit) bit s.pwr.straps ∧ (s.warmReset bit).boot.count = s.boot.count ∧
      (s.warmReset bit).pwr.holdC = s.pwr.holdC := by
  obtain ⟨⟨m, hm⟩, hkept⟩ := State.foldl_setReg (fun a => s.stopWdog.reg a) keptRegs {}
  have hstop (a : Nat) (ha : a ∈ keptRegs) (hw : a ≠ Reg.devWdog) : s.stopWdog.reg a = s.reg a :=
    s.stopWdog_reg_ne a hw fun e => absurd (e ▸ ha) (by decide)
  rw [hm] at hkept
  unfold State.warmReset
  simp only
  rw [hm]
  refine ⟨⟨rfl, rfl, rfl, rfl, rfl, rfl, rfl, rfl, rfl, rfl, rfl, rfl, rfl, rfl, rfl, rfl, rfl, rfl, rfl,
    fun a ha hd => ?_, fun a ha hw hr => ?_, ?_, ?_⟩, rfl, rfl⟩
  · rw [State.orReg_reg_ne _ _ _ _ (fun e => ha (by rw [e]; decide)), State.setReg_reg_ne _ _ _ _ hd]
    exact (hkept a).trans (if_neg ha)
  · rw [State.orReg_reg_ne _ _ _ _ hr, State.setReg_reg_ne _ _ _ _ (fun e => absurd (e ▸ ha) (by decide))]
    exact ((hkept a).trans (if_pos ha)).trans (hstop a ha hw)
  · rw [State.orReg_reg_ne _ _ _ _ (by decide)]
    exact State.setReg_reg_same _ _ _
  · rw [State.orReg_reg_same, State.setReg_reg_ne _ _ _ _ (by decide)]
    have hr : Reg.pwrRstcause ∈ keptRegs := by decide
    exact congrArg (· ||| word bit) (((hkept _).trans (if_pos hr)).trans (hstop _ hr (by decide)))

theorem State.warmTo.due {s t : State} {bit : Nat} {straps : BitVec 14} (h : s.warmTo t bit straps) :
    t.boot.stage = .due := by
  obtain ⟨-, -, -, -, -, -, -, -, -, -, -, -, hdue, -⟩ := h
  exact hdue

/-- A start that is due waits while a clock loss holds the device in reset (R410). -/
theorem startImage_held (s : State) (hdue : s.boot.stage = .due) (h : s.pwr.holdC = true) : startImage s = s := by
  simp [startImage, hdue, h]

/-- The resets that a command takes (R408 to R410). -/
theorem warmResets (straps : BitVec 14) (d : Word) (s : State) :
    (∃ t, exec (.warmReset straps) s = .next t ∧ s.warmTo t 2 straps ∧ t.boot.count = s.boot.count) ∧
    (keyed d 0 → ∃ t, exec (.softwareReset d) s = .next t ∧ s.warmTo t 16 s.pwr.straps ∧ t.boot.count = s.boot.count) ∧
    (keyed d 0 → ∃ t, exec (.retryStart d) s = .next t ∧ s.warmTo t 8 s.pwr.straps ∧ t.boot.count = 0) ∧
    (¬ keyed d 0 → exec (.softwareReset d) s = .next s.ok ∧ exec (.retryStart d) s = .next s.ok) ∧
    ∃ t, exec .clockLoss s = .next t ∧ s.warmTo t 64 s.pwr.straps ∧ t.pwr.holdC = true ∧ t.boot.count = s.boot.count ∧
      exec .startImage t = .next t := by
  refine ⟨?_, fun hk => ?_, fun hk => ?_, fun hk => ⟨congrArg Host.Outcome.next (if_neg hk),
    congrArg Host.Outcome.next (if_neg hk)⟩, ?_⟩
  · obtain ⟨hwarm, hcount, -⟩ := State.warmReset_warmTo { s with pwr.straps := straps } 2
    exact ⟨_, rfl, hwarm, hcount⟩
  · obtain ⟨hwarm, hcount, -⟩ := s.ok.ok.warmReset_warmTo 16
    exact ⟨_, congrArg Host.Outcome.next (if_pos hk), hwarm, hcount⟩
  · obtain ⟨hwarm, hcount, -⟩ := State.warmReset_warmTo { s.ok with boot.count := 0 } 8
    exact ⟨_, congrArg Host.Outcome.next (if_pos hk), hwarm, hcount⟩
  · obtain ⟨hwarm, hcount, hhold⟩ := State.warmReset_warmTo { s with pwr.holdC := true } 64
    exact ⟨_, rfl, hwarm, hhold, hcount, congrArg Host.Outcome.next (startImage_held _ hwarm.due hhold)⟩

end Sys2Proof.Machine
end

section
namespace Sys2Proof.Machine

/-! ## Fields of registers -/

theorem Word.bits_eq (w : Word) (hi lo : Nat) : w.bits hi lo = (w.extractLsb' lo (hi + 1 - lo)).toNat := by
  rw [BitVec.extractLsb'_toNat]
  rfl

/-- A field of a word that is masked, and then set. -/
theorem Word.bits_and_or (w m v : Word) (hi lo : Nat) (h : m.extractLsb' lo (hi + 1 - lo) = 0#(hi + 1 - lo)) :
    ((w &&& m) ||| v).bits hi lo = v.bits hi lo := by
  rw [Word.bits_eq, BitVec.extractLsb'_or, BitVec.extractLsb'_and, h, BitVec.and_zero, BitVec.zero_or, Word.bits_eq]

/-- A bit of a word that is masked, and then set. -/
theorem Word.bit_and_or (w m v : Word) (i : Nat) (h : m.bit i = false) : ((w &&& m) ||| v).bit i = v.bit i := by
  simp only [Word.bit] at h ⊢
  simp [h]

/-! ## Primer mode (R324) -/

theorem State.domOn_off (s : State) (k : Nat) (h : s.reg (Reg.pwrDomctl k) = 0#32) : s.domOn k = false := by
  simp [State.domOn, State.domState, State.regF, h, Word.bits, bitsOf]

/-- A fold keeps what each of its steps keeps. -/
theorem foldl_keeps {α β γ : Type} (g : α → γ) (f : α → β → α) (h : ∀ s k, g (f s k) = g s) (l : List β) (s : α) :
    g (l.foldl f s) = g s := by
  induction l generalizing s with
  | nil => rfl
  | cons k r ih => exact (ih _).trans (h s k)

/-- The stacks are off, and so is every domain where PRIMER_LANE_EN is 0; the loader itself goes on (R324). -/
theorem State.primerDomains_off (s : State) :
    s.primerDomains.boot = s.boot ∧
      (s.otp.plane = false → ∀ k, k < 11 → s.primerDomains.reg (Reg.pwrDomctl k) = 0#32) := by
  obtain ⟨u, hu⟩ : ∃ u, u = (List.range 11).foldl (fun s d => s.setReg (Reg.pwrDomctl d) 0#32) s := ⟨_, rfl⟩
  obtain ⟨v, hv⟩ : ∃ v, v = (List.range 2).foldl (fun s m =>
    ((s.wipeStack m).setPhase m 4).setReg (Reg.memStat m) (if s.hasStack m then 8#32 else 0#32)) u := ⟨_, rfl⟩
  have hkeep {γ : Type} (g : State → γ) (h0 : ∀ s a w, g (s.setReg a w) = g s)
      (h1 : ∀ s m, g ((s.wipeStack m).setPhase m 4) = g s) : g v = g s := by
    rw [hv, foldl_keeps g _ (fun s m => (h0 _ _ _).trans (h1 s m)), hu, foldl_keeps g _ (fun s d => h0 s _ _)]
  have hboot : v.boot = s.boot := hkeep State.boot (fun _ _ _ => rfl) (fun _ _ => rfl)
  have hotp : v.otp = s.otp := hkeep State.otp (fun _ _ _ => rfl) (fun _ _ => rfl)
  have hdomains : s.primerDomains = if v.otp.plane && v.hasLg 0 then
      (((v.setReg (Reg.pwrDomctl 4) 0xA#32).setReg (Reg.spgGcfg 0) 1#32).setReg (Reg.lnCfg 0 0) 0x4061#32).setReg
        (Reg.chCfg 0 0) 0x40001#32 else v := by
    rw [hv, hu]
    rfl
  rw [hdomains]
  refine ⟨?_, fun hp k hk => ?_⟩
  · split
    · exact hboot
    · exact hboot
  · have hv0 : v.reg (Reg.pwrDomctl k) = u.reg (Reg.pwrDomctl k) := by
      rw [hv]
      refine foldl_keeps (fun s : State => s.reg (Reg.pwrDomctl k)) _ (fun s m => ?_) _ _
      exact State.setReg_reg_ne _ _ _ _ (by simp only [Reg.pwrDomctl, Reg.memStat]; omega)
    have hu0 : u.reg (Reg.pwrDomctl k) = 0#32 := by
      rw [hu, ← List.foldl_map (f := Reg.pwrDomctl) (g := fun (r : State) a => r.setReg a 0#32),
        (State.foldl_setReg (fun _ => 0#32) _ _).2, if_pos (List.mem_map_of_mem (List.mem_range.2 hk))]
    rw [hotp, hp, if_neg (by simp), hv0, hu0]

/-- Primer mode as START enters it (R323, R324). -/
theorem State.enterPrimer_primer (s : State) :
    s.enterPrimer.boot.stage = .primer ∧ s.enterPrimer.primer = true ∧ s.enterPrimer.released = false ∧
      s.enterPrimer.regF Reg.ldrStat 3 0 = 10 ∧ s.enterPrimer.regB Reg.mgtIrq 3 = true ∧
      (s.otp.plane = false → ∀ k, k < 11 → s.enterPrimer.domOn k = false) := by
  obtain ⟨u, hu⟩ : ∃ u, u = ({ s with boot.stage := .primer } : State).primerDomains := ⟨_, rfl⟩
  obtain ⟨hboot, hoff⟩ := State.primerDomains_off { s with boot.stage := .primer }
  rw [← hu] at hboot hoff
  obtain ⟨v, hv⟩ : ∃ v, v = u.setReg Reg.devStatus ((u.reg Reg.devStatus &&& 1#32) ||| 8#32) := ⟨_, rfl⟩
  have ht : s.enterPrimer = (v.setReg Reg.ldrStat ((v.reg Reg.ldrStat &&& 0x3000#32) ||| 0xA#32)).orReg Reg.mgtIrq 8 := by
    rw [hv, hu]
    rfl
  have hstat : s.enterPrimer.reg Reg.devStatus = (u.reg Reg.devStatus &&& 1#32) ||| 8#32 := by
    rw [ht, State.orReg_reg_ne _ _ _ _ (by decide), State.setReg_reg_ne _ _ _ _ (by decide), hv, State.setReg_reg_same]
  have hldr : s.enterPrimer.reg Reg.ldrStat = (v.reg Reg.ldrStat &&& 0x3000#32) ||| 0xA#32 := by
    rw [ht, State.orReg_reg_ne _ _ _ _ (by decide), State.setReg_reg_same]
  have hdom (k : Nat) (hk : k < 11) : s.enterPrimer.reg (Reg.pwrDomctl k) = u.reg (Reg.pwrDomctl k) := by
    have h1 : Reg.pwrDomctl k ≠ Reg.mgtIrq := by simp only [Reg.pwrDomctl, Reg.mgtIrq]; omega
    have h2 : Reg.pwrDomctl k ≠ Reg.ldrStat := by simp only [Reg.pwrDomctl, Reg.ldrStat]; omega
    have h3 : Reg.pwrDomctl k ≠ Reg.devStatus := by simp only [Reg.pwrDomctl, Reg.devStatus]; omega
    rw [ht, State.orReg_reg_ne _ _ _ _ h1, State.setReg_reg_ne _ _ _ _ h2, hv, State.setReg_reg_ne _ _ _ _ h3]
  refine ⟨?_, ?_, ?_, ?_, ?_, fun hp k hk => State.domOn_off _ _ ((hdom k hk).trans (hoff hp k hk))⟩
  · rw [ht]
    exact (congrArg Boot.stage (by rw [hv]; rfl)).trans (congrArg Boot.stage hboot)
  · rw [State.primer, State.regB, hstat, Word.bit_and_or _ _ _ _ (by decide)]
    decide
  · rw [State.released, State.regB, hstat, Word.bit_and_or _ _ _ _ (by decide)]
    decide
  · rw [State.regF, hldr, Word.bits_and_or _ _ _ _ _ (by decide)]
    decide
  · rw [ht, State.regB, State.orReg_reg_same]
    simp [Word.bit, word]

/-! ## The release of an image (R320) -/

/-- The last act of the release cycle is on DEV_STATUS (R320). -/
theorem State.releaseCycle_status (s : State) (b : Nat) : ∃ (v : State) (w : Word),
    s.releaseCycle b = v.setReg Reg.devStatus ((w &&& 1#32) ||| word (2 + (b + 1) * 16 + 64)) := by
  unfold State.releaseCycle
  extract_lets xs pal boot sec pwr t applied cores freed listed held
  exact ⟨held, held.reg Reg.devStatus, rfl⟩

/-- After the release cycle LDR_STAT shows the running image, and the management port is told (R320). -/
theorem State.release_eq (s : State) (b : Nat) : ∃ v : State,
    s.release b = ((v.releaseCycle b).setRegF Reg.ldrStat 3 0 9).orReg Reg.mgtIrq 4 := by
  unfold State.release
  extract_lets t u v w x y
  exact ⟨x, rfl⟩

/-- A released image shows in DEV_STATUS and LDR_STAT (R320). -/
theorem State.release_released (s : State) (b : Fin 2) :
    (s.release b.val).released = true ∧ (s.release b.val).primer = false ∧
      (s.release b.val).regF Reg.devStatus 5 4 = b.val + 1 ∧ (s.release b.val).regF Reg.ldrStat 3 0 = 9 := by
  obtain ⟨u, hu⟩ := s.release_eq b.val
  obtain ⟨v, w, hv⟩ := u.releaseCycle_status b.val
  rw [hv] at hu
  have hstat : (s.release b.val).reg Reg.devStatus = (w &&& 1#32) ||| word (2 + (b.val + 1) * 16 + 64) := by
    rw [hu, State.orReg_reg_ne _ _ _ _ (by decide), State.setRegF_reg_ne _ _ _ _ _ _ (by decide), State.setReg_reg_same]
  have hword : ∀ b : Fin 2, (word (2 + (b.val + 1) * 16 + 64)).bit 1 = true ∧
      (word (2 + (b.val + 1) * 16 + 64)).bit 3 = false ∧ (word (2 + (b.val + 1) * 16 + 64)).bits 5 4 = b.val + 1 := by decide
  obtain ⟨hreleased, hprimer, hbay⟩ := hword b
  refine ⟨?_, ?_, ?_, ?_⟩
  · rw [State.released, State.regB, hstat, Word.bit_and_or _ _ _ _ (by decide), hreleased]
  · rw [State.primer, State.regB, hstat, Word.bit_and_or _ _ _ _ (by decide), hprimer]
  · rw [State.regF, hstat, Word.bits_and_or _ _ _ _ _ (by decide), hbay]
  · rw [hu, State.regF, State.orReg_reg_ne _ _ _ _ (by decide), State.setRegF_reg_same]
    exact bits_putBits_same _ 3 0 9 (by decide)

/-! ## Starts (R317, R323) -/

/-- 100 ms after a failed start a new one is due (R323). -/
theorem newStart_failed (s : State) (h : s.boot.stage = .failed) :
    newStart s = { s with boot := { s.boot with stage := .due, counted := false, tried := [], powered := false } } := by
  simp only [newStart, h]

/-- At a count of 3 a start that is due enters Primer mode (R323). -/
theorem startImage_third (s : State) (hdue : s.boot.stage = .due) (ht : s.pwr.holdT = false) (hc : s.pwr.holdC = false)
    (h : s.boot.count = 3) : startImage s = s.enterPrimer := by
  simp [startImage, hdue, ht, hc, h]

/-- An attempt that waited and now passes every check releases its image (R317, R320). -/
theorem startImage_passed (s : State) (b : Nat) (hw : s.boot.stage = .waiting b) (h : s.lastSteps b = some 0) :
    startImage s = s.release b := by
  -- the kernel must not unfold the checks of step 7, so a variable stands for them
  obtain ⟨last, hlast⟩ : ∃ last, last = s.lastSteps := ⟨_, rfl⟩
  unfold startImage
  rw [← hlast] at h ⊢
  simp only [hw, h]

/-- Settles O53: the resets, and then the starts that follow them. -/
theorem resetsAndStarts : Obligations.ResetsAndStarts := by
  refine ⟨reset_axes, powerOnReset_fresh, fun straps d s => ?_, fun b s hw h => ?_⟩
  · obtain ⟨hrst, hswrst, hretry, hkey, hloss⟩ := warmResets straps d s
    refine ⟨hrst, hswrst, hretry, hkey, hloss, rfl, fun hf => ?_, fun hdue ht hc hcount => ?_⟩
    · exact ⟨_, congrArg Host.Outcome.next (newStart_failed s hf), rfl, rfl, rfl, rfl, rfl⟩
    · exact ⟨_, congrArg Host.Outcome.next (startImage_third s hdue ht hc hcount), s.enterPrimer_primer⟩
  · exact ⟨_, congrArg Host.Outcome.next (startImage_passed s b.val hw h), s.release_released b⟩

end Sys2Proof.Machine
end

section
namespace Sys2Proof.Machine

/-! ## A word that an NI sends leaves the other registers (R233, R235) -/

/-- Counting a packet touches the statistics of the NIs alone, which stand behind the registers of the network as a whole
(Table SC-6). -/
theorem State.statSent_reg (s : State) (n tc b a : Nat) (ha : a < 0x121000) : (s.statSent n tc b).reg a = s.reg a := by
  have hpkts : a ≠ Reg.niSpkts n := by simp only [Reg.niSpkts]; omega
  have hlo : a ≠ Reg.niSbytesLo n := by simp only [Reg.niSbytesLo]; omega
  have hhi : a ≠ Reg.niSbytesHi n := by simp only [Reg.niSbytesHi]; omega
  unfold State.statSent
  simp only
  split
  · rfl
  · rw [State.bump64, State.setReg_reg_ne _ _ _ _ hhi, State.setReg_reg_ne _ _ _ _ hlo, State.bump_reg_ne _ _ _ _ hpkts]

theorem State.wordSent_reg (s : State) (n c a : Nat) (ha : a < 0x121000) : (s.wordSent n c).reg a = s.reg a := by
  unfold State.wordSent
  rw [State.statSent_reg _ _ _ _ _ ha]
  split
  · obtain ⟨l, hl⟩ := s.spend_only n c 1
    rw [hl]
    rfl
  · rfl

/-- Sending a word neither fences nor opens the conductors. -/
theorem State.wordSent_domFenced (s : State) (n c : Nat) : (s.wordSent n c).domFenced 10 = s.domFenced 10 := by
  have hfreq := s.wordSent_reg n c Reg.nocFreq (by decide)
  have hdom := s.wordSent_reg n c (Reg.pwrDomctl 10) (by decide)
  simp [State.domFenced, State.domOn, State.domState, State.regB, State.regF, hfreq, hdom]

/-- While the conductors are not fenced, a token that an NI sends enters its channel (R292). -/
theorem State.sendToken_unfenced (s : State) (ch n c : Nat) (tk : Token) (hn : chanNi ch = some (n, c))
    (hf : s.domFenced 10 = false) :
    s.sendToken ch tk = (s.wordSent n c).setChan ch { s.chan ch with transit := (s.chan ch).transit ++ [tk] } := by
  have hchan : (s.wordSent n c).chan ch = s.chan ch := by
    unfold State.chan
    rw [(s.wordSent_only n c).1]
  simp only [State.sendToken, hn, s.wordSent_domFenced, hf, Bool.false_and, Bool.false_eq_true, if_false, hchan]

/-- The Easel's oldest token leaves its FIFO as one word of NI 40 and enters channel 4 (R81, Table DI-2). -/
theorem easelTokenSend_moves (s : State) (k : Token) (r : List Token) (hq : s.eas.tokFifo = k :: r)
    (hm : s.maySend 4 = true) (hf : s.domFenced 10 = false) :
    easelTokenSend s = (State.wordSent { s with eas.tokFifo := r } 40 0).setChan 4
      { s.chan 4 with transit := (s.chan 4).transit ++ [k] } := by
  simp only [easelTokenSend, hq, hm, if_true]
  exact State.sendToken_unfenced _ 4 40 0 k rfl hf

end Sys2Proof.Machine
end

section
namespace Sys2Proof.Machine

/-! ## The output pins (R74, R76) -/

@[simp] theorem State.setReg_pin (s : State) (a : Nat) (v : Word) (k : Nat) : (s.setReg a v).pin k = s.pin k := rfl
@[simp] theorem State.orReg_pin (s : State) (a m k : Nat) : (s.orReg a m).pin k = s.pin k := rfl
@[simp] theorem State.ok_pin (s : State) (d : Word) (k : Nat) : (s.ok d).pin k = s.pin k := rfl

@[simp] theorem State.plainWrite_pin (s : State) (a : Nat) (d : Word) (k : Nat) : (s.plainWrite a d).pin k = s.pin k := by
  rw [s.plainWrite_regs]
  rfl

/-- An edge takes its pin to the level, whenever it is placed. -/
theorem State.pinEdge_pin_same (s : State) (n : Nat) (lvl : Bool) (t : Nat) :
    ((s.pinEdge n lvl t).pin n).active = lvl ∧ ((s.pinEdge n lvl t).pin n).pulse = (s.pin n).pulse := by
  simp [State.pinEdge]

theorem State.pinEdge_pin_ne (s : State) (n : Nat) (lvl : Bool) (t k : Nat) (h : k ≠ n) :
    (s.pinEdge n lvl t).pin k = s.pin k := by
  unfold State.pinEdge
  rw [State.setPin_pin_ne _ _ _ _ h]
  split_ifs
  · rfl
  · rfl

/-- The end of a pulse that is due (R74). -/
theorem pulseEnd_due (s : State) (n c tap : Nat) (hp : (s.pin n).pulse = some (c, tap)) (hc : c ≤ s.cyc) :
    ((pulseEnd n s).pin n).active = false ∧ ((pulseEnd n s).pin n).pulse = none ∧
      ∀ k, k ≠ n → (pulseEnd n s).pin k = s.pin k := by
  have hother (k : Nat) (hk : k ≠ n) : (s.setPin n { s.pin n with pulse := none }).pin k = s.pin k :=
    State.setPin_pin_ne _ _ _ _ hk
  simp only [pulseEnd, hp, hc, if_true, State.setPin_pin_same]
  split
  · obtain ⟨hidle, htimer⟩ :=
      (s.setPin n { s.pin n with pulse := none }).pinEdge_pin_same n false (c * 8 + tap)
    refine ⟨hidle, ?_, fun k hk => (State.pinEdge_pin_ne _ _ _ _ _ hk).trans (hother k hk)⟩
    rw [htimer, State.setPin_pin_same]
  · rename_i hidle
    rw [State.setPin_pin_same]
    exact ⟨Bool.eq_false_iff.2 hidle, rfl, hother⟩

/-- Settles O9: the pulse ends at its pin alone, and the oldest token of the FIFO moves into channel 4. -/
theorem easelOutputs : Obligations.EaselOutputs := by
  refine ⟨fun p s c tap hp hc => ⟨_, rfl, pulseEnd_due s p.val c tap hp hc⟩, fun s k r hq hm hf => ?_⟩
  obtain ⟨hkept, -⟩ := State.wordSent_only { s with eas.tokFifo := r } 40 0
  refine ⟨_, congrArg Host.Outcome.next (easelTokenSend_moves s k r hq hm hf), ?_, State.setChan_chan_same _ _ _,
    fun c hc => ?_, ?_, ?_, ?_⟩
  · rw [State.setChan_eas, hkept]
  · rw [State.setChan_chan_ne _ _ _ _ hc, hkept]
    rfl
  · rw [State.setChan_can, hkept]
  · rw [State.setChan_pal, hkept]
  · rw [State.setChan_cnd, hkept]

end Sys2Proof.Machine
end

section
namespace Sys2Proof.Machine

/-! ## Single bits of a word -/

theorem Word.bit_eq_bits (w : Word) (i : Nat) : w.bit i = (w.bits i i).testBit 0 := by
  rw [Word.bits, testBit_bitsOf]
  simp [Word.bit, BitVec.getLsbD]

/-- A flag that was written into bit `i` of a word. -/
theorem Word.bit_putBits_flag (w : Word) (i : Nat) (b : Bool) (hi : i < 32) :
    (putBits w i i (if b then 1 else 0)).bit i = b := by
  rw [Word.bit_eq_bits, bits_putBits_same w i i _ hi, Nat.add_sub_cancel_left]
  cases b <;> rfl

/-- ARM of a word of an entry is the ARM that was asked for, but for ACT 7 (R67). -/
theorem bit_armWord (w : Word) (arm : Bool) : (armWord w arm).bit 7 = (arm && w.bits 6 4 != 7) := by
  unfold armWord
  split
  · rename_i harm
    simp [Word.bit, harm]
  · rename_i harm
    simp [Word.bit, Bool.eq_false_iff.2 harm]

/-- Beside bit 7 a word keeps its bits. -/
theorem armWord_and_not_arm (w : Word) (arm : Bool) : armWord w arm &&& ~~~0x80#32 = w &&& ~~~0x80#32 := by
  unfold armWord
  split
  · have hnone : 0x80#32 &&& ~~~0x80#32 = 0#32 := by decide
    rw [BitVec.and_comm, BitVec.and_or_distrib_left, BitVec.and_comm (~~~_) 0x80#32, hnone, BitVec.or_zero,
      BitVec.and_comm]
  · rw [BitVec.and_assoc, BitVec.and_self]

/-- The word 2 that WRITE stores keeps every bit but ARM and W2[11]. -/
theorem writtenWord_and (w : Word) :
    (armWord w (w.bit 7) &&& ~~~0x800#32) &&& 0xFFFFFF7F#32 = w &&& 0xFFFFF77F#32 := by
  calc (armWord w (w.bit 7) &&& ~~~0x800#32) &&& ~~~0x80#32
      = (armWord w (w.bit 7) &&& ~~~0x80#32) &&& ~~~0x800#32 := by
        rw [BitVec.and_assoc, BitVec.and_comm (~~~_), ← BitVec.and_assoc]
    _ = w &&& (~~~0x80#32 &&& ~~~0x800#32) := by rw [armWord_and_not_arm, BitVec.and_assoc]

/-- WRITE arms the entry when its word asks for it and ACT is not 7. -/
theorem writtenWord_armed (w : Word) :
    (armWord w (w.bit 7) &&& ~~~0x800#32).bit 7 = true ↔ w.bit 7 = true ∧ w.bits 6 4 ≠ 7 := by
  have hbit : (armWord w (w.bit 7) &&& ~~~0x800#32).bit 7 = (armWord w (w.bit 7)).bit 7 := by simp [Word.bit]
  rw [hbit, bit_armWord]
  simp

end Sys2Proof.Machine
end

section
namespace Sys2Proof.Machine

/-! ## Staging operations (R86) -/

/-- The first operation of a cycle on an entry acts on the entry as it stands, and on no other entry (R86, log 3). -/
theorem State.stage_first (s u : State) (i : Nat) (o : StageOp) (hu : u.eas = s.eas) (h : ∀ r ∈ s.eas.staged, r.idx ≠ i) :
    (u.stage i o).entry i = o.act (s.entry i) ∧ ∀ j, j ≠ i → (u.stage i o).entry j = s.entry j := by
  have hentry (j : Nat) : u.entry j = s.entry j := by simp only [State.entry, hu]
  have hnone : u.eas.staged.find? (fun r => r.idx == i) = none := by
    simpa [hu, List.find?_eq_none] using h
  refine ⟨?_, fun j hj => (State.setEntry_entry_ne _ _ _ _ hj).trans (hentry j)⟩
  have hact : (u.stage i o).entry i = [o].foldl (fun e p => p.act e) (u.entry i) := by
    simp only [State.stage, hnone]
    exact State.setEntry_entry_same _ _ _
  rw [hact, hentry]
  rfl

section
variable (s : State) (k i : Nat) (hrel : s.released = true) (hfirst : ∀ r ∈ s.eas.staged, r.idx ≠ i)
include hrel hfirst

/-- WRITE stores the staging words, with W2[11] zero and ARM as R67 lets it (R12, R86). -/
theorem stageWrite_entry : (stageWrite k i s).entry i =
      { w0 := s.reg (Reg.easSw k 0), w1 := s.reg (Reg.easSw k 1),
        w2 := armWord (s.reg (Reg.easSw k 2)) ((s.reg (Reg.easSw k 2)).bit 7) &&& ~~~0x800#32,
        w3 := s.reg (Reg.easSw k 3), fresh := true } ∧
    ∀ j, j ≠ i → (stageWrite k i s).entry j = s.entry j := by
  rw [stageWrite, s.gateEasel_released _ hrel]
  exact s.stage_first _ i _ rfl hfirst

theorem stageArm_entry : (stageArm k i s).entry i =
      { s.entry i with w2 := armWord (s.entry i).w2 true, fresh := true, notBefore := 0 } ∧
    ∀ j, j ≠ i → (stageArm k i s).entry j = s.entry j := by
  rw [stageArm, s.gateEasel_released _ hrel]
  exact s.stage_first _ i _ rfl hfirst

theorem stageDisarm_entry : (stageDisarm k i s).entry i = { s.entry i with w2 := armWord (s.entry i).w2 false } ∧
    ∀ j, j ≠ i → (stageDisarm k i s).entry j = s.entry j := by
  rw [stageDisarm, s.gateEasel_released _ hrel]
  exact s.stage_first _ i _ rfl hfirst

end

/-- Words that are copied into other places of a staging set leave word `j`. -/
theorem State.copyEntry_reg_ne (s : State) (k i j : Nat) (js : List Nat) (h : j ∉ js) :
    (s.copyEntry k i js).reg (Reg.easSw k j) = s.reg (Reg.easSw k j) := by
  induction js generalizing s with
  | nil => rfl
  | cons m r ih =>
    obtain ⟨hm, hr⟩ := not_or.1 (mt List.mem_cons.2 h)
    have hne : Reg.easSw k j ≠ Reg.easSw k m := by simp only [Reg.easSw]; omega
    exact (ih _ hr).trans (State.setReg_reg_ne _ _ _ _ hne)

/-- Each word that is copied shows the word of the entry (R86). -/
theorem State.copyEntry_reg (s : State) (k i j : Nat) (js : List Nat) (h : j ∈ js) :
    (s.copyEntry k i js).reg (Reg.easSw k j) = (s.entry i).word j := by
  induction js generalizing s with
  | nil => exact absurd h List.not_mem_nil
  | cons m r ih =>
    by_cases hr : j ∈ r
    · exact ih _ hr
    · obtain rfl : j = m := (List.mem_cons.1 h).resolve_right hr
      exact (State.copyEntry_reg_ne _ k i j r hr).trans (State.setReg_reg_same _ _ _)

theorem State.copyEntry_entries (s : State) (k i : Nat) (js : List Nat) :
    (s.copyEntry k i js).eas.entries = s.eas.entries := by
  refine foldl_keeps (fun t : State => t.eas.entries) _ ?_ js s
  exact fun _ _ => rfl

/-- READ shows the words of the entry in the staging set, and no entry changes (R86). -/
theorem stageRead_words (s : State) (k i : Nat) (hrel : s.released = true) :
    (∀ j ∈ [0, 1, 2, 3], (stageRead k i s).reg (Reg.easSw k j) = (s.entry i).word j) ∧
      (stageRead k i s).eas.entries = s.eas.entries := by
  rw [stageRead, s.gateEasel_released _ hrel]
  have hwords := fun j hj => (s.ok.scmd k i).copyEntry_reg k i j [0, 1, 2, 3] hj
  have hentries := (s.ok.scmd k i).copyEntry_entries k i [0, 1, 2, 3]
  -- a variable stands for the copy, so that it is not unfolded word by word
  generalize (s.ok.scmd k i).copyEntry k i [0, 1, 2, 3] = t at hwords hentries ⊢
  exact ⟨hwords, hentries⟩

end Sys2Proof.Machine
end

section
namespace Sys2Proof.Machine

/-! ## SCHED_EN and TPn_CFG (R69, R74) -/

theorem State.setSched_regB (s : State) (en : Bool) : (s.setSched en).regB Reg.easCtrl 0 = en := by
  have hset : (s.setRegF Reg.easCtrl 0 0 (if en then 1 else 0)).regB Reg.easCtrl 0 = en := by
    rw [State.regB, State.setRegF_reg_same]
    exact Word.bit_putBits_flag _ 0 en (by decide)
  unfold State.setSched
  simp only
  split
  · exact hset
  · exact hset

/-- When SCHED_EN is newly set, what is armed is fresh (R69). -/
theorem State.setSched_fresh (s : State) (h : s.regB Reg.easCtrl 0 = false) :
    ∀ q ∈ (s.setSched true).eas.entries, q.2.armed = true → q.2.fresh = true := by
  have hmap : (s.setSched true).eas.entries = s.eas.entries.map (fun p =>
      if p.2.armed then (p.1, { p.2 with fresh := true, notBefore := 0 }) else p) := by
    simp [State.setSched, State.setRegF, h]
  rw [hmap]
  intro q hq harmed
  obtain ⟨p, -, rfl⟩ := List.mem_map.1 hq
  by_cases hp : p.2.armed = true
  · rw [if_pos hp]
  · rw [if_neg hp] at harmed
    exact absurd harmed hp

/-- A pin that becomes an output starts at its idle level (R74). -/
theorem State.setTpCfg_output (s : State) (n : Nat) (d : Word) (hd : d.bit 0 = true)
    (hin : s.regB (Reg.tpCfg n) 0 = false) :
    s.setTpCfg n d = (s.plainWrite (Reg.tpCfg n) d).setPin n { s.pin n with active := false, pulse := none } := by
  simp [State.setTpCfg, hd, hin]

/-- Settles O10: the staging operations, and then the registers that have commands of their own. -/
theorem stagingAndTables : Obligations.StagingAndTables := by
  refine ⟨fun k i s hrel hfirst => ⟨⟨_, rfl, ?_⟩, ⟨_, rfl, ?_⟩, ⟨_, rfl, ?_⟩, ⟨_, rfl, ?_⟩⟩, fun j i p d b s hrel => ?_⟩
  · obtain ⟨hentry, hothers⟩ := stageWrite_entry s k.val i.val hrel hfirst
    rw [hentry]
    exact ⟨rfl, rfl, rfl, rfl, writtenWord_and _, writtenWord_armed _, hothers⟩
  · obtain ⟨hwords, hentries⟩ := stageRead_words s k.val i.val hrel
    exact ⟨hwords 0 (by decide), hwords 1 (by decide), hwords 2 (by decide), hwords 3 (by decide), hentries⟩
  · obtain ⟨hentry, hothers⟩ := stageArm_entry s k.val i.val hrel hfirst
    rw [hentry]
    refine ⟨rfl, ?_, hothers⟩
    simp [Entry.armed, Entry.act, bit_armWord]
  · obtain ⟨hentry, hothers⟩ := stageDisarm_entry s k.val i.val hrel hfirst
    rw [hentry]
    exact ⟨bit_armWord _ false, hothers⟩
  · have hrun (f : State → State) : Host.Outcome.next (ρ := Refusal) (φ := Fault) (s.gateEasel f) = .next (f s.ok) :=
      congrArg Host.Outcome.next (s.gateEasel_released f hrel)
    refine ⟨⟨_, hrun _, SMap.get_set_same _ _ _ _, rfl⟩, ⟨_, hrun _, SMap.get_set_same _ _ _ _, rfl⟩,
      ⟨_, hrun _, State.setSched_regB _ _, ?_⟩, hrun _, fun hd hin => ⟨_, hrun _, ?_⟩⟩
    · rintro rfl hoff
      exact State.setSched_fresh _ hoff
    · rw [s.ok.setTpCfg_output p.val d hd hin, State.setPin_pin_same]
      refine ⟨rfl, rfl, fun k hk => ?_⟩
      rw [State.setPin_pin_ne _ _ _ _ hk, State.plainWrite_pin, State.ok_pin]

end Sys2Proof.Machine
end

section
namespace Sys2Proof.Machine

/-! ## Bits of the ALU (Table CT-8) -/

/-- The shift count of the ALU is B[4:0]. -/
theorem Word.bits_low5 (b : Word) : b.bits 4 0 = (b &&& 31#32).toNat := by
  rw [BitVec.toNat_and]
  exact (Nat.and_two_pow_sub_one_eq_mod b.toNat 5).symm

/-- A shift by 0 puts no bit in C. -/
theorem shiftedOut_eq (n : Nat) (out : Bool) : (n != 0 && out) = if n = 0 then false else out := by
  by_cases h : n = 0 <;> simp [h]

/-- Codes 0x23 and above act as PASS (R100). -/
theorem alu_reserved (op : Nat) (h : 0x23 ≤ op) (a b x : Word) (cs : Bool) (w : Nat) :
    alu op a b x cs w = { r := a } := by
  obtain ⟨k, rfl⟩ := Nat.exists_eq_add_of_le' h
  rfl

theorem toInt_minS (a b : Word) : (minS a b).toInt = min a.toInt b.toInt := by
  unfold minS
  split <;> omega

theorem toInt_maxS (a b : Word) : (maxS a b).toInt = max a.toInt b.toInt := by
  unfold maxS
  split <;> omega

/-- The highest one bit fixes the number of leading zeros. -/
theorem clz32_of_highest (a : Word) (i : Nat) (hone : a.getLsbD i = true)
    (hzero : ∀ j, i < j → j < 32 → a.getLsbD j = false) : clz32 a = 31 - i := by
  have hlow : 2 ^ i ≤ a.toNat := Nat.ge_two_pow_of_testBit hone
  have hhigh : a.toNat < 2 ^ (i + 1) := Nat.lt_pow_two_of_testBit _ fun j hj => by
    by_cases hj32 : j < 32
    · exact hzero j hj hj32
    · exact BitVec.getLsbD_of_ge a j (by omega)
  have hne : a.toNat ≠ 0 := fun h => by simp [h] at hlow
  have hlog : Nat.log2 a.toNat = i := (Nat.log2_eq_iff hne).2 ⟨hlow, hhigh⟩
  have ha : a ≠ 0#32 := fun h => hne (by rw [h]; rfl)
  rw [clz32, if_neg ha, hlog]

/-- BFX takes the W + 1 bits from bit `n` on. -/
theorem getLsbD_extracted (a : Word) (n w i : Nat) (hw : w < 32) :
    (word (a.toNat / 2 ^ n % 2 ^ (w + 1))).getLsbD i = (decide (i ≤ w) && a.getLsbD (n + i)) := by
  rw [word, BitVec.getLsbD_ofNat, Nat.testBit_mod_two_pow, Nat.testBit_div_two_pow, ← BitVec.getLsbD]
  by_cases h : i ≤ w
  · have h32 : i < 32 := by omega
    simp [h, h32, Nat.lt_succ_of_le h, Nat.add_comm]
  · have : ¬ i < w + 1 := by omega
    simp [h, this]

/-- PACK joins the low halves. -/
theorem packed_halves (a b : Word) :
    word (a.bits 15 0 * 65536 + b.bits 15 0) = BitVec.append (a.extractLsb' 0 16) (b.extractLsb' 0 16) := by
  have hb : b.bits 15 0 < 2 ^ 16 := Nat.mod_lt _ (by decide)
  apply BitVec.eq_of_toNat_eq
  have hjoin : (BitVec.append (a.extractLsb' 0 16) (b.extractLsb' 0 16)).toNat = a.bits 15 0 * 65536 + b.bits 15 0 := by
    rw [BitVec.append_eq, BitVec.toNat_append, ← Word.bits_eq a 15 0, ← Word.bits_eq b 15 0,
      ← Nat.shiftLeft_add_eq_or_of_lt hb, Nat.shiftLeft_eq]
  rw [word, BitVec.toNat_ofNat, ← hjoin]
  exact Nat.mod_eq_of_lt (BitVec.isLt _)

/-- Settles O12: code by code, with the shift count of SHL to ROL and BFX as `n`. -/
theorem aluBits : Obligations.AluBits := by
  intro a b x cs w n
  have hn : b.bits 4 0 = n := Word.bits_low5 b
  have hshl := shiftedOut_eq n (a.getLsbD (32 - n))
  have hshr := shiftedOut_eq n (a.getLsbD (n - 1))
  refine ⟨rfl, fun k hk _ => alu_reserved k hk a b x cs w, rfl, rfl, rfl, rfl, ?_, ?_, ?_, ?_, ?_, ?_, ?_, ?_, ?_, ?_⟩
  · simp only [alu, hn, shlOut, hshl]
  · simp only [alu, hn, shrOut, hshr]
  · simp only [alu, hn, sarOut, hshr]
  · simp only [alu, hn]
  · simp only [alu]
    by_cases hx : x = 0#32 <;> simp [hx]
  · intro hbx
    have hle : b.toInt ≤ x.toInt := by simpa [BitVec.sle] using hbx
    refine ⟨?_, ?_⟩
    · simp only [alu, toInt_minS, toInt_maxS]
      omega
    · simp [alu]
  · intro i _ hone hzero
    simp only [alu, clz32_of_highest a i hone hzero]
  · rintro rfl
    rfl
  · intro hw i
    simp only [alu, hn, getLsbD_extracted a n w i hw]
  · exact packed_halves a b

end Sys2Proof.Machine
end

section
namespace Sys2Proof.Machine

/-! ## Updates that leave every tile -/

@[simp] theorem State.orReg_tile (s : State) (a m u : Nat) : (s.orReg a m).tile u = s.tile u := rfl
@[simp] theorem State.tileStat_tile (s : State) (t m u : Nat) : (s.tileStat t m).tile u = s.tile u := rfl
@[simp] theorem State.probeBit_tile (s : State) (t k u : Nat) : (s.probeBit t k).tile u = s.tile u := rfl
@[simp] theorem State.setPbx_tile (s : State) (p : Nat) (b : Pbx) (u : Nat) : (s.setPbx p b).tile u = s.tile u := rfl
@[simp] theorem State.setChan_tile (s : State) (ch : Nat) (c : Chan) (u : Nat) :
    (s.setChan ch c).tile u = s.tile u := rfl
@[simp] theorem pbxClose_tile (s : State) (t u : Nat) : (pbxClose t s).tile u = s.tile u := rfl

@[simp] theorem State.tileCount_tile (s : State) (t a n u : Nat) : (s.tileCount t a n).tile u = s.tile u := by
  unfold State.tileCount
  split <;> rfl

@[simp] theorem State.report_tile (s : State) (code unit u : Nat) : (s.report code unit).tile u = s.tile u := by
  unfold State.report State.reportOn State.reportOnce
  split <;> rfl

/-! ## What the firings of tiles leave of a tile's results (R105) -/

/-- What the ALU of a tile leaves behind, and its step counter. -/
structure FireResults where
  prev : Word
  z : Bool
  n : Bool
  c : Bool
  v : Bool
  cs : Bool
  step : Nat

def Tile.results (x : Tile) : FireResults :=
  { prev := x.prev, z := x.z, n := x.n, c := x.c, v := x.v, cs := x.cs, step := x.step }

def State.results (s : State) (u : Nat) : FireResults := (s.tile u).results

theorem State.setTile_results (s : State) (t u : Nat) (x : Tile) (h : x.results = (s.tile t).results) :
    (s.setTile t x).results u = s.results u := by
  unfold State.results
  by_cases hu : u = t
  · rw [hu, State.setTile_tile_same, h]
  · rw [State.setTile_tile_ne _ _ _ _ hu]

theorem State.results_of_tile {s t : State} {u : Nat} (h : t.tile u = s.tile u) : t.results u = s.results u :=
  congrArg Tile.results h

theorem Tile.results_fields {x : Tile} {r : FireResults} (h : x.results = r) :
    x.step = r.step ∧ x.prev = r.prev ∧ x.z = r.z ∧ x.n = r.n ∧ x.c = r.c ∧ x.v = r.v ∧ x.cs = r.cs := by
  subst h
  exact ⟨rfl, rfl, rfl, rfl, rfl, rfl, rfl⟩

theorem State.statCount_results (s : State) (t m a n u : Nat) :
    ((s.tileStat t m).tileCount t a n).results u = s.results u := by
  simp [State.results]

theorem State.statReport_results (s : State) (t m code unit u : Nat) :
    ((s.tileStat t m).report code unit).results u = s.results u := by
  simp [State.results]

/-- A step that a firing takes or leaves out. -/
theorem State.results_ite {c : Prop} {_ : Decidable c} {s t : State} {u : Nat} (h : s.results u = t.results u) :
    (if c then s else t).results u = t.results u := by
  split
  · exact h
  · rfl

theorem State.memWrite_results (s : State) (t a : Nat) (v : Val) (u : Nat) :
    (s.memWrite t a v).results u = s.results u :=
  s.setTile_results t u _ rfl

theorem State.pushIn_results (s : State) (t i : Nat) (w : ChWord) (u : Nat) :
    (s.pushIn t i w).results u = s.results u :=
  s.setTile_results t u _ rfl

theorem State.arrive_results (s : State) (t i : Nat) (w : ChWord) (u : Nat) :
    (s.arrive t i w).results u = s.results u := by
  unfold State.arrive
  split
  · rfl
  · exact s.pushIn_results t i w u

/-- A word that leaves an output reaches the input of another tile, or a port. -/
theorem State.sendOut_results (s : State) (t j : Nat) (w : ChWord) (u : Nat) :
    (s.sendOut t j w).results u = s.results u := by
  unfold State.sendOut
  simp only
  split
  · split
    · exact State.pushIn_results _ _ _ _ _
    · exact State.arrive_results _ _ _ _ _
  · rfl
  · rfl
  · rfl

/-- A word on a segment reaches the inputs of its tiles, and a joint. -/
theorem State.driveSeg_results (s : State) (j line pos : Nat) (w : ChWord) (u : Nat) :
    (s.driveSeg j line pos w).results u = s.results u := by
  unfold State.driveSeg
  extract_lets taps
  have htaps : taps.results u = s.results u := by
    refine foldl_keeps (fun s : State => s.results u) _ (fun s i => ?_) _ s
    exact State.results_ite (s.pushIn_results _ _ _ _)
  split
  · exact htaps
  · split
    · exact htaps
    · split
      · exact htaps
      · exact htaps

theorem State.driveLane_results (s : State) (t j : Nat) (w : ChWord) (u : Nat) :
    (s.driveLane t j w).results u = s.results u := State.driveSeg_results _ _ _ _ _ _

/-! ## A normal firing (R95) -/

/-- What the steps of a firing of tile `t` read. -/
def State.fireIn (s : State) (t : Nat) : FireIn where
  t := t
  x := s.tile t
  c := (s.tile t).act
  heads := (List.range 16).map (fun i => if Ctx.fireIn (s.tile t).act i then s.inHead t i else none)
  ovf := s.regB (Reg.tileStat t) 8

/-- Operand `k`, after the reads of the memory ports. -/
def State.fireOperand (s : State) (t k : Nat) : Val :=
  let p0 := s.portRead (s.fireIn t) 0 { w := 0#32 }
  let p1 := p0.2.portRead (s.fireIn t) 1 p0.1
  (s.fireIn t).operand p0.1 p1.1 k

/-- Whether the firing is the last of a frame (R103). -/
def State.firesLast (s : State) (t : Nat) : Bool :=
  let f := s.fireIn t
  f.x.step == Ctx.period f.c || (Ctx.endOnLast f.c && (List.range 16).any (fun i => (f.head i).tag == some 1))

/-- Whether an operand that the ALU operation reads is poison (R106). -/
def State.firePoisoned (s : State) (t : Nat) : Bool :=
  let rd := aluReads (Ctx.aluOp (s.tile t).act)
  (rd.1 && (s.fireOperand t 0).p) || (rd.2.1 && (s.fireOperand t 1).p) || (rd.2.2 && (s.fireOperand t 2).p)

/-- What the ALU answers on the three operands (R100). -/
def State.fireAlu (s : State) (t : Nat) : AluOut :=
  let x := s.tile t
  alu (Ctx.aluOp x.act) (s.fireOperand t 0).w (s.fireOperand t 1).w (s.fireOperand t 2).w x.cs (Ctx.aluW x.act)

/-- The results of a firing, from those before it. -/
def Tile.fired (x : Tile) (last psn : Bool) (out : AluOut) : FireResults where
  prev := if psn then x.prev else out.r
  z := if psn then x.z else out.r == 0#32
  n := if psn then x.n else out.r.bit 31
  c := if psn then x.c else out.c
  v := if psn then x.v else out.v
  cs := if psn || Ctx.keepC x.act then x.cs else out.c
  step := if last then 0 else x.step + 1

/-- Step 8 stores the results of the firing; the writes, words and events that follow it leave them. -/
theorem State.fire_results (s : State) (t : Nat) :
    (s.fire t).results t = (s.tile t).fired (s.firesLast t) (s.firePoisoned t) (s.fireAlu t) := by
  unfold State.fire
  extract_lets
  split
  rename_i m0 s0 h0
  extract_lets
  split
  rename_i m1 s1 h1
  extract_lets
  split
  extract_lets
  -- the events, from the last to the first
  refine (State.results_of_tile (State.tileCount_tile _ _ _ _ _)).trans ?_
  refine (State.results_of_tile (State.probeBit_tile _ _ _ _)).trans ?_
  refine (State.results_of_tile (State.orReg_tile _ _ _ _)).trans ?_
  refine (State.results_ite (State.results_of_tile (State.tileStat_tile _ _ _ _))).trans ?_
  refine (State.results_ite (State.statReport_results _ _ _ _ _ _)).trans ?_
  refine (State.results_ite (State.statCount_results _ _ _ _ _ _)).trans ?_
  refine (State.results_ite (State.results_of_tile (State.tileStat_tile _ _ _ _))).trans ?_
  -- the drivers and the outputs
  refine (foldl_keeps (fun s : State => s.results t) _ (fun s j => ?_) _ _).trans ?_
  · split
    · rfl
    · exact State.driveLane_results _ _ _ _ _
  refine (foldl_keeps (fun s : State => s.results t) _ (fun s j => ?_) _ _).trans ?_
  · split
    · rfl
    · split
      · exact State.sendOut_results _ _ _ _ _
      · exact State.statCount_results _ _ _ _ _ _
  -- the block exponent
  refine (State.results_ite (State.results_of_tile (pbxClose_tile _ _ _))).trans ?_
  refine (State.results_ite (State.results_of_tile (State.setPbx_tile _ _ _ _))).trans ?_
  -- the writes of the memory ports
  refine (State.results_ite ?_).trans ?_
  · split
    · exact State.memWrite_results _ _ _ _ _
    · rfl
  refine (State.results_ite ?_).trans ?_
  · split
    · exact State.memWrite_results _ _ _ _ _
    · rfl
  refine (congrArg Tile.results (State.setTile_tile_same _ _ _)).trans ?_
  have hoperand (k : Nat) : s.fireOperand t k = (s.fireIn t).operand m0 m1 k := by
    have hm0 : s.portRead (s.fireIn t) 0 { w := 0#32 } = (m0, s0) := h0
    have hm1 : s0.portRead (s.fireIn t) 1 m0 = (m1, s1) := h1
    simp only [State.fireOperand, hm0, hm1]
  simp only [State.firePoisoned, State.fireAlu, hoperand]
  rfl

/-! ## When a tile fires (R93) -/

/-- Every required input holds a word, and `mark` says whether those words are markers. -/
theorem State.heads_of_tags (s : State) (t : Nat) (l : List Nat) (mark : Bool)
    (h : ∀ i ∈ l, ∃ w, s.inHead t i = some w ∧ (w.tag == 2) = mark) :
    (l.map (s.inHead t)).any Option.isNone = false ∧ (l.map (s.inHead t)).all Option.isSome = true ∧
      ∀ o ∈ l.map (s.inHead t), (o.map ChWord.tag == some 2) = mark := by
  have hhead : ∀ o ∈ l.map (s.inHead t), ∃ w, o = some w ∧ (w.tag == 2) = mark := List.forall_mem_map.2 h
  refine ⟨List.any_eq_false.2 fun o ho => ?_, List.all_eq_true.2 fun o ho => ?_, fun o ho => ?_⟩
  all_goals obtain ⟨w, rfl, htag⟩ := hhead o ho
  · exact Bool.false_ne_true
  · rfl
  · exact htag

/-- A word that is no marker stands at every required input. -/
theorem State.heads_ready (s : State) (t : Nat) (l : List Nat)
    (h : ∀ i ∈ l, ∃ w, s.inHead t i = some w ∧ w.tag ≠ 2) :
    (l.map (s.inHead t)).any Option.isNone = false ∧ (l.map (s.inHead t)).all Option.isSome = true ∧
      (l.map (s.inHead t)).any (fun o => o.map ChWord.tag == some 2) = false := by
  obtain ⟨hnone, hsome, htags⟩ := s.heads_of_tags t l false fun i hi => by simpa using h i hi
  exact ⟨hnone, hsome, List.any_eq_false.2 fun o ho => by simp [htags o ho]⟩

theorem firing_fires (t : Nat) (s : State) (hrun : s.tileRuns t = true)
    (hin : ∀ i ∈ reqInputs (s.tile t).act, ∃ w, s.inHead t i = some w ∧ w.tag ≠ 2)
    (hcredit : s.creditOk t (s.tile t).act = true) : firing t s = s.fire t := by
  obtain ⟨hsome, -, htag⟩ := s.heads_ready t _ hin
  simp [firing, hrun, hsome, htag, hcredit]

/-- Settles O13: the tile fires, and its results are those of `State.fire_results`. -/
theorem firingResult : Obligations.FiringResult := by
  intro T s x c f zv m0 m1 o rd psn out last hrun hin hcredit
  obtain ⟨hstep, halu⟩ := Tile.results_fields (s.fire_results T.val)
  refine ⟨s.fire T.val, congrArg Host.Outcome.next (firing_fires T.val s hrun hin hcredit), hstep, fun hpsn => ?_,
    fun hpsn => ?_⟩
  · rw [show s.firePoisoned T.val = false from hpsn] at halu
    exact halu
  · rw [show s.firePoisoned T.val = true from hpsn] at halu
    exact halu

end Sys2Proof.Machine
end

section
namespace Sys2Proof.Machine

/-! ## A marker firing under ABSORB (R108) -/

/-- A firing takes the head of each input it consumes. -/
theorem SMap.get_consumed (l : List Nat) (hl : l.Nodup) (m : SMap (List ChWord)) (i : Nat) :
    SMap.get (l.foldl (fun m i => SMap.set m i ((SMap.get m i []).drop 1) []) m) i [] =
      if i ∈ l then (SMap.get m i []).drop 1 else SMap.get m i [] := by
  induction l generalizing m with
  | nil => rfl
  | cons k r ih =>
    obtain ⟨hk, hr⟩ := List.nodup_cons.1 hl
    rw [List.foldl_cons, ih hr]
    by_cases hik : i = k
    · subst hik
      simp [hk, SMap.get_set_same]
    · simp [hik, SMap.get_set_ne]

theorem reqInputs_nodup (c : Ctx) : (reqInputs c).Nodup := List.nodup_range.filter _

/-- With no armed command and no local switch rule a marker switches nothing (R149, R168). -/
theorem State.markerSwitch_none (s : State) (t : Nat) (c : Ctx) (code : Nat) (harm : (s.tile t).arm = none)
    (hlsw : Ctx.lswEn c = false) : s.markerSwitch t c code = s := by
  simp [State.markerSwitch, harm, hlsw]

/-- Under ABSORB no marker leaves the tile. -/
theorem State.markerFire_absorb (s : State) (t : Nat) (c : Ctx) (habsorb : Ctx.absorb c = true)
    (htok : Ctx.tokOnMark c = false) (harm : (s.tile t).arm = none) (hlsw : Ctx.lswEn c = false) :
    (s.markerFire t c).tile t = { s.tile t with
        inp := (reqInputs c).foldl (fun m i => SMap.set m i ((SMap.get m i []).drop 1) []) (s.tile t).inp
        step := 0, fireOne := false } ∧
      ∀ u, u ≠ t → (s.markerFire t c).tile u = s.tile u := by
  have hstat {p : Prop} [Decidable p] (u : Nat) : (if p then s.tileStat t 0x1000 else s).tile u = s.tile u := by
    split <;> rfl
  unfold State.markerFire
  simp only [habsorb, htok, Bool.not_true, Bool.false_and, Bool.false_eq_true, if_false, List.foldl_fixed]
  rw [State.markerSwitch_none _ _ _ _ ?_ hlsw]
  · simp only [State.tileCount_tile, State.probeBit_tile, State.setTile_tile_same, hstat, true_and]
    intro u hu
    rw [State.setTile_tile_ne _ _ _ _ hu, hstat]
  · simp only [State.tileCount_tile, State.probeBit_tile, State.setTile_tile_same, hstat, harm]

theorem markerFiring_fires (t : Nat) (s : State) (hrun : s.tileRuns t = true) (hne : reqInputs (s.tile t).act ≠ [])
    (hin : ∀ i ∈ reqInputs (s.tile t).act, ∃ w, s.inHead t i = some w ∧ w.tag = 2)
    (hcredit : s.markerCredit t (s.tile t).act = true) : markerFiring t s = s.markerFire t (s.tile t).act := by
  obtain ⟨hnone, -, htags⟩ := s.heads_of_tags t _ true fun i hi => by simpa using hin i hi
  obtain ⟨i, hi⟩ := List.exists_mem_of_ne_nil _ hne
  have hhead : s.inHead t i ∈ (reqInputs (s.tile t).act).map (s.inHead t) := List.mem_map_of_mem hi
  have hany : ((reqInputs (s.tile t).act).map (s.inHead t)).any (fun o => o.map ChWord.tag == some 2) = true :=
    List.any_eq_true.2 ⟨_, hhead, htags _ hhead⟩
  have hall : ((reqInputs (s.tile t).act).map (s.inHead t)).all (fun o => o.map ChWord.tag == some 2) = true :=
    List.all_eq_true.2 htags
  simp only [markerFiring, hrun, hnone, hany, hall, hcredit, Bool.not_true, Bool.or_false, Bool.false_eq_true, if_true,
    if_false]

/-- Settles O14: the tile fires on its markers, and under ABSORB that only consumes them and starts the steps anew. -/
theorem markerAbsorbed : Obligations.MarkerAbsorbed := by
  intro T s x c hrun hne hin habsorb htok harm hlsw
  have hcredit : s.markerCredit T.val c = true := by simp [State.markerCredit, habsorb, htok]
  obtain ⟨htile, hothers⟩ := s.markerFire_absorb T.val c habsorb htok harm hlsw
  have hinp (i : Nat) := SMap.get_consumed (reqInputs c) (reqInputs_nodup c) x.inp i
  refine ⟨s.markerFire T.val c, congrArg Host.Outcome.next (markerFiring_fires T.val s hrun hne hin hcredit), ?_⟩
  rw [htile]
  exact ⟨rfl, fun i hi => (hinp i).trans (if_pos hi), fun i hi => (hinp i).trans (if_neg hi), rfl, rfl, rfl, rfl,
    rfl, rfl, rfl, hothers⟩

end Sys2Proof.Machine
end

section
namespace Sys2Proof.Machine

/-! ## Register commands of a tile (R115, R116, R136, R140) -/

/-- The one event that waits acts once its cycle is over (R139, R140). -/
theorem Pbx.at_due (b : Pbx) (k now : Nat) (e : PbxEv) (h : k < now) :
    ({ b with ev := [(k, e)] } : Pbx).at_ now = ({ b with ev := [] } : Pbx).act e := by
  simp [Pbx.at_, h, Nat.not_le.2 h]

/-- A close of cycle `f` ends the block at the end of cycle `f + 2`, when nothing else waits (R140). -/
theorem Pbx.closeEvent_at (b : Pbx) (f : Nat) (h : b.ev = []) : (b.closeEvent f).at_ (f + 3) = b.close := by
  have hevent : b.closeEvent f = { b with ev := [(f + 2, { close := true })] } := by
    simp [Pbx.closeEvent, Pbx.plan, h, SMap.set, SMap.put, SMap.get]
  rw [hevent, Pbx.at_due _ _ _ _ (Nat.lt_succ_self _), ← h]
  rfl

theorem pbxClose_at (t : Nat) (s : State) (h : (s.pbxOf (panelOf t)).ev = []) :
    ({ pbxClose t s with cyc := s.cyc + 3 } : State).pbxOf (panelOf t) = (s.pbxOf (panelOf t)).close :=
  (congrArg (Pbx.at_ · (s.cyc + 3)) (SMap.get_set_same _ _ _ _)).trans (Pbx.closeEvent_at _ _ h)

/-- APPLY makes what is pending live and starts the pointer anew (R115). -/
theorem AGen.reset_eq (g : AGen) : g.reset = { g with
    base := if g.pend then g.sbase else g.base, len := if g.pend then g.slen else g.len, pend := false, ptr := 0 } := by
  by_cases h : g.pend = true
  · simp [AGen.reset, AGen.applyStaged, h]
  · cases g
    simp_all [AGen.reset, AGen.applyStaged]

/-- TILE_CTRL holds HOLD and CNT_FREEZE; FIRE_ONE reads 0 (Table CT-12). -/
theorem tileCtrlWrite_reg_same (t : Nat) (d : Word) (s : State) :
    (tileCtrlWrite t d s).reg (Reg.tileCtrl t) = d &&& 5#32 := s.setReg_reg_same _ _

theorem tileCtrlWrite_reg_ne (t : Nat) (d : Word) (s : State) (a : Nat) (h : a ≠ Reg.tileCtrl t) :
    (tileCtrlWrite t d s).reg a = s.reg a := s.setReg_reg_ne _ _ _ h

/-- A FIRE_ONE waits for its firing while HOLD = 1 (Table CT-12). -/
theorem tileCtrlWrite_fireOne (t : Nat) (d : Word) (s : State) :
    ((tileCtrlWrite t d s).tile t).fireOne = (d.bit 0 && (d.bit 1 || (s.tile t).fireOne)) :=
  congrArg Tile.fireOne (State.setTile_tile_same _ _ _)

theorem tileCtrlWrite_tile_ne (t : Nat) (d : Word) (s : State) (u : Nat) (h : u ≠ t) :
    (tileCtrlWrite t d s).tile u = s.tile u := State.setTile_tile_ne _ _ _ _ h

/-- The word of the HOLD command: HOLD as asked for, and CNT_FREEZE as it was. -/
theorem bit_holdWord (w : Word) (on : Bool) :
    (((w &&& 4#32) ||| Word.flag on 0) &&& 5#32).bit 0 = on ∧
      (((w &&& 4#32) ||| Word.flag on 0) &&& 5#32).bit 2 = w.bit 2 := by
  cases on <;> simp [Word.bit, Word.flag]

/-- The word of the FIRE_ONE command: FIRE_ONE beside HOLD as it was. -/
theorem bit_fireOneWord (w : Word) :
    ((w &&& 5#32) ||| 2#32).bit 0 = w.bit 0 ∧ ((w &&& 5#32) ||| 2#32).bit 1 = true ∧
      (((w &&& 5#32) ||| 2#32) &&& 5#32).bit 0 = w.bit 0 := by
  simp [Word.bit]

/-- Settles O15: each command runs, because writes reach the tile, and has the effect of its register. -/
theorem tileRegisterCommands : Obligations.TileRegisterCommands := by
  intro T k d on s hopen x g b
  have hrun (f : State → State) :
      Host.Outcome.next (ρ := Refusal) (φ := Fault) (s.gateTile T.val f) = .next (f s.ok) :=
    congrArg Host.Outcome.next (s.gateTile_open T.val f hopen)
  obtain ⟨hhold, hfreeze⟩ := bit_holdWord (s.reg (Reg.tileCtrl T.val)) on
  obtain ⟨hkept, hone, hkept'⟩ := bit_fireOneWord (s.reg (Reg.tileCtrl T.val))
  refine ⟨fun hev => ⟨_, hrun _, rfl, rfl, pbxClose_at T.val s.ok hev⟩, hrun _, (hrun _).trans ?_,
    ⟨_, hrun _, ?_, ?_, fun a ha => tileCtrlWrite_reg_ne _ _ _ _ ha⟩,
    fun hheld => ⟨_, hrun _, ?_, ?_, fun u hu => tileCtrlWrite_tile_ne _ _ _ _ hu⟩, ⟨_, hrun _, ?_⟩⟩
  · rw [agApply, AGen.reset_eq]
    rfl
  · rw [State.regB, tileHold, tileCtrlWrite_reg_same]
    exact hhold
  · rw [State.regB, tileHold, tileCtrlWrite_reg_same]
    exact hfreeze
  · rw [fireOne, tileCtrlWrite_fireOne]
    simp only [State.ok_reg, hkept, hone, Bool.true_or, Bool.and_true]
    exact hheld
  · rw [State.regB, fireOne, tileCtrlWrite_reg_same]
    exact hkept'.trans hheld
  · rw [acchiWrite, State.setTile_tile_same]
    exact ⟨rfl, rfl, rfl, rfl, rfl, rfl, fun u hu => State.setTile_tile_ne _ _ _ _ hu⟩

end Sys2Proof.Machine
end

section
namespace Sys2Proof.Machine

/-! ## Stalls (R93) and write-back (R111) -/

/-- HOLD keeps a stall from counting and from the probe lines, CNT_FREEZE from counting alone (R93, R387). -/
theorem State.stall_eq (s : State) (t a : Nat) : s.stall t a =
    if s.regB (Reg.tileCtrl t) 0 then s
    else if s.regB (Reg.tileCtrl t) 2 then s.probeBit t 2 else (s.probeBit t 2).bump a 1 := rfl

theorem firing_stalls (t : Nat) (s : State) (hrun : s.tileRuns t = true)
    (hempty : ∃ i ∈ reqInputs (s.tile t).act, s.inHead t i = none) :
    firing t s = s.stall t (Reg.tileStallIn t) := by
  obtain ⟨i, hi, hnone⟩ := hempty
  have hany : ((reqInputs (s.tile t).act).map (s.inHead t)).any Option.isNone = true :=
    List.any_eq_true.2 ⟨_, List.mem_map_of_mem hi, by rw [hnone]; rfl⟩
  simp [firing, hrun, hany]

theorem State.wouldFire_ready (s : State) (t : Nat) (hrun : s.tileRuns t = true)
    (hin : ∀ i ∈ reqInputs (s.tile t).act, ∃ w, s.inHead t i = some w ∧ w.tag ≠ 2)
    (hcredit : s.creditOk t (s.tile t).act = true) : s.wouldFire t = true := by
  obtain ⟨-, hsome, htag⟩ := s.heads_ready t _ hin
  simp [State.wouldFire, hrun, hsome, htag, hcredit]

/-- The oldest corrected word is stored as sound (R111). -/
theorem writeBack_oldest (t : Nat) (s : State) (a : Nat) (r : List Nat) (h : (s.tile t).wback = a :: r) :
    writeBack t s = s.setTile t { s.tile t with
      mem := (s.tile t).mem.set a { data := ((s.tile t).mem.get a {}).data } {}, wback := r } := by
  simp [writeBack, h]

theorem forcedWriteBack_oldest (t : Nat) (s : State) (a : Nat) (r : List Nat) (h : (s.tile t).wback = a :: r) :
    forcedWriteBack t s = if s.wouldFire t then (writeBack t s).stall t (Reg.tileStallMem t) else writeBack t s := by
  simp [forcedWriteBack, h]

/-! ## The token path of a quadrant (R109) -/

theorem State.wordSent_tile (s : State) (n c u : Nat) : (s.wordSent n c).tile u = s.tile u := by
  unfold State.tile
  rw [(s.wordSent_only n c).1]

/-- The path takes the one token of the next tile. -/
theorem tokenPathAccept_takes (q : Nat) (s : State) (t : Nat) (ts : List Nat) (k : Token)
    (hopen : (s.released && s.hasQuad q && s.domOn q && s.maySend q) = true)
    (hnext : s.tokenTiles q (s.can.tokLast.get q 4096) = t :: ts) (htok : (s.tile t).tok = some k)
    (hovf : (s.tile t).ovfTok = none) :
    tokenPathAccept q s = (State.setTile { s with can.tokLast := s.can.tokLast.set q t 4096 } t
      { s.tile t with tok := none }).sendToken q k := by
  simp only [tokenPathAccept, hopen, hnext, htok, hovf, Bool.not_true, Bool.false_eq_true, if_false]

/-! ## The joints (R124) -/

theorem jointPass_empty (t j p : Nat) (s : State) (hp : prevPos j (segPos t j) = some p)
    (h : s.can.joints.get (jointKey j (segLine t j) p) [] = []) : jointPass t j s = s := by
  simp [jointPass, hp, h]

/-- Within a quadrant the word at the head of the joint is driven on. -/
theorem jointPass_drives (t j p : Nat) (s : State) (w : ChWord) (r : List ChWord)
    (hp : prevPos j (segPos t j) = some p) (hhead : s.can.joints.get (jointKey j (segLine t j) p) [] = w :: r)
    (hrel : s.released = true) (hentry : segTile j (segLine t j) (segPos t j) (entryIdx j) = t)
    (hdrive : s.drive t j = 1) (hquad : s.hasQuad (quadOf t) = true) (hon : s.domOn (quadOf t) = true)
    (hsame : quadOf (segTile j (segLine t j) p 0) = quadOf t)
    (hcredit : s.segCredit j (segLine t j) (segPos t j) = true) :
    jointPass t j s = State.driveLane
      { s with can.joints := s.can.joints.set (jointKey j (segLine t j) p) r [] } t j w := by
  simp [jointPass, hp, hhead, hrel, hentry, hdrive, hquad, hon, hsame, hcredit]

/-- Settles O16: a stall, the write-backs, the token path and the joints, each by the lemma of its row. -/
theorem tileBackground : Obligations.TileBackground := by
  refine ⟨fun T s hrun hempty => ?_,
    fun T s a r hback => ⟨?_, fun hidle => ?_, fun hrun hin hcredit hhold hfreeze => ?_⟩,
    fun q s T ts k hrel hquad hon hsend hcnd hnext htok hovf => ?_, fun T j s p hp => ⟨fun hnone => ?_,
      fun w r hhead hrel hentry hdrive hquad hon hsame hcredit => ?_⟩⟩
  · exact congrArg Host.Outcome.next ((firing_stalls T.val s hrun hempty).trans (s.stall_eq _ _))
  · exact congrArg Host.Outcome.next (writeBack_oldest T.val s a r hback)
  · have hnot : s.wouldFire T.val = false := by simp [State.wouldFire, hidle]
    refine congrArg Host.Outcome.next ((forcedWriteBack_oldest T.val s a r hback).trans ?_)
    rw [hnot, if_neg Bool.false_ne_true, writeBack_oldest T.val s a r hback]
  · have hfires := s.wouldFire_ready T.val hrun hin hcredit
    refine congrArg Host.Outcome.next ((forcedWriteBack_oldest T.val s a r hback).trans ?_)
    have hctrl (i : Nat) (x : Tile) :
        (s.setTile T.val x).regB (Reg.tileCtrl T.val) i = s.regB (Reg.tileCtrl T.val) i := rfl
    rw [hfires, if_pos rfl, writeBack_oldest T.val s a r hback, State.stall_eq]
    simp only [hctrl, hhold, hfreeze, Bool.false_eq_true, if_false]
  · have hopen : (s.released && s.hasQuad q.val && s.domOn q.val && s.maySend q.val) = true := by
      simp [hrel, hquad, hon, hsend]
    have hni : chanNi q.val = some (2 * q.val, 2) := by simp [chanNi]
    refine ⟨_, congrArg Host.Outcome.next ((tokenPathAccept_takes q.val s T ts k hopen hnext htok hovf).trans
      (State.sendToken_unfenced _ _ _ _ k hni hcnd)), ?_, State.setChan_chan_same _ _ _, fun u hu => ?_⟩
    · rw [State.setChan_tile, State.wordSent_tile, State.setTile_tile_same]
    · rw [State.setChan_tile, State.wordSent_tile, State.setTile_tile_ne _ _ _ _ hu]
      rfl
  · exact congrArg Host.Outcome.next (jointPass_empty T.val j.val p s hp hnone)
  · exact congrArg Host.Outcome.next
      (jointPass_drives T.val j.val p s w r hp hhead hrel hentry hdrive hquad hon hsame hcredit)

end Sys2Proof.Machine
end

section
namespace Sys2Proof.Machine

/-! ## The register-command queue (R164) -/

/-- While the queue of 8 has room, a write of PAL_CMD_HI is answered at once (R164). -/
theorem State.palCmdHi_room (s : State) (w : Asker) (d : Word) (h : s.pal.queue.length < 8) :
    s.palCmdHi w d = State.ok { s.setReg Reg.palCmdHi d with
      pal.queue := s.pal.queue ++ [BitVec.append d s.pal.cmdLatch], pal.lastPlaced := s.pal.cmdLatch } := by
  simp only [State.palCmdHi, State.setReg_pal, h, if_true]

/-- A command with V = 1 enters the tree behind those still needed, with the group its selector names (R163). -/
theorem State.deliver_valid (s : State) (src : Nat) (c : BitVec 64) (rel : Bool) (h : cmdV c = true) :
    s.deliver src c rel = { s with pal.tree := pruneTree s.cyc s.pal.tree ++
      [⟨s.cyc, src, c, s.pal.groups.get (cmdSel c % 16) 0#64, rel, false⟩] } := by
  simp [State.deliver, h]

theorem State.deliver_invalid (s : State) (src : Nat) (c : BitVec 64) (rel : Bool) (h : cmdV c = false) :
    s.deliver src c rel = s := by
  simp [State.deliver, h]

/-- A delivery changes nothing but the tree. -/
theorem State.deliver_only (s : State) (src : Nat) (c : BitVec 64) (rel : Bool) :
    ∃ l, s.deliver src c rel = { s with pal.tree := l } := by
  cases h : cmdV c with
  | false => exact ⟨s.pal.tree, s.deliver_invalid src c rel h⟩
  | true => exact ⟨_, s.deliver_valid src c rel h⟩

/-- An EKL cycle delivers at most one register command (R164). -/
theorem registerCommandDelivery_delivered (s : State) (h : s.pal.lastDel = some s.cyc) :
    registerCommandDelivery s = s := by
  simp [registerCommandDelivery, h]

/-- The state from which the oldest command of the queue is delivered, `r` being the rest of the queue. -/
def State.dequeued (s : State) (r : List (BitVec 64)) : State :=
  { s with pal.lastDel := some s.cyc, pal.queue := r }

theorem registerCommandDelivery_oldest (s : State) (c : BitVec 64) (r : List (BitVec 64)) (hrel : s.released = true)
    (hwait : s.pal.waiting = []) (hdel : s.pal.lastDel ≠ some s.cyc) (hq : s.pal.queue = c :: r) :
    registerCommandDelivery s = (s.dequeued r).deliver 8192 c false := by
  have hdel' : (s.pal.lastDel == some s.cyc) = false := beq_false_of_ne hdel
  simp only [registerCommandDelivery, hdel', hq, hwait, State.dequeued, Bool.false_eq_true, if_false]
  exact if_pos hrel

/-- With nothing on its way before it, the delivery of a register command leaves nothing to settle. -/
theorem State.dequeued_deliver_quiet (s : State) (c : BitVec 64) (r : List (BitVec 64)) (hquiet : s.quiet = true) :
    ((s.dequeued r).deliver 8192 c false).quiet = true := by
  obtain ⟨l, hl⟩ := (s.dequeued r).deliver_only 8192 c false
  rw [hl]
  exact hquiet

/-! ## The pending table (R167) -/

/-- The pending table `p` with the entries of `l` that `mask` names emptied. -/
def pendCleared (mask : Nat) (l : List Nat) (p : SMap (Option Pend)) : SMap (Option Pend) :=
  l.foldl (fun p i => if mask.testBit i then p.set i none none else p) p

/-- An entry is emptied exactly when it is looked at and named. -/
theorem get_pendCleared (mask : Nat) (l : List Nat) (p : SMap (Option Pend)) (k : Nat) :
    (pendCleared mask l p).get k none = if k ∈ l ∧ mask.testBit k = true then none else p.get k none := by
  induction l generalizing p with
  | nil => simp [pendCleared]
  | cons i l ih =>
    rw [pendCleared, List.foldl_cons, ← pendCleared, ih]
    by_cases hk : k = i
    · subst hk
      cases hm : mask.testBit k <;> simp [SMap.get_set_same]
    · have hget : (if mask.testBit i then p.set i none none else p).get k none = p.get k none := by
        split
        · exact SMap.get_set_ne _ _ _ _ _ _ hk
        · rfl
      simp [hk, hget]

theorem palPendClr_eq (mask : Nat) (s : State) :
    palPendClr mask s = { s with pal.pendT := pendCleared mask (List.range 16) s.pal.pendT } := by
  unfold palPendClr pendCleared
  generalize List.range 16 = l
  induction l generalizing s with
  | nil => rfl
  | cons i l ih =>
    rw [List.foldl_cons, List.foldl_cons, ih]
    split <;> rfl

/-! ## The groups (R176, R427) -/

/-- A command delivered in the cycle of the write takes the new group, any other command keeps its own (R163). -/
theorem palGroupHiWrite_tree (g : Nat) (d : Word) (s : State) (j : Nat) (x : TreeCmd) (hx : s.pal.tree[j]? = some x) :
    (palGroupHiWrite g d s).pal.tree[j]? = some
      (if x.k = s.cyc ∧ cmdSel x.cmd % 16 = g then { x with grp := BitVec.append d s.pal.groupLatch } else x) := by
  simp [palGroupHiWrite, hx]

/-- Settles O18: each register by what its write leaves, and the delivery by the cases of the present EKL cycle. -/
theorem paletteRegisters : Obligations.PaletteRegisters := by
  refine fun d m g s => ⟨fun hopen _ => ⟨fun hroom => ?_, ?_, ?_⟩, fun hdel hquiet => ?_,
    fun hrel hquiet hwait hdel c r hq => ?_⟩
  · exact ⟨_, congrArg Host.Outcome.next ((s.viaBlock_opens _ _ hopen).trans (s.ok.palCmdHi_room _ d hroom)),
      rfl, rfl, rfl, fun a ha => State.setReg_reg_ne _ _ _ _ ha⟩
  · refine ⟨_, congrArg Host.Outcome.next ((s.viaBlock_opens _ _ hopen).trans (palPendClr_eq m.toNat s.ok)),
      fun i => ?_, rfl, rfl⟩
    have hi : i.val ∈ List.range 16 := List.mem_range.2 i.isLt
    exact (get_pendCleared _ _ _ _).trans (by simp only [hi, true_and]; rfl)
  · exact ⟨_, congrArg Host.Outcome.next (s.viaBlock_opens _ _ hopen), rfl,
      fun j x hx => palGroupHiWrite_tree g.val d s.ok j x hx, rfl, rfl⟩
  · refine congrArg Host.Outcome.next ?_
    rw [registerCommandDelivery_delivered s hdel, s.settle_quiet hquiet]
  · have hexec : exec .registerCommandDelivery s = .next ((s.dequeued r).deliver 8192 c false) := by
      refine congrArg Host.Outcome.next ?_
      rw [registerCommandDelivery_oldest s c r hrel hwait hdel hq,
        State.settle_quiet _ (s.dequeued_deliver_quiet c r hquiet)]
    obtain ⟨l, hl⟩ := (s.dequeued r).deliver_only 8192 c false
    refine ⟨_, hexec, by rw [hl]; rfl, by rw [hl]; rfl, fun hv => ⟨pruneTree s.cyc s.pal.tree, ?_⟩, fun hv => ?_⟩
    · rw [State.deliver_valid _ _ _ _ hv]
      rfl
    · rw [State.deliver_invalid _ _ _ _ hv]
      rfl

end Sys2Proof.Machine
end

section
namespace Sys2Proof.Machine

/-! ## What the commands of a MAC channel change -/

/-- From `s` to `t` only tokens, MAC channel `ch` and the registers of `log` have changed. -/
def State.chanOnly (ch : Nat) (log : List Nat) (s t : State) : Prop :=
  t = { s with dis := t.dis, regs := t.regs, str := { s.str with chans := t.str.chans } } ∧
    (∀ c, c ≠ ch → t.mac c = s.mac c) ∧ ∀ a, a ∉ log → t.reg a = s.reg a

theorem State.chanOnly_refl (ch : Nat) (log : List Nat) (s : State) : s.chanOnly ch log s :=
  ⟨rfl, fun _ _ => rfl, fun _ _ => rfl⟩

section
variable {ch : Nat} {log : List Nat} {s t u : State}

theorem State.chanOnly.mac_ne (h : State.chanOnly ch log s t) {c : Nat} (hc : c ≠ ch) : t.mac c = s.mac c := by
  obtain ⟨-, hmac, -⟩ := h
  exact hmac c hc

theorem State.chanOnly.reg_ne (h : State.chanOnly ch log s t) {a : Nat} (ha : a ∉ log) : t.reg a = s.reg a := by
  obtain ⟨-, -, hreg⟩ := h
  exact hreg a ha

theorem State.chanOnly.can (h : State.chanOnly ch log s t) : t.can = s.can := by rw [h.1]
theorem State.chanOnly.part (h : State.chanOnly ch log s t) : t.part = s.part := by rw [h.1]
theorem State.chanOnly.cyc (h : State.chanOnly ch log s t) : t.cyc = s.cyc := by rw [h.1]
theorem State.chanOnly.sec (h : State.chanOnly ch log s t) : t.sec = s.sec := by rw [h.1]
theorem State.chanOnly.str (h : State.chanOnly ch log s t) : t.str = { s.str with chans := t.str.chans } := by rw [h.1]
theorem State.chanOnly.egrOf (h : State.chanOnly ch log s t) (e : Nat) : t.egrOf e = s.egrOf e := by
  rw [State.egrOf, h.str]
  rfl

theorem State.chanOnly.trans (h : State.chanOnly ch log s t) (g : State.chanOnly ch log t u) :
    State.chanOnly ch log s u := by
  obtain ⟨h1, h2, h3⟩ := h
  obtain ⟨g1, g2, g3⟩ := g
  exact ⟨g1.trans (by rw [h1]), fun c hc => (g2 c hc).trans (h2 c hc), fun a ha => (g3 a ha).trans (h3 a ha)⟩

theorem State.chanOnly.mono {log' : List Nat} (h : State.chanOnly ch log s t) (hl : log ⊆ log') :
    State.chanOnly ch log' s t := by
  obtain ⟨h1, h2, h3⟩ := h
  exact ⟨h1, h2, fun a ha => h3 a fun e => ha (hl e)⟩

theorem State.chanOnly.setMac (h : State.chanOnly ch log s t) (m : MacChan) : State.chanOnly ch log s (t.setMac ch m) :=
  h.trans ⟨rfl, fun _ hc => State.setMac_mac_ne _ _ _ _ hc, fun _ _ => rfl⟩

theorem State.chanOnly.setReg (h : State.chanOnly ch log s t) (a : Nat) (v : Word) (ha : a ∈ log) :
    State.chanOnly ch log s (t.setReg a v) :=
  h.trans ⟨rfl, fun _ _ => rfl, fun _ hj => State.setReg_reg_ne _ _ _ _ fun e => hj (e ▸ ha)⟩

theorem State.chanOnly.bump (h : State.chanOnly ch log s t) (a n : Nat) (ha : a ∈ log) :
    State.chanOnly ch log s (t.bump a n) := h.setReg a _ ha

theorem State.chanOnly.chEvent (h : State.chanOnly ch log s t) (m : Nat) (ha : chA Reg.chStat ch ∈ log) :
    State.chanOnly ch log s (t.chEvent ch m) := h.setReg _ _ ha

theorem State.chanOnly.ite {c : Prop} [Decidable c] (h : State.chanOnly ch log s t) (g : State.chanOnly ch log s u) :
    State.chanOnly ch log s (if c then t else u) := by
  split
  · exact h
  · exact g

theorem State.chanOnly.foldl {α : Type} {f : State → α → State} {l : List α}
    (hf : ∀ v, ∀ x ∈ l, State.chanOnly ch log v (f v x)) (h : State.chanOnly ch log s t) :
    State.chanOnly ch log s (l.foldl f t) := by
  induction l generalizing t with
  | nil => exact h
  | cons x l ih => exact ih (fun v y hy => hf v y (List.mem_cons_of_mem _ hy)) (h.trans (hf t x List.mem_cons_self))

end

/-! ## Counting and logs of addresses -/

/-- A counter that is bumped once, before or after changes elsewhere. -/
theorem State.counts_of_bump {s u t : State} {a n : Nat} (hu : u.reg a = s.reg a) (ht : t.reg a = (u.bump a n).reg a) :
    s.counts t a n := by
  have h := u.bump_counts a n
  unfold State.counts at h ⊢
  rw [ht, h, hu]

@[simp] theorem State.bump_mac (s : State) (a n c : Nat) : (s.bump a n).mac c = s.mac c := rfl
@[simp] theorem State.chEvent_mac (s : State) (ch m c : Nat) : (s.chEvent ch m).mac c = s.mac c := rfl
theorem State.chEvent_reg_ne (s : State) (ch m a : Nat) (h : a ≠ chA Reg.chStat ch) : (s.chEvent ch m).reg a = s.reg a :=
  State.orReg_reg_ne _ _ _ _ h
@[simp] theorem State.wire_mac_same (s : State) (ch : Nat) (b : List Byte) : (s.wire ch b).mac ch =
    { s.mac ch with sent := b, txBytes := Nat.min ((s.mac ch).txBytes + b.length) (2 ^ 64 - 1) } :=
  State.setMac_mac_same _ _ _

theorem State.chanOnly.wire {ch : Nat} {log : List Nat} {s t : State} (h : State.chanOnly ch log s t) (b : List Byte) :
    State.chanOnly ch log s (t.wire ch b) := h.setMac _

/-! ## PFC (R185) -/

/-- The counters of a sent PFC frame. -/
def pfcLog (ch : Nat) : List Nat := [chA Reg.chTxPfc ch, chA Reg.chTxFrames ch]

theorem State.sendPfc_only (s : State) (ch : Nat) (off : Bool) : s.chanOnly ch (pfcLog ch) (s.sendPfc ch off) :=
  State.chanOnly.wire (State.chanOnly.bump (State.chanOnly.bump (s.chanOnly_refl ch _) _ 1 (by simp [pfcLog])) _ 1
    (by simp [pfcLog])) _

theorem State.pfcCheck_only (s : State) (ch : Nat) : s.chanOnly ch (pfcLog ch) (s.pfcCheck ch) := by
  have hset (b : Bool) : s.chanOnly ch (pfcLog ch) (s.setMac ch { s.mac ch with xoff := b }) :=
    (s.chanOnly_refl ch _).setMac _
  unfold State.pfcCheck
  exact ((hset false).ite (s.chanOnly_refl ch _)).ite (((hset true).trans (State.sendPfc_only _ ch true)).ite
    (((hset false).trans (State.sendPfc_only _ ch false)).ite (s.chanOnly_refl ch _)))

/-- A PFC check decides XOFF and may send a frame; what was received stays. -/
theorem State.pfcCheck_received (s : State) (ch : Nat) :
    ((s.pfcCheck ch).mac ch).wait = (s.mac ch).wait ∧ ((s.pfcCheck ch).mac ch).deliv = (s.mac ch).deliv := by
  unfold State.pfcCheck State.sendPfc
  simp only []
  split_ifs <;> simp

@[simp] theorem State.pfcCheck_wait (s : State) (ch : Nat) : ((s.pfcCheck ch).mac ch).wait = (s.mac ch).wait :=
  (s.pfcCheck_received ch).1
@[simp] theorem State.pfcCheck_deliv (s : State) (ch : Nat) : ((s.pfcCheck ch).mac ch).deliv = (s.mac ch).deliv :=
  (s.pfcCheck_received ch).2

end Sys2Proof.Machine
end

section
namespace Sys2Proof.Machine

/-! ## Words on the edge ports (R127, R190) -/

/-- A word that reaches a tile whose Panel is not held enters the input of its port. -/
theorem State.portSend_running (s : State) (p : Nat) (w : ChWord) (h : s.heldOf (edgeTile p).1 = none) :
    s.portSend p w = s.pushIn (edgeTile p).1 (edgeTile p).2 w := by
  simp [State.portSend, State.arrive, h]

theorem State.pushIn_inp_same (s : State) (u i : Nat) (w : ChWord) :
    ((s.pushIn u i w).tile u).inp.get i [] = (s.tile u).inp.get i [] ++ [w] := by
  rw [State.pushIn, State.setTile_tile_same]
  exact SMap.get_set_same _ _ _ _

theorem State.pushIn_tile_ne (s : State) (u i v : Nat) (w : ChWord) (h : v ≠ u) : (s.pushIn u i w).tile v = s.tile v :=
  State.setTile_tile_ne _ _ _ _ h

theorem stripe_one (b : Nat) : stripe b 1 = [b] := rfl

theorem State.sendRow_one (s : State) (b : Nat) (w : ChWord) : s.sendRow b [w] = s.portSend b w := rfl

/-! ## The deliveries of a source -/

theorem State.setDeliv_delivOf_same (s : State) (src : Nat) (l : List Delivery) : (s.setDeliv src l).delivOf src = l := by
  by_cases h : src = 32 <;> simp [State.setDeliv, State.delivOf, h]

theorem State.setDeliv_keeps (s : State) (src : Nat) (l : List Delivery) :
    (s.setDeliv src l).can = s.can ∧ (s.setDeliv src l).regs = s.regs := by
  unfold State.setDeliv
  split <;> exact ⟨rfl, rfl⟩

/-- The occupancy of a channel is compared with its thresholds after a row of its frames; a tunnel has none. -/
def State.rowChecked (s : State) (src : Nat) : State := if src < 32 then s.pfcCheck src else s

theorem State.rowChecked_only (s : State) (src : Nat) : s.chanOnly src (pfcLog src) (s.rowChecked src) :=
  (s.pfcCheck_only src).ite (s.chanOnly_refl src _)

theorem State.rowChecked_delivOf (s : State) (src : Nat) : (s.rowChecked src).delivOf src = s.delivOf src := by
  unfold State.rowChecked State.delivOf
  by_cases h : src < 32
  · simp [h, Nat.ne_of_lt h]
  · simp [h]

/-! ## STREAM_ROW and MARKER_INSERT -/

section
variable {src : Nat} {d : Delivery} {rest : List Delivery} {r : Row} {rs : List Row} {s : State}

theorem streamRow_noCredit (hd : s.delivOf src = d :: rest) (hr : d.rows = r :: rs)
    (hc : (stripe d.pbase d.ports).all s.portCredit = false) : streamRow src s = s := by
  simp [streamRow, hd, hr, hc]

/-- The last row of a delivery that may go on, while no marker waits, ends the delivery and counts its frame. -/
theorem streamRow_last (hd : s.delivOf src = d :: rest) (hr : d.rows = [r]) (hm : s.str.marks = [])
    (hgo : d.started = true ∨ s.mustWait d = false) (hc : (stripe d.pbase d.ports).all s.portCredit = true) :
    streamRow src s =
      (((s.sendRow d.pbase r.ws).setDeliv src rest).bump (Reg.spxIscnt d.sid) 1).rowChecked src := by
  have hwait : (!d.started && s.mustWait d) = false := by rcases hgo with h | h <;> simp [h]
  simp [streamRow, hd, hr, hm, hwait, hc, State.rowChecked]

/-- Any other row of it leaves the delivery with the rows behind it. -/
theorem streamRow_more (hd : s.delivOf src = d :: rest) (hr : d.rows = r :: rs) (hrs : rs ≠ []) (hm : s.str.marks = [])
    (hgo : d.started = true ∨ s.mustWait d = false) (hc : (stripe d.pbase d.ports).all s.portCredit = true) :
    streamRow src s = ((s.sendRow d.pbase r.ws).setDeliv src (d.after r rs :: rest)).rowChecked src := by
  obtain ⟨q, qs, rfl⟩ := List.exists_cons_of_ne_nil hrs
  have hwait : (!d.started && s.mustWait d) = false := by rcases hgo with h | h <;> simp [h]
  simp [streamRow, hd, hr, hm, hwait, hc, State.rowChecked]

end

theorem markerInsert_noCredit (sid : Nat) (m : WaitMark) (s : State) (hm : s.str.marks = [m]) (hs : m.sid = sid)
    (hc : (stripe m.pbase m.ports).all s.portCredit = false) : markerInsert sid s = s := by
  simp [markerInsert, hm, hs, hc]

theorem markerInsert_sends (sid : Nat) (m : WaitMark) (s : State) (hm : s.str.marks = [m]) (hs : m.sid = sid)
    (hrows : s.rowsAhead m = false) (hc : (stripe m.pbase m.ports).all s.portCredit = true) :
    markerInsert sid s =
      { s with str.marks := [] }.sendRow m.pbase (List.replicate m.ports { data := m.word, tag := 2 }) := by
  simp [markerInsert, hm, hs, hrows, hc]

/-- The counter of a stream is none of those of a channel. -/
theorem spxIscnt_notMem_pfcLog (sid src : Nat) (hs : src ≤ 32) : Reg.spxIscnt sid ∉ pfcLog src := by
  simp only [pfcLog, chA, Reg.spxIscnt, Reg.chTxPfc, Reg.chTxFrames, List.mem_cons, List.not_mem_nil, or_false]
  omega

/-- Settles O25: one row or one marker, by whether its port holds credit. -/
theorem rowsIntoTheCanvas : Obligations.RowsIntoTheCanvas := by
  refine ⟨fun src d rest w r rs s hd hm hp hr hw _ => ⟨fun hc => ?_, fun hc hgo hheld => ?_⟩,
    fun sid m s hm hs hp => ⟨fun hc => ?_, fun hc hrows hheld => ?_⟩⟩
  · exact congrArg Host.Outcome.next (streamRow_noCredit hd hr (by simp [hp, stripe_one, hc]))
  · have hcredit : (stripe d.pbase d.ports).all s.portCredit = true := by simp [hp, stripe_one, hc]
    have hsend : s.sendRow d.pbase r.ws = s.pushIn (edgeTile d.pbase).1 (edgeTile d.pbase).2 w := by
      rw [hw, State.sendRow_one, State.portSend_running _ _ _ hheld]
    have hword (t : State) (ht : t.can = (s.sendRow d.pbase r.ws).can) :
        (t.tile (edgeTile d.pbase).1).inp.get (edgeTile d.pbase).2 [] =
            (s.tile (edgeTile d.pbase).1).inp.get (edgeTile d.pbase).2 [] ++ [w] ∧
          ∀ u, u ≠ (edgeTile d.pbase).1 → t.tile u = s.tile u := by
      have he (u : Nat) : t.tile u = (s.pushIn (edgeTile d.pbase).1 (edgeTile d.pbase).2 w).tile u := by
        rw [State.tile, State.tile, ht, hsend]
      exact ⟨by rw [he, State.pushIn_inp_same], fun u hu => by rw [he, State.pushIn_tile_ne _ _ _ _ _ hu]⟩
    by_cases hrs : rs = []
    · subst hrs
      have hsame := (((s.sendRow d.pbase r.ws).setDeliv src.val rest).bump (Reg.spxIscnt d.sid) 1).rowChecked_only src.val
      obtain ⟨hcan, hregs⟩ := (s.sendRow d.pbase r.ws).setDeliv_keeps src.val rest
      obtain ⟨hin, hother⟩ := hword _ (hsame.can.trans hcan)
      refine ⟨_, congrArg Host.Outcome.next (streamRow_last hd hr hm hgo hcredit), hin, hother, fun _ => ⟨?_, ?_⟩,
        fun h => absurd rfl h⟩
      · rw [State.rowChecked_delivOf]
        exact State.setDeliv_delivOf_same _ _ _
      · refine State.counts_of_bump ?_ (hsame.reg_ne (spxIscnt_notMem_pfcLog _ _ (by omega)))
        rw [State.reg, hregs, hsend]
        rfl
    · have hsame := ((s.sendRow d.pbase r.ws).setDeliv src.val (d.after r rs :: rest)).rowChecked_only src.val
      obtain ⟨hcan, -⟩ := (s.sendRow d.pbase r.ws).setDeliv_keeps src.val (d.after r rs :: rest)
      obtain ⟨hin, hother⟩ := hword _ (hsame.can.trans hcan)
      refine ⟨_, congrArg Host.Outcome.next (streamRow_more hd hr hrs hm hgo hcredit), hin, hother, fun h => absurd h hrs,
        fun _ => ⟨d.after r rs, ?_, rfl, rfl, rfl, rfl, rfl, hp⟩⟩
      rw [State.rowChecked_delivOf]
      exact State.setDeliv_delivOf_same _ _ _
  · exact congrArg Host.Outcome.next (markerInsert_noCredit sid m s hm hs (by simp [hp, stripe_one, hc]))
  · have hins := markerInsert_sends sid m s hm hs hrows (by simp [hp, stripe_one, hc])
    have hrun : State.heldOf { s with str.marks := [] } (edgeTile m.pbase).1 = none := hheld
    rw [hp, List.replicate_one, State.sendRow_one, State.portSend_running _ _ _ hrun] at hins
    exact ⟨_, congrArg Host.Outcome.next hins, rfl, State.pushIn_inp_same _ _ _ _,
      fun u hu => State.pushIn_tile_ne _ _ _ _ _ hu, rfl⟩

end Sys2Proof.Machine
end

section
namespace Sys2Proof.Machine

/-! ## Event tokens (R297) -/

/-- The sources inside the Dispatcher inject no packet: a token on channel 16 goes to its channel alone. -/
theorem State.sendToken_inside (s : State) (tk : Token) :
    s.sendToken 16 tk = s.setChan 16 { s.chan 16 with transit := (s.chan 16).transit ++ [tk] } := by
  simp [State.sendToken, chanNi]

theorem State.eventToken_str (s : State) (event sel : Nat) (val : Word) : (s.eventToken event sel val).str = s.str := by
  refine foldl_keeps State.str _ (fun v k => ?_) _ s
  simp only [State.sendToken_inside]
  split_ifs <;> rfl

theorem State.chanOnly.eventToken {ch : Nat} {log : List Nat} {s t : State} (h : State.chanOnly ch log s t)
    (event sel : Nat) (val : Word) (ha : Reg.disEvtdrop ∈ log) :
    State.chanOnly ch log s (t.eventToken event sel val) := by
  refine State.chanOnly.foldl (fun v k _ => ?_) h
  simp only [State.sendToken_inside]
  have hsent (c : Chan) : v.chanOnly ch log (v.setChan 16 c) := ⟨rfl, fun _ _ => rfl, fun _ _ => rfl⟩
  exact ((hsent _).ite ((v.chanOnly_refl ch log).bump _ 1 ha)).ite (v.chanOnly_refl ch log)

/-! ## The frames of an egress stream -/

@[simp] theorem State.setEgr_egrOf_same (s : State) (e : Nat) (l : List EFrame) : (s.setEgr e l).egrOf e = l :=
  SMap.get_set_same _ _ _ _

/-- Nothing ends at a stream whose oldest frame is not complete or has not started. -/
theorem State.finishStarted_idle (s : State) (e : Nat)
    (h : ∀ f r, s.egrOf e = f :: r → f.complete = false ∨ f.sfd = none) : s.finishStarted e = s := by
  unfold State.finishStarted
  split
  · next f r hq =>
    split
    · next hc hs => rcases h f r hq with h | h <;> simp_all
    · rfl
  · rfl

theorem State.finishStarted_complete (s : State) (e ch : Nat) (f : EFrame) (r : List EFrame) (st : Pos × Pos × Nat)
    (hq : s.egrOf e = f :: r) (hc : f.complete = true) (hs : f.sfd = some st)
    (hch : (s.reg (Reg.spxEgr0 e)).bits 16 12 = ch) : ∃ u, u = (s.setEgr e r).sendFrame ch e f st ∧
      s.finishStarted e = u.setMac ch { u.mac ch with onWire := none } := by
  refine ⟨_, rfl, ?_⟩
  simp [State.finishStarted, State.popEgr, hq, hc, hs, hch]

/-! ## Reassembly (R196) -/

/-- Ports whose heads are no markers have none to discard. -/
theorem State.egrMarkers_none (s : State) (ports : List Nat)
    (h : ∀ p ∈ ports, ∃ w, (s.can.edgeOut.get p []).head? = some w ∧ w.tag ≠ 2) : s.egrMarkers ports = s := by
  refine foldl_eq_self _ _ _ fun p hp => ?_
  obtain ⟨w, hw, htag⟩ := h p hp
  obtain ⟨q, hq⟩ := List.head?_eq_some_iff.1 hw
  simp [hq, htag]

/-- The state once a word has been taken from each of the ports. -/
def State.takeRow (s : State) (ports : List Nat) : State :=
  ports.foldl (fun s p => { s with can.edgeOut := s.can.edgeOut.set p ((s.can.edgeOut.get p []).drop 1) [] }) s

theorem State.takeRow_eq (s : State) (ports : List Nat) : s.takeRow ports = ports.foldl (fun s p =>
    { s with can.edgeOut := s.can.edgeOut.set p ((s.can.edgeOut.get p []).drop 1) [] }) s := rfl

theorem State.takeRow_only (s : State) (ports : List Nat) (hd : ports.Nodup) :
    ∃ m, s.takeRow ports = { s with can.edgeOut := m } ∧ ∀ p, m.get p [] =
      if p ∈ ports then (s.can.edgeOut.get p []).drop 1 else s.can.edgeOut.get p [] := by
  induction ports generalizing s with
  | nil => exact ⟨s.can.edgeOut, rfl, fun p => by simp⟩
  | cons k ks ih =>
    obtain ⟨hk, hks⟩ := List.nodup_cons.1 hd
    obtain ⟨m, hm, hget⟩ :=
      ih { s with can.edgeOut := s.can.edgeOut.set k ((s.can.edgeOut.get k []).drop 1) [] } hks
    refine ⟨m, hm, fun p => (hget p).trans ?_⟩
    by_cases hp : p = k
    · subst hp
      simp [hk, SMap.get_set_same]
    · simp only [SMap.get_set_ne _ _ _ _ _ _ hp, List.mem_cons, hp, false_or]

theorem State.takeRow_edgeOut (s : State) (ports : List Nat) (hd : ports.Nodup) (p : Nat) (hp : p ∈ ports) :
    (s.takeRow ports).can.edgeOut.get p [] = (s.can.edgeOut.get p []).drop 1 := by
  obtain ⟨m, hm, hget⟩ := s.takeRow_only ports hd
  rw [hm]
  exact (hget p).trans (if_pos hp)

theorem State.takeRow_keeps (s : State) (ports : List Nat) (hd : ports.Nodup) :
    (s.takeRow ports).can.tiles = s.can.tiles ∧ (s.takeRow ports).regs = s.regs ∧ (s.takeRow ports).str = s.str := by
  obtain ⟨m, hm, -⟩ := s.takeRow_only ports hd
  rw [hm]
  exact ⟨rfl, rfl, rfl⟩

theorem stripe_nodup (b n : Nat) : (stripe b n).Nodup := List.nodup_range.map fun _ _ h => Nat.add_left_cancel h

theorem mem_stripe (b n p : Nat) : p ∈ stripe b n ↔ ∃ i, i < n ∧ b + i = p := by simp [stripe]

/-- The heads of the ports of a stripe, in port order. -/
theorem stripe_heads (m : SMap (List ChWord)) (b : Nat) (ws : List ChWord)
    (h : ∀ i (hi : i < ws.length), (m.get (b + i) []).head? = some ws[i]) :
    (stripe b ws.length).filterMap (fun p => (m.get p []).head?) = ws := by
  have hall : (stripe b ws.length).map (fun p => (m.get p []).head?) = ws.map some := by
    refine List.ext_getElem (by simp [stripe]) fun i h1 h2 => ?_
    simpa [stripe] using h i (by simpa using h2)
  simpa [List.filterMap_map] using congrArg (List.filterMap id) hall

/-- A data word goes behind the words of a frame that has room for it. -/
theorem eatWord_data (hl : Nat) (f : EFrame) (w : ChWord) (hf : f.wantDesc = false) (hw : w.tag = 0)
    (hroom : hl + 4 * (f.words.length + 1) ≤ 9212) :
    eatWord hl { cur := f } w = { cur := { f with words := f.words ++ [w] } } := by
  have h1 : ¬9212 < hl + 4 * f.words.length := by omega
  have h2 : ¬9212 < hl + 4 * (f.words.length + 1) := by omega
  simp [eatWord, hf, hw, h1, h2]

theorem eatWords_data (hl : Nat) (f : EFrame) (ws : List ChWord) (hf : f.wantDesc = false) (hws : ∀ w ∈ ws, w.tag = 0)
    (hroom : hl + 4 * (f.words.length + ws.length) ≤ 9212) :
    ws.foldl (eatWord hl) { cur := f } = { cur := { f with words := f.words ++ ws } } := by
  induction ws generalizing f with
  | nil => simp
  | cons w ws ih =>
    rw [List.length_cons] at hroom
    rw [List.foldl_cons, eatWord_data hl f w hf (hws w (by simp)) (by omega),
      ih { f with words := f.words ++ [w] } hf (fun v hv => hws v (by simp [hv])) (by
        simp only [List.length_append, List.length_singleton]; omega)]
    simp

end Sys2Proof.Machine
end

section
namespace Sys2Proof.Machine

/-! ## EGRESS_ROW -/

section
variable {e b : Nat} {l : List EFrame} {f : EFrame} {ws : List ChWord} {s : State}
  (hhead : ∀ i (h : i < ws.length), ws[i].tag = 0 ∧ (s.can.edgeOut.get (b + i) []).head? = some ws[i])
include hhead

theorem stripe_holds_data : ∀ p ∈ stripe b ws.length, ∃ w, (s.can.edgeOut.get p []).head? = some w ∧ w.tag ≠ 2 := by
  intro p hp
  obtain ⟨i, hi, rfl⟩ := (mem_stripe _ _ _).1 hp
  obtain ⟨htag, hw⟩ := hhead i hi
  exact ⟨ws[i], hw, by simp [htag]⟩

theorem stripe_not_empty : (stripe b ws.length).any (fun p => (s.can.edgeOut.get p []).isEmpty) = false := by
  rw [List.any_eq_false]
  intro p hp
  obtain ⟨w, hw, -⟩ := stripe_holds_data hhead p hp
  obtain ⟨q, hq⟩ := List.head?_eq_some_iff.1 hw
  simp [hq]

variable (hrel : s.released = true) (hen : (s.reg (Reg.spxEgr0 e)).bit 0 = true)
  (hecc : s.wordFails 9 (spbEgress e) = false) (hb : (s.reg (Reg.spxEgr0 e)).bits 7 1 = b)
  (hn : (s.reg (Reg.spxEgr0 e)).bits 11 8 + 1 = ws.length) (hedge : oneEdge b ws.length = true)
  (hopen : s.stripeBlocked b ws.length = false) (hq : s.egrOf e = l ++ [f]) (hl : ∀ x ∈ l, x.sfd = none)
  (hc : f.complete = false) (hf : f.wantDesc = false) (hskip : e ∉ s.str.skip)
  (hbuf : s.egrBytes ((s.reg (Reg.spxEgr0 e)).bits 16 12) + 4 * ws.length ≤ 32768)
  (hroom : s.hlen (s.tmplOf e f) + 4 * (f.words.length + ws.length) ≤ 9212)
include hrel hen hecc hb hn hedge hopen hq hl hc hf hskip hbuf hroom

/-- A row of data words goes from the ports of an open stream into the frame in reassembly that has room for it (R196). -/
theorem egressRow_takes : egressRow e s =
    { (s.takeRow (stripe b ws.length)).setEgr e (l ++ [{ f with words := f.words ++ ws }]) with
      str.skip := (s.takeRow (stripe b ws.length)).str.skip.filter (· != e) } := by
  have hmark := s.egrMarkers_none _ (stripe_holds_data hhead)
  have hfull := stripe_not_empty hhead
  have hws := stripe_heads s.can.edgeOut b ws fun i hi => (hhead i hi).2
  have heat := eatWords_data (s.hlen (s.tmplOf e f)) f ws hf (fun w hw => by
    obtain ⟨i, hi, rfl⟩ := List.getElem_of_mem hw
    exact (hhead i hi).1) hroom
  have htake : (s.takeRow (stripe b ws.length)).egrOf e = l ++ [f] ∧ e ∉ (s.takeRow (stripe b ws.length)).str.skip ∧
      (s.takeRow (stripe b ws.length)).hlen ((s.takeRow (stripe b ws.length)).tmplOf e f) = s.hlen (s.tmplOf e f) := by
    obtain ⟨m, hm, -⟩ := s.takeRow_only (stripe b ws.length) (stripe_nodup _ _)
    rw [hm]
    exact ⟨hq, hskip, rfl⟩
  simp only [egressRow, hb, hn, hrel, hen, hecc, hedge, hopen, hmark, hfull, hws, Nat.not_lt.2 hbuf, ← State.takeRow_eq]
  generalize s.takeRow (stripe b ws.length) = u at htake ⊢
  obtain ⟨hegr, hnot, hhl⟩ := htake
  refine Eq.trans (b := State.finishStarted { u.setEgr e (l ++ [{ f with words := f.words ++ ws }]) with
    str.skip := u.str.skip.filter (· != e) } e) ?_ (State.finishStarted_idle _ _ fun g r hg => ?_)
  · simp [hegr, hnot, hhl, heat, hc]
    rfl
  · have hall : l ++ [{ f with words := f.words ++ ws }] = g :: r := (SMap.get_set_same _ _ _ _).symm.trans hg
    cases l with
    | nil =>
      obtain ⟨rfl, -⟩ := List.cons.inj hall
      exact .inl hc
    | cons x xs =>
      obtain ⟨rfl, -⟩ := List.cons.inj hall
      exact .inr (hl x (by simp))

end

/-! ## FRAME_TX_START (R197, R199) -/

/-- The one element of a list that satisfies a test is found. -/
theorem find?_eq_of_unique {α : Type} {p : α → Bool} {l : List α} {a : α} (ha : a ∈ l) (hp : p a = true)
    (h : ∀ b ∈ l, b ≠ a → p b = false) : l.find? p = some a := by
  obtain ⟨b, hb⟩ := Option.isSome_iff_exists.1 (List.find?_isSome.2 ⟨a, ha, hp⟩)
  by_contra hne
  have hba : b ≠ a := fun e => hne (e ▸ hb)
  exact absurd (List.find?_some hb) (by simp [h b (List.mem_of_find?_eq_some hb) hba])

/-- Frame `f` of stream `e`, ahead of `r`, starts on the wire of channel `ch`. -/
def State.startFrame (s : State) (ch e : Nat) (f : EFrame) (r : List EFrame) : State :=
  ((s.bump (chA Reg.chTxFrames ch) 1).setMac ch { s.mac ch with lastE := e, onWire := some e }).setEgr e
    ({ f with sfd := some (s.sfdStamp ch (s.tmplOf e f)) } :: r)

theorem frameTxStart_starts (ch e : Nat) (f : EFrame) (r : List EFrame) (s : State) (he : e < 64)
    (hrun : s.chRuns ch = true) (hfree : (s.mac ch).onWire = none) (hmay : s.mayStart ch e = true)
    (hone : ∀ k, k < 64 → k ≠ e → s.mayStart ch k = false) (hq : s.egrOf e = f :: r) :
    frameTxStart ch s = (s.startFrame ch e f r).finishStarted e := by
  have hfind : ((List.range 64).filter (fun k => decide ((s.mac ch).lastE < k)) ++
      (List.range 64).filter (fun k => decide (k ≤ (s.mac ch).lastE))).find? (s.mayStart ch) = some e := by
    refine find?_eq_of_unique ?_ hmay fun k hk hne => hone k ?_ hne
    · simpa [he] using Nat.lt_or_ge (s.mac ch).lastE e
    · simp only [List.mem_append, List.mem_filter, List.mem_range] at hk
      omega
  simp only [frameTxStart, hrun, hfree, hfind, hq]
  rfl

theorem State.mayStart_chan (s : State) (ch e : Nat) (h : s.mayStart ch e = true) :
    (s.reg (Reg.spxEgr0 e)).bits 16 12 = ch := by
  simp only [State.mayStart, Bool.and_eq_true, beq_iff_eq] at h
  obtain ⟨⟨⟨⟨-, hch⟩, -⟩, -⟩, -⟩ := h
  exact hch

theorem Word.bit_of_bits_eq_zero (w : Word) (hi lo i : Nat) (h : w.bits hi lo = 0) (h1 : lo ≤ i) (h2 : i ≤ hi) :
    w.bit i = false := by
  have hbit := testBit_bitsOf w.toNat hi lo (i - lo)
  rw [← Word.bits, h, Nat.zero_testBit, Nat.add_sub_cancel' h1, decide_eq_true (by omega), Bool.true_and] at hbit
  exact hbit.symm

/-- A plain complete frame leaves whole: built from its template, and with a right FCS. -/
theorem State.sendFrame_plain (s : State) (ch e : Nat) (f : EFrame) (st : Pos × Pos × Nat) (hdesc : f.desc = none)
    (hpoison : f.poison = false) (hcut : f.cut = false) (hlen : s.tooLong (s.tmplOf e f) f = false)
    (hecc : s.wordFails 9 (spbTemplate (s.tmplOf e f)) = false)
    (hptp : (s.reg (Reg.spxTmpl0 (s.tmplOf e f))).bits 20 19 = 0) :
    ∃ q, s.sendFrame ch e f st = State.wire { s with str.tseq := q } ch
      (wireBytes (s.buildFrame (s.tmplOf e f) f st (s.str.tseq.get (s.tmplOf e f) 0)) false) := by
  have hone := Word.bit_of_bits_eq_zero _ 20 19 19 hptp (by decide) (by decide)
  have htwo := Word.bit_of_bits_eq_zero _ 20 19 20 hptp (by decide) (by decide)
  refine ⟨s.str.tseq.set (s.tmplOf e f) ((s.str.tseq.get (s.tmplOf e f) 0 + 1) % 4294967296) 0, ?_⟩
  obtain ⟨v, hv⟩ : ∃ v : State, v = { s with
    str.tseq := s.str.tseq.set (s.tmplOf e f) ((s.str.tseq.get (s.tmplOf e f) 0 + 1) % 4294967296) 0 } := ⟨_, rfl⟩
  have hbad : v.tooLong (s.tmplOf e f) f = false ∧ v.wordFails 9 (spbTemplate (s.tmplOf e f)) = false := by
    rw [hv]
    exact ⟨hlen, hecc⟩
  have hstamp (b : List Byte) : v.stampTwoStep ch (s.tmplOf e f) b st = v := by
    have hreg : v.reg (Reg.spxTmpl0 (s.tmplOf e f)) = s.reg (Reg.spxTmpl0 (s.tmplOf e f)) := by rw [hv]; rfl
    simp [State.stampTwoStep, hreg, hone, htwo]
  simp only [State.sendFrame, hdesc, hpoison, hcut, ← hv, Bool.false_eq_true, if_false, hbad, hstamp, Bool.or_false]

/-- A frame is built from its words and from the registers of the edge exchange, which stand from 0x150000 on. -/
theorem State.buildFrame_congr (s t : State) (k : Nat) (f g : EFrame) (st : Pos × Pos × Nat) (seq : Nat)
    (h : ∀ a, 0x150000 ≤ a → t.reg a = s.reg a) (hf : g.payload = f.payload) :
    t.buildFrame k g st seq = s.buildFrame k f st seq := by
  have h0 : t.reg (Reg.spxTmpl0 k) = s.reg (Reg.spxTmpl0 k) := h _ (by simp only [Reg.spxTmpl0]; omega)
  have h1 : t.reg (Reg.spxTmpl1 k) = s.reg (Reg.spxTmpl1 k) := h _ (by simp only [Reg.spxTmpl1]; omega)
  have hw (i : Nat) : t.reg (Reg.spxTmplW k i) = s.reg (Reg.spxTmplW k i) := h _ (by simp only [Reg.spxTmplW]; omega)
  simp only [State.buildFrame, State.hlen, h0, h1, hw, hf]

end Sys2Proof.Machine
end

section
namespace Sys2Proof.Machine

/-- A start counts at its channel and leaves the registers of the edge exchange. -/
theorem State.startFrame_reg (s : State) (ch e a : Nat) (f : EFrame) (r : List EFrame) (hch : ch < 32)
    (ha : 0x150000 ≤ a) : (s.startFrame ch e f r).reg a = s.reg a := by
  have hne : a ≠ chA Reg.chTxFrames ch := by
    simp only [chA, Reg.chTxFrames]
    omega
  exact s.bump_reg_ne _ 1 a hne

theorem State.startFrame_counts (s : State) (ch e : Nat) (f : EFrame) (r : List EFrame) :
    s.counts (s.startFrame ch e f r) (chA Reg.chTxFrames ch) 1 := s.bump_counts _ _

theorem State.startFrame_mac (s : State) (ch e : Nat) (f : EFrame) (r : List EFrame) :
    (s.startFrame ch e f r).mac ch = { s.mac ch with lastE := e, onWire := some e } := State.setMac_mac_same _ _ _

theorem State.startFrame_egrOf (s : State) (ch e : Nat) (f : EFrame) (r : List EFrame) :
    (s.startFrame ch e f r).egrOf e = { f with sfd := some (s.sfdStamp ch (s.tmplOf e f)) } :: r :=
  State.setEgr_egrOf_same _ _ _

/-- A frame that starts before it is complete stays on the wire, with the stamps of its start. -/
theorem frameTxStart_incomplete (ch e : Nat) (f : EFrame) (r : List EFrame) (s : State) (hc : f.complete = false)
    (hstart : frameTxStart ch s = (s.startFrame ch e f r).finishStarted e) :
    frameTxStart ch s = s.startFrame ch e f r := by
  refine hstart.trans (State.finishStarted_idle _ _ fun g q hg => ?_)
  obtain ⟨rfl, -⟩ := List.cons.inj ((s.startFrame_egrOf ch e f r).symm.trans hg)
  exact .inl hc

/-- A plain frame that is complete when it starts is sent as its template builds it, and leaves the wire free. -/
theorem frameTxStart_plain (ch e : Nat) (f : EFrame) (r : List EFrame) (s : State) (hch : ch < 32)
    (he : (s.reg (Reg.spxEgr0 e)).bits 16 12 = ch)
    (hstart : frameTxStart ch s = (s.startFrame ch e f r).finishStarted e) (hc : f.complete = true) (hdesc : f.desc = none)
    (hpoison : f.poison = false) (hcut : f.cut = false) (hlen : s.tooLong (s.tmplOf e f) f = false)
    (hecc : s.wordFails 9 (spbTemplate (s.tmplOf e f)) = false)
    (hptp : (s.reg (Reg.spxTmpl0 (s.tmplOf e f))).bits 20 19 = 0) :
    ∃ q t, frameTxStart ch s = t ∧ State.chanOnly ch [] { (s.startFrame ch e f r).setEgr e r with str.tseq := q } t ∧
      (t.mac ch).onWire = none ∧ (t.mac ch).sent = wireBytes (s.buildFrame (s.tmplOf e f) f
        (s.sfdStamp ch (s.tmplOf e f)) (s.str.tseq.get (s.tmplOf e f) 0)) false := by
  obtain ⟨v, hv⟩ : ∃ v, v = (s.startFrame ch e f r).setEgr e r := ⟨_, rfl⟩
  obtain ⟨g, hg⟩ : ∃ g : EFrame, g = { f with sfd := some (s.sfdStamp ch (s.tmplOf e f)) } := ⟨_, rfl⟩
  have hreg (a : Nat) (ha : 0x150000 ≤ a) : v.reg a = s.reg a := by
    rw [hv]
    exact s.startFrame_reg ch e a f r hch ha
  have htmpl : v.tmplOf e g = s.tmplOf e f := by
    simp only [State.tmplOf, hg, hreg (Reg.spxEgr0 e) (by simp only [Reg.spxEgr0]; omega)]
  have ht0 : v.reg (Reg.spxTmpl0 (s.tmplOf e f)) = s.reg (Reg.spxTmpl0 (s.tmplOf e f)) :=
    hreg _ (by simp only [Reg.spxTmpl0]; omega)
  have hlen' : v.tooLong (s.tmplOf e f) g = false := by
    rw [← hlen, hg]
    simp only [State.tooLong, State.hlen, ht0]
    rfl
  obtain ⟨u, hu, hfin⟩ := (s.startFrame ch e f r).finishStarted_complete e ch g r (s.sfdStamp ch (s.tmplOf e f))
    (by rw [hg, s.startFrame_egrOf]) (by rw [hg]; exact hc) (by rw [hg])
    (by rw [s.startFrame_reg ch e _ f r hch (by simp only [Reg.spxEgr0]; omega), he])
  obtain ⟨q, hq⟩ := v.sendFrame_plain ch e g (s.sfdStamp ch (s.tmplOf e f)) (by rw [hg]; exact hdesc)
    (by rw [hg]; exact hpoison) (by rw [hg]; exact hcut) (by rw [htmpl]; exact hlen')
    (by rw [htmpl, hv]; exact hecc) (by rw [htmpl, ht0]; exact hptp)
  rw [htmpl, s.buildFrame_congr v (s.tmplOf e f) f g _ _ hreg (by rw [hg]; rfl)] at hq
  rw [← hv, hq] at hu
  refine ⟨q, _, hstart.trans hfin, ?_, ?_, ?_⟩
  · rw [hu, ← hv]
    exact ((State.chanOnly_refl _ _ _).wire _).setMac _
  · rw [State.setMac_mac_same]
  · rw [State.setMac_mac_same, hu, State.wire_mac_same, hv]
    rfl

/-! ## TX_UNDER (R195, R199) -/

theorem State.chanOnly.pushTxTs {ch : Nat} {log : List Nat} {s t : State} (h : State.chanOnly ch log s t) (b : List Byte)
    (p : Nat) (stamp : Pos) (hstat : chA Reg.chStat ch ∈ log) (hevt : Reg.disEvtdrop ∈ log) :
    State.chanOnly ch log s (t.pushTxTs ch b p stamp) := by
  unfold State.pushTxTs
  exact (h.chEvent _ hstat).ite (((h.setMac _).eventToken _ _ _ hevt).ite (h.setMac _))

theorem State.chanOnly.stampTwoStep {ch : Nat} {log : List Nat} {s t : State} (h : State.chanOnly ch log s t) (k : Nat)
    (b : List Byte) (st : Pos × Pos × Nat) (hstat : chA Reg.chStat ch ∈ log) (hevt : Reg.disEvtdrop ∈ log) :
    State.chanOnly ch log s (t.stampTwoStep ch k b st) := by
  unfold State.stampTwoStep
  exact (h.pushTxTs _ _ _ hstat hevt).ite h

/-- What the end of a started frame changes at its channel, once the frame is gone. -/
def endLog (ch : Nat) : List Nat := [chA Reg.chStat ch, Reg.disEvtdrop]

theorem State.endFrame_started (s : State) (ch e : Nat) (f : EFrame) (r : List EFrame) (st : Pos × Pos × Nat)
    (hs : f.sfd = some st) : ∃ q u, u = ((s.setEgr e r).skipOn e).bump (chA Reg.chTxUnder ch) 1 ∧
      State.chanOnly ch (endLog ch) { u with str.tseq := q } (s.endFrame ch e f r) ∧
      ((s.endFrame ch e f r).mac ch).onWire = none := by
  simp only [State.endFrame, hs]
  refine ⟨_, _, rfl, State.chanOnly.setMac (State.chanOnly.chEvent (State.chanOnly.wire
    (State.chanOnly.stampTwoStep (State.chanOnly_refl _ _ _) _ _ _ ?_ ?_) _) _ ?_) _, ?_⟩
  · simp [endLog]
  · simp [endLog]
  · simp [endLog]
  · rw [State.setMac_mac_same]

theorem txUnder_ends (ch e : Nat) (f : EFrame) (r : List EFrame) (st : Pos × Pos × Nat) (s : State)
    (hw : (s.mac ch).onWire = some e) (hq : s.egrOf e = f :: r) (hc : f.complete = false) (hs : f.sfd = some st) :
    txUnder ch s = s.endFrame ch e f r := by
  simp [txUnder, hw, hq, hc, EFrame.started, hs]

/-- Settles O26: a row into the frame in reassembly, the start of the one stream that may start, and the end of a started
frame. -/
theorem framesOutOfTheCanvas : Obligations.FramesOutOfTheCanvas := by
  refine ⟨?_, fun ch e f r s hrun hfree hmay hone hq => ?_, fun ch e f r st s hw hq hc hs => ?_⟩
  · rintro e l f ws b n s hrel hen hecc rfl hn hedge hopen hq hl hc hf hskip rfl hhead hbuf hroom
    have hd := stripe_nodup ((s.reg (Reg.spxEgr0 e.val)).bits 7 1) ws.length
    obtain ⟨htiles, hregs, -⟩ := s.takeRow_keeps _ hd
    exact ⟨_, congrArg Host.Outcome.next
      (egressRow_takes hhead hrel hen hecc rfl hn.symm hedge hopen hq hl hc hf hskip hbuf hroom),
      SMap.get_set_same _ _ _ _, fun i hi => s.takeRow_edgeOut _ hd _ ((mem_stripe _ _ _).2 ⟨i, hi, rfl⟩), htiles, hregs⟩
  · have hstart := frameTxStart_starts ch.val e.val f r s e.isLt hrun hfree hmay hone hq
    refine ⟨fun hc => ?_, fun hc hdesc hpoison hcut hlen hecc hptp => ?_⟩
    · refine ⟨_, congrArg Host.Outcome.next (frameTxStart_incomplete _ _ _ _ _ hc hstart), ?_, ?_,
        s.startFrame_egrOf _ _ _ _, s.startFrame_counts _ _ _ _⟩
      · rw [s.startFrame_mac]
      · rw [s.startFrame_mac]
    · obtain ⟨q, t, ht, hsame, hwire, hsent⟩ := frameTxStart_plain ch.val e.val f r s ch.isLt (s.mayStart_chan _ _ hmay)
        hstart hc hdesc hpoison hcut hlen hecc hptp
      exact ⟨t, congrArg Host.Outcome.next ht, hwire, (hsame.egrOf e.val).trans (SMap.get_set_same _ _ _ _), hsent,
        State.counts_of_bump rfl (hsame.reg_ne List.not_mem_nil)⟩
  · obtain ⟨q, u, hu, hsame, hwire⟩ := s.endFrame_started ch.val e.val f r st hs
    have hstr := hsame.str
    refine ⟨_, congrArg Host.Outcome.next (txUnder_ends ch.val e.val f r st s hw hq hc hs), hwire, ?_, ?_, ?_, ?_⟩
    · exact (hsame.egrOf e.val).trans (by rw [hu]; exact SMap.get_set_same _ _ _ _)
    · rw [hstr, hu]
      exact List.mem_cons_self
    · refine State.counts_of_bump (u := (s.setEgr e.val r).skipOn e.val) rfl ((hsame.reg_ne ?_).trans (by rw [hu]; rfl))
      simp only [endLog, chA, Reg.chTxUnder, Reg.chStat, Reg.disEvtdrop, List.mem_cons, List.not_mem_nil, or_false]
      omega
    · rw [hsame.can, hu]
      rfl

end Sys2Proof.Machine
end

section
namespace Sys2Proof.Machine

/-! ## RECEIVED_FRAME (R183, R184, R202) -/

/-- What the checks of a received frame change before it waits. -/
def rxLog (ch : Nat) : List Nat := [chA Reg.chRxFrames ch, chA Reg.chRxFcs ch, chA Reg.chStat ch]

/-- The state in which a frame of 64 to 9,216 bytes has been counted and its FCS checked. -/
def State.rxChecked (s : State) (ch : Nat) (b : List Byte) : State :=
  if fcsOk b then s.countRx ch b.length else ((s.countRx ch b.length).bump (chA Reg.chRxFcs ch) 1).chEvent ch 2

theorem State.rxChecked_eq (s : State) (ch : Nat) (b : List Byte) : s.rxChecked ch b = if fcsOk b then
    s.countRx ch b.length else ((s.countRx ch b.length).bump (chA Reg.chRxFcs ch) 1).chEvent ch 2 := rfl

theorem State.countRx_mac (s : State) (ch len : Nat) : (s.countRx ch len).mac ch =
    { s.mac ch with rxBytes := Nat.min ((s.mac ch).rxBytes + len) (2 ^ 64 - 1) } := State.setMac_mac_same _ _ _

theorem State.rxChecked_only (s : State) (ch : Nat) (b : List Byte) : s.chanOnly ch (rxLog ch) (s.rxChecked ch b) := by
  have hcount : s.chanOnly ch (rxLog ch) (s.countRx ch b.length) :=
    ((s.chanOnly_refl ch _).bump _ _ (by simp [rxLog])).setMac _
  exact hcount.ite ((hcount.bump _ _ (by simp [rxLog])).chEvent _ (by simp [rxLog]))

theorem State.rxChecked_wait (s : State) (ch : Nat) (b : List Byte) :
    ((s.rxChecked ch b).mac ch).wait = (s.mac ch).wait := by
  unfold State.rxChecked
  split <;> simp [State.countRx_mac]

theorem State.rxChecked_counts (s : State) (ch : Nat) (b : List Byte) :
    s.counts (s.rxChecked ch b) (chA Reg.chRxFrames ch) 1 ∧
      (fcsOk b = false → s.counts (s.rxChecked ch b) (chA Reg.chRxFcs ch) 1) := by
  have hfcs : chA Reg.chRxFrames ch ≠ chA Reg.chRxFcs ch := by simp only [chA, Reg.chRxFrames, Reg.chRxFcs]; omega
  have hstat : chA Reg.chRxFrames ch ≠ chA Reg.chStat ch := by simp only [chA, Reg.chRxFrames, Reg.chStat]; omega
  have hstat' : chA Reg.chRxFcs ch ≠ chA Reg.chStat ch := by simp only [chA, Reg.chRxFcs, Reg.chStat]; omega
  refine ⟨State.counts_of_bump (u := s) rfl ?_, fun h => State.counts_of_bump (u := s.countRx ch b.length) ?_ ?_⟩
  · unfold State.rxChecked
    split
    · rfl
    · rw [State.chEvent_reg_ne _ _ _ _ hstat, State.bump_reg_ne _ _ _ _ hfcs]
      rfl
  · exact s.bump_reg_ne _ 1 _ hfcs.symm
  · rw [State.rxChecked, h, if_neg (by decide), State.chEvent_reg_ne _ _ _ _ hstat']

/-- Without receive timestamps no frame enters their FIFO (R194). -/
theorem State.ptpReceive_off (s : State) (ch : Nat) (b : List Byte) (st : List Pos)
    (h : (s.reg (chA Reg.chCfg ch)).bit 16 = false) : s.ptpReceive ch b st = s := by
  simp only [State.ptpReceive, h, Bool.not_false, Bool.true_or, if_true]
  split <;> rfl

theorem State.mgtTakes_congr (s t : State) (ch : Nat) (b : List Byte) (h1 : t.reg Reg.mgtIbCfg = s.reg Reg.mgtIbCfg)
    (h2 : t.reg (chA Reg.chCfg ch) = s.reg (chA Reg.chCfg ch)) : t.mgtTakes ch b = s.mgtTakes ch b := by
  simp only [State.mgtTakes, State.regB, h1, h2]

theorem State.gmode_congr (s t : State) (g : Nat) (h : t.reg (Reg.spgGcfg g) = s.reg (Reg.spgGcfg g)) :
    t.gmode g = s.gmode g := by
  unfold State.gmode State.regF
  rw [h]

section
variable {ch : Nat} {b : List Byte} {s : State} (hch : ch < 32) (hrun : s.chRuns ch = true) (hrel : s.released = true)
  (hmin : 64 ≤ b.length) (hmax : b.length ≤ 9216) (hpause : isControl b 1 = false) (hpfc : isControl b 0x101 = false)
  (hroom : (s.mac ch).occupied + 9216 ≤ s.bufSize ch) (hmgt : s.mgtTakes ch b = false)
  (hts : (s.reg (chA Reg.chCfg ch)).bit 16 = false)
include hch hrun hrel hmin hmax hpause hpfc hroom hmgt hts

/-- A data frame that the buffer has room for waits for classification, without its FCS and bad when that is wrong. -/
theorem receivedFrame_waits : ∃ f : RxFrame, f.bytes = b.take (b.length - 4) ∧ f.bad = !fcsOk b ∧ f.held = b.length ∧
    ∃ u, u = s.rxChecked ch b ∧
      receivedFrame ch b s = (u.setMac ch { u.mac ch with wait := (u.mac ch).wait ++ [f] }).pfcCheck ch := by
  have hsame := s.rxChecked_only ch b
  have hreg (a : Nat) (ha : a < 0x140000 ∨ a = Reg.spgGcfg (ch / 8) ∨ a = chA Reg.chCfg ch) :
      (s.rxChecked ch b).reg a = s.reg a := by
    refine hsame.reg_ne ?_
    simp only [Reg.spgGcfg, chA, Reg.chCfg] at ha
    simp only [rxLog, chA, Reg.chRxFrames, Reg.chRxFcs, Reg.chStat, List.mem_cons, List.not_mem_nil, or_false]
    omega
  have hfull : ¬(s.countRx ch b.length).bufSize ch < ((s.countRx ch b.length).mac ch).occupied + 9216 := by
    have hmode : (s.countRx ch b.length).gmode (ch / 8) = s.gmode (ch / 8) := by
      refine s.gmode_congr _ _ (s.bump_reg_ne _ 1 _ ?_)
      simp only [Reg.spgGcfg, chA, Reg.chRxFrames]
      omega
    rw [State.countRx_mac, State.bufSize, hmode]
    exact Nat.not_lt.2 hroom
  have hmgt' : (s.rxChecked ch b).mgtTakes ch b = false :=
    (s.mgtTakes_congr _ _ _ (hreg _ (.inl (by decide))) (hreg _ (.inr (.inr rfl)))).trans hmgt
  have hrel' : (s.rxChecked ch b).released = true := by
    rw [State.released, State.regB, hreg _ (.inl (by decide))]
    exact hrel
  have hoff (x : List Byte) (st : List Pos) : (s.rxChecked ch b).ptpReceive ch x st = s.rxChecked ch b :=
    State.ptpReceive_off _ _ _ _ ((hreg _ (.inr (.inr rfl))).symm ▸ hts)
  refine ⟨{ bytes := b.take (b.length - 4), held := Nat.min b.length 9216, bad := !fcsOk b,
            stamps := (List.range 16).map (s.countRx ch b.length).axPos, sfd := (s.rxChecked ch b).cyc,
            rate := (s.rxChecked ch b).chRate ch, total := b.length },
    rfl, rfl, Nat.min_eq_left hmax, _, rfl, ?_⟩
  have hlow : ¬b.length < 64 := by omega
  have habove : ¬9216 < b.length := by omega
  simp only [receivedFrame, hrun, hpause, hpfc, hfull, hlow, habove, Bool.not_true, Bool.false_eq_true, if_false,
    Bool.or_false, Bool.and_false, decide_false, Bool.false_or, ← State.rxChecked_eq, hmgt', hrel', hoff]

end

end Sys2Proof.Machine
end

section
namespace Sys2Proof.Machine

/-! ## CLASSIFICATION (R184, R187, R190, R429) -/

/-- The state in which the oldest waiting frame of a channel has been taken. -/
def State.takeWaiting (s : State) (ch : Nat) (q : List RxFrame) : State := s.setMac ch { s.mac ch with wait := q }

theorem State.takeWaiting_eq (s : State) (ch : Nat) (q : List RxFrame) :
    s.takeWaiting ch q = s.setMac ch { s.mac ch with wait := q } := rfl

@[simp] theorem State.takeWaiting_mac_same (s : State) (ch : Nat) (q : List RxFrame) :
    (s.takeWaiting ch q).mac ch = { s.mac ch with wait := q } := State.setMac_mac_same _ _ _
@[simp] theorem State.takeWaiting_ruleMatches (s : State) (ch : Nat) (q : List RxFrame) :
    (s.takeWaiting ch q).ruleMatches = s.ruleMatches := rfl
@[simp] theorem State.takeWaiting_rule (s : State) (ch : Nat) (q : List RxFrame) : (s.takeWaiting ch q).rule = s.rule := rfl

@[simp] theorem State.takeWaiting_reg (s : State) (ch : Nat) (q : List RxFrame) : (s.takeWaiting ch q).reg = s.reg := rfl

/-- A frame that is assigned to a stream with an open ingress path becomes a delivery to its stripe, numbered in the
order of classification, and advances the frame sequence number of the stream. -/
theorem State.toStream_open (s : State) (sid : Nat) (f : RxFrame) (corr : Word) (hpath : s.ingressPath sid = true)
    (hopen : s.stripeBlocked ((s.reg (Reg.spxIng0 sid)).bits 26 20) ((s.reg (Reg.spxIng0 sid)).bits 30 27 + 1) = false) :
    ∃ d fb l, s.toStream sid f corr = (some d, fb, { s with
        str := { s.str with
          seqNo := s.str.seqNo.set sid ((s.str.seqNo.get sid 0 + 1) % 4294967296) 0
          order := s.str.order + 1
          lost := l } }) ∧
      d.sid = sid ∧ d.order = s.str.order ∧ d.pbase = (s.reg (Reg.spxIng0 sid)).bits 26 20 ∧ d.held = f.held := by
  have hgo : (!s.ingressPath sid ||
      s.stripeBlocked ((s.reg (Reg.spxIng0 sid)).bits 26 20) ((s.reg (Reg.spxIng0 sid)).bits 30 27 + 1)) = false := by
    simp [hpath, hopen]
  refine ⟨_, _, _, if_neg (Bool.not_eq_true _ ▸ hgo), rfl, rfl, rfl, rfl⟩

theorem lowest_rule_found (s : State) (ch r : Nat) (b : List Byte) (hr : r < 256)
    (hmatch : s.ruleMatches ch r (parseFrame b) b = true)
    (hfirst : ∀ k, k < r → s.ruleMatches ch k (parseFrame b) b = false) :
    (List.range 256).find? (fun r => s.ruleMatches ch r (parseFrame b) b) = some r :=
  List.find?_range_eq_some.2 ⟨hmatch, List.mem_range.2 hr, fun k hk => by simp [hfirst k hk]⟩

section
variable {ch : Nat} {f : RxFrame} {q : List RxFrame} {s : State} (hw : (s.mac ch).wait = f :: q)
include hw

theorem classification_unmatched (hcfg : (s.reg (chA Reg.chCfg ch)).bit 11 = true)
    (h : ∀ r, r < 256 → s.ruleMatches ch r (parseFrame f.bytes) f.bytes = false) :
    classification ch s = ((s.takeWaiting ch q).bump (chA Reg.chRxNomatch ch) 1).pfcCheck ch := by
  have hfind : (List.range 256).find? (fun r => s.ruleMatches ch r (parseFrame f.bytes) f.bytes) = none := by
    rw [List.find?_eq_none]
    intro r hr
    simp [h r (List.mem_range.1 hr)]
  simp only [classification, hw, ← State.takeWaiting_eq, State.takeWaiting_ruleMatches, hfind]
  simp [hcfg]

variable {r : Nat} (hfind : (List.range 256).find? (fun r => s.ruleMatches ch r (parseFrame f.bytes) f.bytes) = some r)
include hfind

theorem classification_dropped (hdrop : (s.rule r 0).bit 18 = true) :
    classification ch s = ((s.takeWaiting ch q).bump (chA Reg.chRxRdrop ch) 1).pfcCheck ch := by
  simp only [classification, hw, ← State.takeWaiting_eq, State.takeWaiting_ruleMatches, hfind]
  simp [hdrop]

/-- A frame of a rule without DROP goes behind the deliveries of its channel, when its stream has an open path. -/
theorem classification_delivered (hkeep : (s.rule r 0).bit 18 = false) (sid : Nat) (hsid : (s.rule r 18).bits 9 0 = sid)
    (hpath : s.ingressPath sid = true)
    (hopen : s.stripeBlocked ((s.reg (Reg.spxIng0 sid)).bits 26 20) ((s.reg (Reg.spxIng0 sid)).bits 30 27 + 1) = false) :
    ∃ (d : Delivery) (fb : Bool) (u : State),
      (d.sid = sid ∧ d.order = s.str.order ∧ d.pbase = (s.reg (Reg.spxIng0 sid)).bits 26 20 ∧ d.held = f.held) ∧
      u.mac ch = { s.mac ch with wait := q, deliv := (s.mac ch).deliv ++ [d] } ∧
      u.str.seqNo.get sid 0 = (s.str.seqNo.get sid 0 + 1) % 4294967296 ∧
      classification ch s = (if fb then u.chEvent ch 8 else u).pfcCheck ch := by
  obtain ⟨d, fb, l, hto, hd⟩ :=
    (s.takeWaiting ch q).toStream_open sid f ((s.takeWaiting ch q).reg (chA Reg.chRxcorr ch)) hpath hopen
  obtain ⟨y, hy⟩ : ∃ y, y = { s.takeWaiting ch q with str := { (s.takeWaiting ch q).str with
    seqNo := s.str.seqNo.set sid ((s.str.seqNo.get sid 0 + 1) % 4294967296) 0, order := s.str.order + 1, lost := l } } :=
    ⟨_, rfl⟩
  have hmac : y.mac ch = { s.mac ch with wait := q } := by
    rw [hy]
    exact s.takeWaiting_mac_same ch q
  refine ⟨d, fb, y.setMac ch { y.mac ch with deliv := (y.mac ch).deliv ++ [d] }, hd, ?_, ?_, ?_⟩
  · rw [State.setMac_mac_same, hmac]
  · rw [hy]
    exact SMap.get_set_same _ _ _ _
  · simp only [classification, hw, ← State.takeWaiting_eq, State.takeWaiting_ruleMatches, State.takeWaiting_rule, hfind,
      hkeep, hsid]
    rw [hto, hy]
    rfl

end

/-- The receive counters are none of those of a sent PFC frame. -/
theorem rx_notMem_pfcLog (ch : Nat) : chA Reg.chRxFrames ch ∉ pfcLog ch ∧ chA Reg.chRxFcs ch ∉ pfcLog ch ∧
    chA Reg.chRxNomatch ch ∉ pfcLog ch ∧ chA Reg.chRxRdrop ch ∉ pfcLog ch := by
  simp only [pfcLog, chA, Reg.chRxFrames, Reg.chRxFcs, Reg.chRxNomatch, Reg.chRxRdrop, Reg.chTxPfc, Reg.chTxFrames,
    List.mem_cons, List.not_mem_nil, or_false]
  omega

/-- A counter outside those of PFC that a state has counted still shows it after the PFC check. -/
theorem State.counts.pfcCheck {s u : State} {ch a n : Nat} (h : s.counts u a n) (ha : a ∉ pfcLog ch) :
    s.counts (u.pfcCheck ch) a n := by
  unfold State.counts at h ⊢
  rw [(u.pfcCheck_only ch).reg_ne ha, h]

/-- Settles O23: the checks of a received frame, and classification by its outcome. -/
theorem framesReceived : Obligations.FramesReceived := by
  refine ⟨fun ch b s hrun hrel hmin hmax hpause hpfc hroom hmgt _ hts => ?_, fun ch f q s hw _ => ⟨fun h hcfg => ?_,
    fun r hr hmatch hfirst => ?_⟩⟩
  · obtain ⟨f, hbytes, hbad, hheld, u, hu, hrec⟩ :=
      receivedFrame_waits ch.isLt hrun hrel hmin hmax hpause hpfc hroom hmgt hts
    obtain ⟨hframes, hfcs, -, -⟩ := rx_notMem_pfcLog ch.val
    obtain ⟨hcount, hcount'⟩ := s.rxChecked_counts ch.val b
    rw [← hu] at hcount hcount'
    refine ⟨_, f, congrArg Host.Outcome.next hrec, ?_, hbytes, hbad, hheld, ?_, State.counts.pfcCheck hcount hframes,
      fun h => State.counts.pfcCheck (hcount' h) hfcs⟩
    · rw [State.pfcCheck_wait, State.setMac_mac_same, hu, State.rxChecked_wait]
    · rw [(State.pfcCheck_only _ _).can, State.setMac_can, hu, (s.rxChecked_only ch.val b).can]
  · obtain ⟨-, -, hno, -⟩ := rx_notMem_pfcLog ch.val
    refine ⟨_, congrArg Host.Outcome.next (classification_unmatched hw hcfg h), ?_, ?_,
      State.counts.pfcCheck (State.bump_counts _ _ _) hno, (State.pfcCheck_only _ _).can⟩
    · rw [State.pfcCheck_wait, State.bump_mac, State.takeWaiting_mac_same]
    · rw [State.pfcCheck_deliv, State.bump_mac, State.takeWaiting_mac_same]
  · have hfind := lowest_rule_found s ch.val r f.bytes hr hmatch hfirst
    refine ⟨fun hdrop => ?_, fun hkeep sid hsid hpath hopen => ?_⟩
    · obtain ⟨-, -, -, hrd⟩ := rx_notMem_pfcLog ch.val
      refine ⟨_, congrArg Host.Outcome.next (classification_dropped hw hfind hdrop), ?_, ?_,
        State.counts.pfcCheck (State.bump_counts _ _ _) hrd⟩
      · rw [State.pfcCheck_wait, State.bump_mac, State.takeWaiting_mac_same]
      · rw [State.pfcCheck_deliv, State.bump_mac, State.takeWaiting_mac_same]
    · obtain ⟨d, fb, u, ⟨hds, hdo, hdp, hdh⟩, hmac, hseq, hcls⟩ :=
        classification_delivered hw hfind hkeep sid hsid.symm hpath hopen
      have hevent : (if fb then u.chEvent ch.val 8 else u).mac ch.val = u.mac ch.val ∧
          (if fb then u.chEvent ch.val 8 else u).str = u.str := by
        cases fb <;> exact ⟨rfl, rfl⟩
      obtain ⟨hmac', hstr⟩ := hevent
      refine ⟨_, d, congrArg Host.Outcome.next hcls, ?_, ?_, hds, hdo, hdp, hdh, ?_⟩
      · rw [State.pfcCheck_wait, hmac', hmac]
      · rw [State.pfcCheck_deliv, hmac', hmac]
      · rw [(State.pfcCheck_only _ _).str, hstr]
        exact hseq

end Sys2Proof.Machine
end

section
namespace Sys2Proof.Machine

/-! ## Folds over the lanes and channels of a group -/

theorem foldl_keeps_of_mem {α β γ : Type} (g : α → γ) (f : α → β → α) (l : List β) (s : α)
    (h : ∀ s, ∀ k ∈ l, g (f s k) = g s) : g (l.foldl f s) = g s := by
  induction l generalizing s with
  | nil => rfl
  | cons k l ih => exact (ih _ fun v j hj => h v j (List.mem_cons_of_mem _ hj)).trans (h s k List.mem_cons_self)

/-- What the step of each element brings about and no other step undoes holds of every element after a fold. -/
theorem foldl_establishes {α β : Type} (I : α → Prop) (P : β → α → Prop) (f : α → β → α) (l : List β)
    (hI : ∀ s, ∀ k ∈ l, I s → I (f s k)) (hP : ∀ s, ∀ k ∈ l, I s → P k (f s k))
    (hkeep : ∀ s, ∀ j ∈ l, ∀ k ∈ l, I s → P k s → P k (f s j)) (s : α) (hs : I s) : ∀ k ∈ l, P k (l.foldl f s) := by
  suffices h : ∀ l' : List β, (∀ k ∈ l', k ∈ l) → ∀ s, I s → ∀ k ∈ l, k ∈ l' ∨ P k s → P k (l'.foldl f s) from
    fun k hk => h l (fun _ h => h) s hs k hk (.inl hk)
  intro l' hl'
  induction l' with
  | nil => exact fun s _ k _ h => h.resolve_left List.not_mem_nil
  | cons j l' ih =>
    intro s hs k hk h
    have hj := hl' j List.mem_cons_self
    refine ih (fun i hi => hl' i (List.mem_cons_of_mem _ hi)) _ (hI s j hj hs) k hk ?_
    rcases h with h | h
    · rcases List.mem_cons.1 h with rfl | h
      · exact .inr (hP s k hk hs)
      · exact .inl h
    · exact .inr (hkeep s j hj k hk hs h)

/-- A fold whose steps each append their element. -/
theorem foldl_appends {α β : Type} (I : α → Prop) (g : α → List β) (f : α → β → α) (l : List β) (s : α) (hs : I s)
    (h : ∀ u, ∀ x ∈ l, I u → I (f u x) ∧ g (f u x) = g u ++ [x]) : g (l.foldl f s) = g s ++ l := by
  induction l generalizing s with
  | nil => simp
  | cons x l ih =>
    obtain ⟨hI, hx⟩ := h s x List.mem_cons_self hs
    rw [List.foldl_cons, ih _ hI fun u y hy => h u y (List.mem_cons_of_mem _ hy), hx, List.append_assoc]
    rfl

/-! ## Lanes and links (R181) -/

theorem lnStat_inj (g j k : Nat) : Reg.lnStat g j = Reg.lnStat g k ↔ j = k := by
  simp only [Reg.lnStat]
  omega

theorem lanesOf_cases (mode : Nat) : lanesOf mode = 0 ∨ lanesOf mode = 1 ∨ lanesOf mode = 2 ∨ lanesOf mode = 4 := by
  unfold lanesOf
  split <;> simp

/-- Whether lane `k` of group `g` shows LINK. -/
abbrev State.laneUp (s : State) (g k : Nat) : Bool := s.regB (Reg.lnStat g k) 6

theorem State.laneUp_congr (s t : State) (g k : Nat) (h : t.reg (Reg.lnStat g k) = s.reg (Reg.lnStat g k)) :
    t.laneUp g k = s.laneUp g k := by
  unfold State.laneUp State.regB
  rw [h]

theorem State.setReg_laneUp (s : State) (g j k : Nat) (v : Word) :
    (s.setReg (Reg.lnStat g k) v).laneUp g j = if j = k then v.bit 6 else s.laneUp g j := by
  unfold State.laneUp State.regB
  split
  · next h => rw [h, State.setReg_reg_same]
  · next h => rw [State.setReg_reg_ne _ _ _ _ fun e => h ((lnStat_inj g j k).1 e)]

/-- The lanes that go down lose LINK, the others of the group keep theirs. -/
theorem State.lanesDown_laneUp (s : State) (g j : Nat) (ks : List Nat) :
    (s.lanesDown g ks).laneUp g j = (s.laneUp g j && decide (j ∉ ks)) := by
  induction ks generalizing s with
  | nil => simp [State.lanesDown]
  | cons k ks ih =>
    have hbit (w : Word) : (w &&& 0x480#32 ||| 0x400#32).bit 6 = false := by simp [Word.bit]
    rw [State.lanesDown, List.foldl_cons, ← State.lanesDown, ih]
    by_cases hk : s.laneUp g k = true
    · rw [if_pos hk, State.setReg_laneUp, hbit]
      by_cases hj : j = k <;> simp [hj]
    · rw [if_neg hk]
      by_cases hj : j = k
      · simp [hj, hk]
      · simp [hj]

theorem State.lanesDown_only (s : State) (ch g : Nat) (ks : List Nat) :
    s.chanOnly ch (ks.map (Reg.lnStat g)) (s.lanesDown g ks) :=
  State.chanOnly.foldl (fun v _ hk =>
    ((v.chanOnly_refl ch _).setReg _ _ (List.mem_map_of_mem hk)).ite (v.chanOnly_refl ch _)) (s.chanOnly_refl ch _)

theorem State.lanesDown_str (s : State) (g : Nat) (ks : List Nat) : (s.lanesDown g ks).str = s.str :=
  foldl_keeps State.str _ (fun v _ => by split <;> rfl) _ s

theorem State.lanesDown_mac (s : State) (g c : Nat) (ks : List Nat) : (s.lanesDown g ks).mac c = s.mac c := by
  rw [State.mac, State.lanesDown_str, State.mac]

/-- A channel whose first lane is down has no link. -/
theorem State.chLink_of_lane_down (s : State) (ch : Nat) (h : s.laneUp (ch / 8) (ch % 8) = false) : s.chLink ch = false := by
  rcases lanesOf_cases (s.gmode (ch / 8)) with hn | hn | hn | hn <;>
    simp [State.chLink, State.chFormed, hn, List.range_succ, h]

/-- LINK of a channel depends on the mode of its group and, where the mode forms it, on LINK of its lanes. -/
theorem State.chLink_congr (s t : State) (ch : Nat) (hp : t.part = s.part)
    (hm : t.reg (Reg.spgGcfg (ch / 8)) = s.reg (Reg.spgGcfg (ch / 8)))
    (hl : s.chFormed ch = true → ∀ i, i < lanesOf (s.gmode (ch / 8)) →
      t.laneUp (ch / 8) (ch % 8 + i) = s.laneUp (ch / 8) (ch % 8 + i)) : t.chLink ch = s.chLink ch := by
  have hmode := s.gmode_congr t _ hm
  have hform : t.chFormed ch = s.chFormed ch := by
    simp only [State.chFormed, State.hasLg, State.has, hp, hmode]
  unfold State.chLink
  rw [hform, hmode]
  cases hf : s.chFormed ch with
  | false => rfl
  | true =>
    simp only [Bool.true_and]
    rw [Bool.eq_iff_iff, List.all_eq_true, List.all_eq_true]
    exact forall₂_congr fun i hi => by rw [← State.laneUp, ← State.laneUp, hl hf i (List.mem_range.1 hi)]

end Sys2Proof.Machine
end

section
namespace Sys2Proof.Machine

/-! ## A channel that goes down (R181, R183) -/

/-- The counters and events of frames that are cut off. -/
def cutLog (ch : Nat) : List Nat := [chA Reg.chRxRunt ch, chA Reg.chRxFcs ch, chA Reg.chStat ch]

theorem State.cutWaiting_only (s : State) (ch : Nat) : s.chanOnly ch (cutLog ch) (s.cutWaiting ch) := by
  unfold State.cutWaiting
  refine State.chanOnly.foldl (fun v f _ => ?_) ((s.chanOnly_refl ch _).setMac _)
  have hv (m : MacChan) : v.chanOnly ch (cutLog ch) (v.setMac ch m) := (v.chanOnly_refl ch _).setMac m
  refine (hv _).ite (State.chanOnly.ite ?_ ?_)
  · exact ((hv _).bump _ _ (by simp [cutLog])).chEvent _ (by simp [cutLog])
  · exact ((hv _).ite (((hv _).bump _ _ (by simp [cutLog])).chEvent _ (by simp [cutLog]))).setMac _

theorem State.cutDeliveries_only (s : State) (ch : Nat) : s.chanOnly ch (cutLog ch) (s.cutDeliveries ch) := by
  unfold State.cutDeliveries
  refine State.chanOnly.foldl (fun v d _ => ?_) ((s.chanOnly_refl ch _).setMac _)
  have hv (m : MacChan) : v.chanOnly ch (cutLog ch) (v.setMac ch m) := (v.chanOnly_refl ch _).setMac m
  exact (hv _).ite
    (((hv _).ite (((hv _).bump _ _ (by simp [cutLog])).chEvent _ (by simp [cutLog]))).setMac _)

/-- Cutting the waiting frames off leaves the deliveries, and the other way round. -/
theorem State.cutWaiting_deliv (s : State) (ch : Nat) : ((s.cutWaiting ch).mac ch).deliv = (s.mac ch).deliv := by
  unfold State.cutWaiting
  refine (foldl_keeps (fun v : State => (v.mac ch).deliv) _ (fun v f => ?_) _ _).trans (by simp)
  simp only []
  split_ifs <;> simp

theorem State.cutDeliveries_wait (s : State) (ch : Nat) : ((s.cutDeliveries ch).mac ch).wait = (s.mac ch).wait := by
  unfold State.cutDeliveries
  refine (foldl_keeps (fun v : State => (v.mac ch).wait) _ (fun v f => ?_) _ _).trans (by simp)
  simp only []
  split_ifs <;> simp

/-- Frames that have been received whole stay. -/
theorem State.cutWaiting_received (s : State) (ch : Nat) (h : ∀ f ∈ (s.mac ch).wait, f.reach f.total ≤ s.cyc) :
    ((s.cutWaiting ch).mac ch).wait = (s.mac ch).wait := by
  unfold State.cutWaiting
  refine Eq.trans (foldl_appends (fun v : State => v.cyc = s.cyc) (fun v => (v.mac ch).wait) _ _ _ rfl
    fun v f hf hv => ?_) ?_
  · have hle : f.reach f.total ≤ v.cyc := by
      rw [hv]
      exact h f hf
    simp only [hle, if_true]
    exact ⟨hv, by simp⟩
  · simp

theorem State.cutDeliveries_received (s : State) (ch : Nat) (h : ∀ d ∈ (s.mac ch).deliv, d.ends ≤ s.cyc) :
    ((s.cutDeliveries ch).mac ch).deliv = (s.mac ch).deliv := by
  unfold State.cutDeliveries
  refine Eq.trans (foldl_appends (fun v : State => v.cyc = s.cyc) (fun v => (v.mac ch).deliv) _ _ _ rfl
    fun v d hd hv => ?_) ?_
  · have hle : d.ends ≤ v.cyc := by
      rw [hv]
      exact h d hd
    simp only [hle, if_true]
    exact ⟨hv, by simp⟩
  · simp

/-- A sound frame in reception of which 64 bytes or more have come keeps them, is bad and counts as an FCS error. -/
theorem State.cutWaiting_partial (s : State) (ch : Nat) (f : RxFrame) (hw : (s.mac ch).wait = [f]) (hbad : f.bad = false)
    (hpart : s.cyc < f.reach f.total) (hgot : 64 ≤ (s.cyc - f.sfd) * f.rate / 10) :
    (∃ h, ((s.cutWaiting ch).mac ch).wait = [h] ∧ h.bad = true ∧ h.bytes = f.bytes.take ((s.cyc - f.sfd) * f.rate / 10)) ∧
      s.counts (s.cutWaiting ch) (chA Reg.chRxFcs ch) 1 := by
  have hreach : ¬f.reach f.total ≤ s.cyc := by omega
  have hrunt : ¬(s.cyc - f.sfd) * f.rate / 10 < 64 := by omega
  unfold State.cutWaiting
  simp only [hw, List.foldl_cons, List.foldl_nil, State.setMac_cyc, hreach, hrunt, hbad, if_false, Bool.false_eq_true]
  refine ⟨⟨{ f with bytes := f.bytes.take ((s.cyc - f.sfd) * f.rate / 10),
                     held := Nat.min f.held ((s.cyc - f.sfd) * f.rate / 10), bad := true,
                     total := (s.cyc - f.sfd) * f.rate / 10 }, by simp, rfl, rfl⟩, State.counts_of_bump (u := s) rfl ?_⟩
  have hne : chA Reg.chRxFcs ch ≠ chA Reg.chStat ch := by
    simp only [chA, Reg.chRxFcs, Reg.chStat]
    omega
  simp only [State.setMac_reg, State.chEvent_reg_ne _ _ _ _ hne, State.bump_reg_same]

theorem State.cutDeliveries_none (s : State) (ch : Nat) (h : (s.mac ch).deliv = []) (a : Nat) :
    (s.cutDeliveries ch).reg a = s.reg a := by
  simp [State.cutDeliveries, h]

end Sys2Proof.Machine
end

section
namespace Sys2Proof.Machine

/-! ## LINKDOWN (R181, R183) -/

/-- What a channel that loses its link does with its frames, and its event. -/
def State.channelCut (s : State) (ch : Nat) : State :=
  (((s.cutWaiting ch).cutDeliveries ch).pfcCheck ch).linkEvent ch false

/-- The registers that it may change. -/
def downLog (ch : Nat) : List Nat := cutLog ch ++ pfcLog ch ++ [Reg.disEvtdrop]

theorem State.channelCut_only (s : State) (ch : Nat) : s.chanOnly ch (downLog ch) (s.channelCut ch) := by
  refine State.chanOnly.eventToken (((s.cutWaiting_only ch).mono ?_).trans ((((State.cutDeliveries_only _ ch).mono ?_)).trans
    ((State.pfcCheck_only _ ch).mono ?_))) _ _ _ ?_
  all_goals simp [downLog]

theorem State.linkEvent_mac (s : State) (ch c : Nat) (up : Bool) : (s.linkEvent ch up).mac c = s.mac c := by
  rw [State.mac, State.mac, State.linkEvent, State.eventToken_str]

theorem State.channelCut_wait (s : State) (ch : Nat) :
    ((s.channelCut ch).mac ch).wait = ((s.cutWaiting ch).mac ch).wait := by
  rw [State.channelCut, State.linkEvent_mac, State.pfcCheck_wait, State.cutDeliveries_wait]

theorem State.channelCut_deliv (s : State) (ch : Nat) (h : ∀ d ∈ (s.mac ch).deliv, d.ends ≤ s.cyc) :
    ((s.channelCut ch).mac ch).deliv = (s.mac ch).deliv := by
  rw [State.channelCut, State.linkEvent_mac, State.pfcCheck_deliv, State.cutDeliveries_received, State.cutWaiting_deliv]
  rw [State.cutWaiting_deliv, (s.cutWaiting_only ch).cyc]
  exact h

/-- With no delivery under way, RX_FCS counts what the waiting frames count. -/
theorem State.channelCut_rxFcs (s : State) (ch : Nat) (h : (s.mac ch).deliv = []) :
    (s.channelCut ch).reg (chA Reg.chRxFcs ch) = (s.cutWaiting ch).reg (chA Reg.chRxFcs ch) := by
  obtain ⟨-, hpfc, -, -⟩ := rx_notMem_pfcLog ch
  have hevt : chA Reg.chRxFcs ch ∉ [Reg.disEvtdrop] := by
    simp only [chA, Reg.chRxFcs, Reg.disEvtdrop, List.mem_singleton]
    omega
  have hlink := ((State.chanOnly_refl ch [Reg.disEvtdrop] (((s.cutWaiting ch).cutDeliveries ch).pfcCheck ch)).eventToken 6 ch
    (word (ch + 0)) List.mem_cons_self).reg_ne hevt
  exact (hlink.trans ((State.pfcCheck_only _ ch).reg_ne hpfc)).trans
    (State.cutDeliveries_none _ ch ((s.cutWaiting_deliv ch).trans h) _)

/-- The lanes of channel `ch` where the mode gives each channel `n`. -/
def chLanes (n ch : Nat) : List Nat := (List.range n).map (fun i => ch % 8 + i)

theorem mem_chLanes (n ch k : Nat) : k ∈ chLanes n ch ↔ ∃ i, i < n ∧ ch % 8 + i = k := by simp [chLanes]

/-- The channel that lane `lane` belongs to where the mode gives each channel `n` lanes. -/
def chanOf (n lane : Nat) : Nat := 8 * (lane / 8) + lane % 8 / n * n

section
variable {lane n : Nat} {s : State} (hn : lanesOf (s.gmode (lane / 8)) = n)

theorem chanOf_place (n lane : Nat) (hn : n = 0 ∨ n = 1 ∨ n = 2 ∨ n = 4) :
    chanOf n lane / 8 = lane / 8 ∧ chanOf n lane % 8 = lane % 8 / n * n ∧ lane % 8 / n * n + n ≤ 8 ∧
      (n ≠ 0 → ∃ i, i < n ∧ lane % 8 / n * n + i = lane % 8) := by
  rcases hn with rfl | rfl | rfl | rfl
  · exact ⟨by simp only [chanOf]; omega, by simp only [chanOf]; omega, by omega, fun h => absurd rfl h⟩
  · exact ⟨by simp only [chanOf]; omega, by simp only [chanOf]; omega, by omega, fun _ => ⟨0, by omega, by omega⟩⟩
  · exact ⟨by simp only [chanOf]; omega, by simp only [chanOf]; omega, by omega,
      fun _ => ⟨lane % 8 % 2, by omega, by omega⟩⟩
  · exact ⟨by simp only [chanOf]; omega, by simp only [chanOf]; omega, by omega,
      fun _ => ⟨lane % 8 % 4, by omega, by omega⟩⟩

theorem linkdown_unformed (h : lanesOf (s.gmode (lane / 8)) = 0) : linkdown lane s = s := by
  simp [linkdown, h]

include hn

/-- The lanes of the channel lose LINK; if it had a link, its frames in reception are cut off. -/
theorem linkdown_eq (h0 : n ≠ 0) : linkdown lane s =
    if s.chLink (chanOf n lane) then
      (s.lanesDown (lane / 8) (chLanes n (chanOf n lane))).channelCut (chanOf n lane)
    else s.lanesDown (lane / 8) (chLanes n (chanOf n lane)) := by
  subst hn
  simp only [linkdown, h0, if_false]
  rfl

theorem linkdown_only (h0 : n ≠ 0) : s.chanOnly (chanOf n lane)
    ((chLanes n (chanOf n lane)).map (Reg.lnStat (lane / 8)) ++ downLog (chanOf n lane)) (linkdown lane s) := by
  rw [linkdown_eq hn h0]
  have hlanes : s.chanOnly (chanOf n lane)
      ((chLanes n (chanOf n lane)).map (Reg.lnStat (lane / 8)) ++ downLog (chanOf n lane))
      (s.lanesDown (lane / 8) (chLanes n (chanOf n lane))) :=
    (s.lanesDown_only _ _ _).mono (List.subset_append_left _ _)
  exact (hlanes.trans ((State.channelCut_only _ _).mono (List.subset_append_right _ _))).ite hlanes

end

/-- LNk_STAT and SPG_GCFG are none of the registers that the frames of a channel change. -/
theorem lnStat_notMem_downLog (g k ch : Nat) (hk : k < 8) : Reg.lnStat g k ∉ downLog ch := by
  simp only [downLog, cutLog, pfcLog, chA, Reg.lnStat, Reg.chRxRunt, Reg.chRxFcs, Reg.chStat, Reg.chTxPfc, Reg.chTxFrames,
    Reg.disEvtdrop, List.cons_append, List.nil_append, List.mem_cons, List.not_mem_nil, or_false]
  omega

theorem spgGcfg_notMem_downLog (g ch : Nat) : Reg.spgGcfg g ∉ downLog ch := by
  simp only [downLog, cutLog, pfcLog, chA, Reg.spgGcfg, Reg.chRxRunt, Reg.chRxFcs, Reg.chStat, Reg.chTxPfc, Reg.chTxFrames,
    Reg.disEvtdrop, List.cons_append, List.nil_append, List.mem_cons, List.not_mem_nil, or_false]
  omega

end Sys2Proof.Machine
end

section
namespace Sys2Proof.Machine

/-- Two channels of a group have no lane in common. -/
theorem chLanes_disjoint {n lane c i : Nat} (h0 : n ≠ 0) (hc : c % 8 % n = 0) (hg : c / 8 = lane / 8)
    (hne : c ≠ chanOf n lane) (hi : i < n) : c % 8 + i ∉ chLanes n (chanOf n lane) := by
  have hquot (a j : Nat) (hj : j < n) : (a * n + j) / n = a := by
    rw [Nat.add_comm, Nat.add_mul_div_right _ _ (Nat.pos_of_ne_zero h0), Nat.div_eq_of_lt hj, Nat.zero_add]
  have hcmul : c % 8 / n * n = c % 8 := Nat.div_mul_cancel (Nat.dvd_of_mod_eq_zero hc)
  rw [mem_chLanes]
  rintro ⟨j, hj, he⟩
  refine hne ?_
  have hmod : chanOf n lane % 8 = lane % 8 / n * n := by
    have hle : lane % 8 / n * n ≤ lane % 8 := Nat.div_mul_le_self _ _
    simp only [chanOf]
    omega
  have hsame : c % 8 / n = lane % 8 / n := by
    rw [← hquot (c % 8 / n) i hi, ← hquot (lane % 8 / n) j hj, hcmul, ← he, hmod]
  rw [chanOf, ← hsame, hcmul, ← hg]
  omega

section
variable {lane n : Nat} {s : State} (hn : lanesOf (s.gmode (lane / 8)) = n) (h0 : n ≠ 0)
include hn

theorem lanes_cases : n = 0 ∨ n = 1 ∨ n = 2 ∨ n = 4 := hn ▸ lanesOf_cases _

include h0

theorem linkdown_reg (a : Nat) (hl : ∀ k, k < 8 → a ≠ Reg.lnStat (lane / 8) k) (ha : a ∉ downLog (chanOf n lane)) :
    (linkdown lane s).reg a = s.reg a := by
  refine (linkdown_only hn h0).reg_ne fun h => ?_
  rcases List.mem_append.1 h with h | h
  · obtain ⟨k, hk, rfl⟩ := List.mem_map.1 h
    obtain ⟨i, hi, rfl⟩ := (mem_chLanes _ _ _).1 hk
    obtain ⟨-, hplace, hle, -⟩ := chanOf_place n lane (lanes_cases hn)
    exact hl _ (by omega) rfl
  · exact ha h

theorem linkdown_laneUp (j : Nat) (hj : j < 8) : (linkdown lane s).laneUp (lane / 8) j =
    (s.laneUp (lane / 8) j && decide (j ∉ chLanes n (chanOf n lane))) := by
  rw [linkdown_eq hn h0, ← State.lanesDown_laneUp]
  split
  · exact State.laneUp_congr _ _ _ _ ((State.channelCut_only _ _).reg_ne (lnStat_notMem_downLog _ _ _ hj))
  · rfl

/-- The channel of the lane has no link any more. -/
theorem linkdown_chLink_same : (linkdown lane s).chLink (chanOf n lane) = false := by
  obtain ⟨hdiv, hmod, hle, -⟩ := chanOf_place n lane (lanes_cases hn)
  refine State.chLink_of_lane_down _ _ ?_
  rw [hdiv, linkdown_laneUp hn h0 _ (by omega)]
  have hmem : chanOf n lane % 8 ∈ chLanes n (chanOf n lane) := (mem_chLanes _ _ _).2 ⟨0, by omega, rfl⟩
  simp [hmem]

/-- Every other channel keeps its link. -/
theorem linkdown_chLink_ne (c : Nat) (hne : c ≠ chanOf n lane) :
    (linkdown lane s).chLink c = s.chLink c := by
  obtain ⟨hdiv, hmod, hle, -⟩ := chanOf_place n lane (lanes_cases hn)
  have hsame := linkdown_only hn h0
  refine s.chLink_congr _ _ hsame.part (linkdown_reg hn h0 _ (fun k hk => ?_) (spgGcfg_notMem_downLog _ _)) fun hf i hi => ?_
  · simp only [Reg.spgGcfg, Reg.lnStat]
    omega
  · simp only [State.chFormed, Bool.and_eq_true, bne_iff_ne, beq_iff_eq] at hf
    obtain ⟨-, hfit⟩ := hf
    have hplace : c % 8 + lanesOf (s.gmode (c / 8)) ≤ 8 := by
      rcases lanesOf_cases (s.gmode (c / 8)) with h | h | h | h <;> rw [h] at hfit ⊢ <;> omega
    by_cases hg : c / 8 = lane / 8
    · rw [hg, linkdown_laneUp hn h0 _ (by omega)]
      rw [hg, hn] at hfit hi
      have hout := chLanes_disjoint h0 hfit hg hne hi
      simp [hout]
    · refine s.laneUp_congr _ _ _ (linkdown_reg hn h0 _ (fun k hk => ?_) (lnStat_notMem_downLog _ _ _ (by omega)))
      simp only [Reg.lnStat]
      omega

end

section
variable {lane n : Nat} {s : State} (hn : lanesOf (s.gmode (lane / 8)) = n)
include hn

theorem linkdown_can : (linkdown lane s).can = s.can := by
  by_cases h0 : n = 0
  · rw [linkdown_unformed (hn.trans h0)]
  · exact (linkdown_only hn h0).can

theorem linkdown_wait (h : ∀ f ∈ (s.mac (chanOf n lane)).wait, f.reach f.total ≤ s.cyc) :
    ((linkdown lane s).mac (chanOf n lane)).wait = (s.mac (chanOf n lane)).wait := by
  by_cases h0 : n = 0
  · rw [linkdown_unformed (hn.trans h0)]
  · have hmac := s.lanesDown_mac (lane / 8) (chanOf n lane) (chLanes n (chanOf n lane))
    rw [linkdown_eq hn h0, ← hmac]
    split
    · rw [State.channelCut_wait, State.cutWaiting_received]
      rw [hmac, (s.lanesDown_only (chanOf n lane) _ _).cyc]
      exact h
    · rfl

theorem linkdown_deliv (h : ∀ d ∈ (s.mac (chanOf n lane)).deliv, d.ends ≤ s.cyc) :
    ((linkdown lane s).mac (chanOf n lane)).deliv = (s.mac (chanOf n lane)).deliv := by
  by_cases h0 : n = 0
  · rw [linkdown_unformed (hn.trans h0)]
  · have hmac := s.lanesDown_mac (lane / 8) (chanOf n lane) (chLanes n (chanOf n lane))
    rw [linkdown_eq hn h0, ← hmac]
    split
    · refine State.channelCut_deliv _ _ ?_
      rw [hmac, (s.lanesDown_only (chanOf n lane) _ _).cyc]
      exact h
    · rfl

theorem linkdown_partial (f : RxFrame) (hlink : s.chLink (chanOf n lane) = true) (hw : (s.mac (chanOf n lane)).wait = [f])
    (hd : (s.mac (chanOf n lane)).deliv = []) (hbad : f.bad = false) (hpart : s.cyc < f.reach f.total)
    (hgot : 64 ≤ (s.cyc - f.sfd) * f.rate / 10) :
    (∃ h, ((linkdown lane s).mac (chanOf n lane)).wait = [h] ∧ h.bad = true ∧
        h.bytes = f.bytes.take ((s.cyc - f.sfd) * f.rate / 10)) ∧
      s.counts (linkdown lane s) (chA Reg.chRxFcs (chanOf n lane)) 1 := by
  have h0 : n ≠ 0 := by
    rintro rfl
    have hdiv : chanOf 0 lane / 8 = lane / 8 := (chanOf_place 0 lane (.inl rfl)).1
    simp [State.chLink, State.chFormed, hdiv, hn] at hlink
  have hsame := s.lanesDown_only (chanOf n lane) (lane / 8) (chLanes n (chanOf n lane))
  have hmac := s.lanesDown_mac (lane / 8) (chanOf n lane) (chLanes n (chanOf n lane))
  obtain ⟨hkept, hcount⟩ := State.cutWaiting_partial (s.lanesDown (lane / 8) (chLanes n (chanOf n lane))) (chanOf n lane) f
    (by rw [hmac, hw]) hbad (by rw [hsame.cyc]; exact hpart) (by rw [hsame.cyc]; exact hgot)
  rw [hsame.cyc] at hkept
  rw [linkdown_eq hn h0, if_pos hlink, State.channelCut_wait]
  refine ⟨hkept, ?_⟩
  have hreg : (s.lanesDown (lane / 8) (chLanes n (chanOf n lane))).reg (chA Reg.chRxFcs (chanOf n lane)) =
      s.reg (chA Reg.chRxFcs (chanOf n lane)) := by
    refine hsame.reg_ne fun h => ?_
    obtain ⟨k, hk, he⟩ := List.mem_map.1 h
    simp only [Reg.lnStat, chA, Reg.chRxFcs] at he
    obtain ⟨i, hi, rfl⟩ := (mem_chLanes _ _ _).1 hk
    obtain ⟨hdiv, hmod, hle, -⟩ := chanOf_place n lane (lanes_cases hn)
    omega
  unfold State.counts at hcount ⊢
  rw [State.channelCut_rxFcs _ _ (by rw [hmac, hd]), hcount, hreg]

end

/-- LINKDOWN as the obligation on lane groups states it. -/
theorem linkdown_link (lane : Nat) (s : State) (hn : lanesOf (s.gmode (lane / 8)) = n) :
    (linkdown lane s).chLink (chanOf n lane) = false ∧
      ∀ c : Fin 32, c.val ≠ chanOf n lane → (linkdown lane s).chLink c.val = s.chLink c.val ∧
        (linkdown lane s).mac c.val = s.mac c.val := by
  by_cases h0 : n = 0
  · subst h0
    rw [linkdown_unformed hn]
    refine ⟨?_, fun _ _ => ⟨rfl, rfl⟩⟩
    have hdiv : chanOf 0 lane / 8 = lane / 8 := (chanOf_place 0 lane (.inl rfl)).1
    simp [State.chLink, State.chFormed, hdiv, hn]
  · exact ⟨linkdown_chLink_same hn h0, fun c hc => ⟨linkdown_chLink_ne hn h0 c.val hc,
      (linkdown_only hn h0).mac_ne hc⟩⟩

end Sys2Proof.Machine
end

section
namespace Sys2Proof.Machine

/-! ## LINK_UP (R181) -/

/-- LNk_STAT of lane `k` of group `g` once it has come up at rate `r`. -/
def State.upWord (s : State) (g r k : Nat) : Word :=
  s.reg (Reg.lnStat g k) &&& 0x480#32 ||| word (0x47 + (if laneNegotiates (s.reg (Reg.lnCfg g k)) 5 then 8 else 0) +
    (if laneNegotiates (s.reg (Reg.lnCfg g k)) 6 then 16 else 0) + r * 256)

/-- Lanes of a group that come up. -/
def State.lanesUp (s : State) (g r : Nat) (ks : List Nat) : State :=
  ks.foldl (fun u k => u.setReg (Reg.lnStat g k) (u.upWord g r k)) s

theorem State.upWord_link (s : State) (g r k : Nat) : (s.upWord g r k).bit 6 = true := by
  have hword (n : Nat) (h : n / 64 % 2 = 1) : (word n).bit 6 = true := by
    rw [Word.bit, word, BitVec.getLsbD_ofNat, Nat.testBit_eq_decide_div_mod_eq]
    simp [h]
  rw [State.upWord, Word.bit, BitVec.getLsbD_or, ← Word.bit, ← Word.bit, hword _ (by split_ifs <;> omega), Bool.or_true]

theorem State.lanesUp_only (s : State) (ch g r : Nat) (ks : List Nat) :
    s.chanOnly ch (ks.map (Reg.lnStat g)) (s.lanesUp g r ks) :=
  State.chanOnly.foldl (fun v _ hk => (v.chanOnly_refl ch _).setReg _ _ (List.mem_map_of_mem hk)) (s.chanOnly_refl ch _)

theorem State.lanesUp_str (s : State) (g r : Nat) (ks : List Nat) : (s.lanesUp g r ks).str = s.str :=
  foldl_keeps State.str (fun (u : State) k => u.setReg (Reg.lnStat g k) (u.upWord g r k)) (fun _ _ => rfl) ks s

theorem State.lanesUp_laneUp (s : State) (g r : Nat) (ks : List Nat) : ∀ k ∈ ks, (s.lanesUp g r ks).laneUp g k = true := by
  refine foldl_establishes (fun _ => True) (fun k (u : State) => u.laneUp g k = true) _ ks (fun _ _ _ h => h)
    (fun u k _ _ => ?_) (fun u j _ k _ _ h => ?_) s trivial
  · rw [State.setReg_laneUp, if_pos rfl, State.upWord_link]
  · rw [State.setReg_laneUp, State.upWord_link]
    split
    · rfl
    · exact h

section
variable {ch : Nat} {s : State} (hrun : s.groupRuns (ch / 8) = true) (hform : s.chFormed ch = true)
  (hdown : s.chLink ch = false)
  (hlane : ∀ i, i < lanesOf (s.gmode (ch / 8)) → (s.reg (Reg.lnCfg (ch / 8) (ch % 8 + i))).bit 0 = true ∧
    (s.reg (Reg.lnCfg (ch / 8) (ch % 8 + i))).bit 5 = false ∧
    laneCfgOk (s.gmode (ch / 8)) (s.reg (Reg.lnCfg (ch / 8) (ch % 8 + i))) = true)
include hrun hform hdown hlane

/-- Without autonegotiation the configured rate stands, and the lanes of the channel come up. -/
theorem linkUp_raises (ab : BitVec 3) : linkUp ch ab s = (s.lanesUp (ch / 8)
    ((s.reg (Reg.lnCfg (ch / 8) (ch % 8))).bits 2 1) (chLanes (lanesOf (s.gmode (ch / 8))) ch)).linkEvent ch true := by
  have hall (p : Nat → Bool) (h : ∀ i, i < lanesOf (s.gmode (ch / 8)) → p (ch % 8 + i) = true) :
      (chLanes (lanesOf (s.gmode (ch / 8))) ch).all p = true := by
    rw [List.all_eq_true]
    intro k hk
    obtain ⟨i, hi, rfl⟩ := (mem_chLanes _ _ _).1 hk
    exact h i hi
  have hok := hall (fun k =>
      (s.reg (Reg.lnCfg (ch / 8) k)).bit 0 && laneCfgOk (s.gmode (ch / 8)) (s.reg (Reg.lnCfg (ch / 8) k))) fun i hi => by
      obtain ⟨hen, -, hcfg⟩ := hlane i hi
      simp only [hen, hcfg, Bool.and_self]
  have hneg := hall (fun k => !laneNegotiates (s.reg (Reg.lnCfg (ch / 8) k)) 5) fun i hi => by
    obtain ⟨-, han, -⟩ := hlane i hi
    simp only [laneNegotiates, han, Bool.false_and, Bool.not_false]
  unfold chLanes at hok hneg
  simp only [linkUp, hok, hneg, hrun, hform, hdown, Bool.and_self, Bool.not_true, Bool.or_false, Bool.false_eq_true,
    if_false, if_true]
  rfl

theorem linkUp_only (ab : BitVec 3) : s.chanOnly ch
    ((chLanes (lanesOf (s.gmode (ch / 8))) ch).map (Reg.lnStat (ch / 8)) ++ [Reg.disEvtdrop]) (linkUp ch ab s) := by
  rw [linkUp_raises hrun hform hdown hlane]
  exact ((s.lanesUp_only ch _ _ _).mono (List.subset_append_left _ _)).eventToken _ _ _ (by simp)

theorem linkUp_str (ab : BitVec 3) : (linkUp ch ab s).str = s.str := by
  rw [linkUp_raises hrun hform hdown hlane, State.linkEvent, State.eventToken_str, State.lanesUp_str]

theorem linkUp_chLink (ab : BitVec 3) : (linkUp ch ab s).chLink ch = true := by
  have hsame := linkUp_only hrun hform hdown hlane ab
  have hmode : (linkUp ch ab s).gmode (ch / 8) = s.gmode (ch / 8) := by
    refine s.gmode_congr _ _ (hsame.reg_ne fun h => ?_)
    rcases List.mem_append.1 h with h | h
    · obtain ⟨k, -, he⟩ := List.mem_map.1 h
      simp only [Reg.lnStat, Reg.spgGcfg] at he
      omega
    · simp only [Reg.spgGcfg, Reg.disEvtdrop, List.mem_singleton] at h
      omega
  have hlanes : ∀ k ∈ chLanes (lanesOf (s.gmode (ch / 8))) ch, (linkUp ch ab s).laneUp (ch / 8) k = true := by
    intro k hk
    rw [linkUp_raises hrun hform hdown hlane, ← State.lanesUp_laneUp s (ch / 8) _ _ k hk]
    refine State.laneUp_congr _ _ _ _ (State.chanOnly.reg_ne
      ((State.chanOnly_refl ch [Reg.disEvtdrop] _).eventToken _ _ _ List.mem_cons_self) ?_)
    simp only [Reg.lnStat, Reg.disEvtdrop, List.mem_singleton]
    omega
  simp only [State.chFormed, State.hasLg, State.has, Bool.and_eq_true] at hform
  obtain ⟨⟨hlg, hn⟩, hfit⟩ := hform
  simp only [State.chLink, State.chFormed, State.hasLg, State.has, hsame.part, hmode, hlg, hn, hfit, Bool.and_self,
    Bool.true_and, List.all_eq_true, List.mem_range]
  exact fun i hi => hlanes _ ((mem_chLanes _ _ _).2 ⟨i, hi, rfl⟩)

end

theorem State.ibDrain_none (s : State) (h : s.sec.reports = []) : s.ibDrain = s := by
  simp only [State.ibDrain, h, List.filter_nil, List.foldl_nil]
  rw [← h]

end Sys2Proof.Machine
end

section
namespace Sys2Proof.Machine

/-! ## SPG_GCFG.MODE (R178, R179) -/

/-- Shaga links that run or are not beyond training do not fall (R242). -/
theorem State.dropStopped_idle (s : State)
    (h : ∀ l, l < 32 → s.linkRuns l = true ∨ s.regF (Reg.shgLstat l) 2 0 < 2) : s.dropStopped = s := by
  refine foldl_eq_self _ _ _ fun l hl => ?_
  rcases h l (List.mem_range.1 hl) with h | h
  · rw [if_pos h]
  · rw [State.linkDrop, if_pos h, ite_self]

@[simp] theorem State.reportOn_reg (s : State) (code unit subj a : Nat) : (s.reportOn code unit subj).reg a = s.reg a := by
  unfold State.reportOn State.reportOnce
  split <;> rfl

theorem State.downDrop_reg (s : State) (dst a : Nat) (h : a ≠ Reg.shgDndrop) : (s.downDrop dst).reg a = s.reg a := by
  rw [← s.bump_reg_ne _ 1 a h]
  unfold State.downDrop State.shgRoute
  split <;> rfl

@[simp] theorem State.routeFail_reg (s : State) (c : Cell) (a : Nat) : (s.routeFail c).reg a = s.reg a := by
  unfold State.routeFail
  simp only []
  split <;> rfl

/-- A link that falls changes no register below those of the Shaga engine. -/
theorem State.linkDrop_reg (s : State) (l a : Nat) (ha : a < 0x160000) : (s.linkDrop l).reg a = s.reg a := by
  have hstat : a ≠ Reg.shgLstat l := by simp only [Reg.shgLstat]; omega
  have hdown : a ≠ Reg.shgLdown l := by simp only [Reg.shgLdown]; omega
  have hdrop : a ≠ Reg.shgDndrop := by simp only [Reg.shgDndrop]; omega
  unfold State.linkDrop
  split
  · rfl
  · refine (foldl_keeps (fun v : State => v.reg a) _ (fun v p => ?_) _ _).trans ?_
    · exact (State.routeFail_reg _ _ _).trans (v.downDrop_reg _ _ hdrop)
    · refine (State.reportOn_reg _ _ _ _ _).trans ?_
      rw [State.orReg_reg_ne _ _ _ _ hstat, State.clrReg_reg_ne _ _ _ _ hstat, State.bump_reg_ne _ _ _ _ hdown,
        State.setLinkState, State.setRegF_reg_ne _ _ _ _ _ _ hstat]

theorem State.dropStopped_reg (s : State) (a : Nat) (ha : a < 0x160000) : s.dropStopped.reg a = s.reg a := by
  refine foldl_keeps (fun v : State => v.reg a) _ (fun v l => ?_) _ s
  split
  · rfl
  · exact v.linkDrop_reg l a ha

/-- The state that a write of MODE `m` leaves before MODE itself is set (R179). -/
def State.modeLeft (s : State) (g m : Nat) : State :=
  if (if m = 7 then 0 else m) = s.gmode g then s
  else (List.range 8).foldl (fun s k => s.dropIngress (8 * g + k)) (s.channelsDown g)

theorem modeWrite_eq (s : State) (g : Nat) (d : Word) : s.modeWrite g d =
    if ((List.range 8).any (fun k => s.regB (Reg.chCfg g k) 0) && !s.domFenced (4 + g)) ||
        (decide (4 ≤ d.bits 2 0 ∧ d.bits 2 0 ≤ 6) && !s.hasShaga) then (false, s)
    else (true, (s.modeLeft g (d.bits 2 0)).setReg (Reg.spgGcfg g) (word (d.bits 2 0))) := rfl

/-! ## What a change of MODE takes away -/

/-- An emptied ingress buffer: the frames of the channel are gone, and the streams remember those in delivery. -/
theorem State.dropIngress_only (s : State) (ch : Nat) : ∃ l, s.dropIngress ch =
    { s.setMac ch { s.mac ch with wait := [], deliv := [] } with
      str := { (s.setMac ch { s.mac ch with wait := [], deliv := [] }).str with lost := l } } := by
  unfold State.dropIngress
  simp only []
  generalize s.setMac ch { s.mac ch with wait := [], deliv := [] } = t
  induction (s.mac ch).deliv generalizing t with
  | nil => exact ⟨t.str.lost, rfl⟩
  | cons d ds ih => exact ih (t.streamLost d.sid (d.lost + 1))

theorem State.dropIngress_keeps (s : State) (ch : Nat) : (s.dropIngress ch).regs = s.regs ∧
    (s.dropIngress ch).can = s.can ∧ (s.dropIngress ch).part = s.part := by
  obtain ⟨l, hl⟩ := s.dropIngress_only ch
  rw [hl]
  exact ⟨rfl, rfl, rfl⟩

/-- A channel whose ingress buffer is empty. -/
def State.bufferEmpty (s : State) (ch : Nat) : Prop := (s.mac ch).wait = [] ∧ (s.mac ch).deliv = []

theorem State.dropIngress_mac_same (s : State) (ch : Nat) :
    (s.dropIngress ch).mac ch = { s.mac ch with wait := [], deliv := [] } := by
  obtain ⟨l, hl⟩ := s.dropIngress_only ch
  rw [hl]
  exact SMap.get_set_same _ _ _ _

theorem State.dropIngress_mac_ne (s : State) (ch c : Nat) (h : c ≠ ch) : (s.dropIngress ch).mac c = s.mac c := by
  obtain ⟨l, hl⟩ := s.dropIngress_only ch
  rw [hl]
  exact SMap.get_set_ne _ _ _ _ _ _ h

/-- The ingress buffers of the channels of a group after a change of MODE. -/
theorem State.dropGroup_empties (s : State) (g : Nat) : ∀ k ∈ List.range 8,
    ((List.range 8).foldl (fun s k => s.dropIngress (8 * g + k)) s).bufferEmpty (8 * g + k) := by
  refine foldl_establishes (fun _ => True) (fun k (u : State) => u.bufferEmpty (8 * g + k)) _ _ (fun _ _ _ h => h)
    (fun u k _ _ => ?_) (fun u j _ k _ _ h => ?_) s trivial
  · rw [State.bufferEmpty, State.dropIngress_mac_same]
    exact ⟨rfl, rfl⟩
  · by_cases hjk : 8 * g + k = 8 * g + j
    · rw [hjk, State.bufferEmpty, State.dropIngress_mac_same]
      exact ⟨rfl, rfl⟩
    · rw [State.bufferEmpty, State.dropIngress_mac_ne _ _ _ hjk]
      exact h

theorem State.dropGroup_keeps (s : State) (g : Nat) :
    ((List.range 8).foldl (fun s k => s.dropIngress (8 * g + k)) s).regs = s.regs ∧
      ((List.range 8).foldl (fun s k => s.dropIngress (8 * g + k)) s).can = s.can := by
  refine ⟨foldl_keeps State.regs _ (fun v k => ?_) _ s, foldl_keeps State.can _ (fun v k => ?_) _ s⟩
  · exact (v.dropIngress_keeps _).1
  · exact (v.dropIngress_keeps _).2.1

/-! ## The links of the channels of a group -/

theorem linkdown_reg_kept (lane : Nat) (s : State) (a : Nat) (hl : ∀ k, k < 8 → a ≠ Reg.lnStat (lane / 8) k)
    (ha : ∀ ch, ch / 8 = lane / 8 → a ∉ downLog ch) : (linkdown lane s).reg a = s.reg a := by
  by_cases h0 : lanesOf (s.gmode (lane / 8)) = 0
  · rw [linkdown_unformed h0]
  · exact linkdown_reg rfl h0 a hl (ha _ (chanOf_place _ lane (lanesOf_cases _)).1)

theorem State.channelsDown_reg (s : State) (g a : Nat) (hl : ∀ k, k < 8 → a ≠ Reg.lnStat g k)
    (ha : ∀ ch, ch / 8 = g → a ∉ downLog ch) :
    (s.channelsDown g).reg a = s.reg a := by
  refine foldl_keeps_of_mem (fun v : State => v.reg a) _ _ s fun v k hk => ?_
  have hg : (8 * g + k) / 8 = g := by
    have := List.mem_range.1 hk
    omega
  exact linkdown_reg_kept _ v a (by rw [hg]; exact hl) (by rw [hg]; exact ha)

theorem State.channelsDown_can (s : State) (g : Nat) : (s.channelsDown g).can = s.can :=
  foldl_keeps State.can _ (fun _ _ => linkdown_can rfl) _ s

/-- The lane that goes down loses LINK, and no lane of the group gains it. -/
theorem linkdown_lane_down (g k j : Nat) (s : State) (hk : k < 8) (hj : j < 8) (h0 : lanesOf (s.gmode g) ≠ 0)
    (h : j = k ∨ s.laneUp g j = false) : (linkdown (8 * g + k) s).laneUp g j = false := by
  have hg : (8 * g + k) / 8 = g := by omega
  have hn : lanesOf (s.gmode ((8 * g + k) / 8)) = lanesOf (s.gmode g) := by rw [hg]
  have hup := linkdown_laneUp hn h0 j hj
  rw [hg] at hup
  rw [hup]
  rcases h with rfl | h
  · obtain ⟨-, hmod, -, hin⟩ := chanOf_place (lanesOf (s.gmode g)) (8 * g + j) (lanesOf_cases _)
    obtain ⟨i, hi, he⟩ := hin h0
    have hmem : j ∈ chLanes (lanesOf (s.gmode g)) (chanOf (lanesOf (s.gmode g)) (8 * g + j)) :=
      (mem_chLanes _ _ _).2 ⟨i, hi, by rw [hmod, he]; omega⟩
    simp [hmem]
  · simp [h]

/-- Every lane of a group whose mode forms channels is down once its channels are. -/
theorem State.channelsDown_lanes (s : State) (g : Nat) (h0 : lanesOf (s.gmode g) ≠ 0) :
    ∀ k ∈ List.range 8, (s.channelsDown g).laneUp g k = false := by
  refine foldl_establishes (fun u : State => lanesOf (u.gmode g) ≠ 0) (fun k (u : State) => u.laneUp g k = false) _ _
    (fun u k hk hu => ?_) (fun u k hk hu => ?_) (fun u j hj k hk hu h => ?_) s h0
  · have hmode : (linkdown (8 * g + k) u).gmode g = u.gmode g :=
      u.gmode_congr _ _ (linkdown_reg_kept _ u _ (fun i hi => by simp only [Reg.spgGcfg, Reg.lnStat]; omega)
        fun ch _ => spgGcfg_notMem_downLog g ch)
    rw [hmode]
    exact hu
  · exact linkdown_lane_down g k k u (List.mem_range.1 hk) (List.mem_range.1 hk) hu (.inl rfl)
  · exact linkdown_lane_down g j k u (List.mem_range.1 hj) (List.mem_range.1 hk) hu (.inr h)

end Sys2Proof.Machine
end

section
namespace Sys2Proof.Machine

/-! ## SPG_MODE_WRITE -/

/-- Whether R178 refuses mode `m` of lane group `g`. -/
abbrev State.modeRefused (s : State) (g m : Nat) : Prop :=
  ((List.range 8).any (fun k => s.regB (Reg.chCfg g k) 0) = true ∧ s.domFenced (4 + g) = false) ∨
    (4 ≤ m ∧ m ≤ 6 ∧ s.hasShaga = false)

theorem exec_spgModeWrite (g : Fin 4) (d : Word) (s : State) (hrel : s.released = true) (hlg : s.hasLg g.val = true)
    (hon : s.domOn (4 + g.val) = true) : exec (.spgModeWrite g d) s = .next (s.writeMode g.val d) := by
  have hpass : s.modePasses (Reg.spgGcfg g.val) = true := by
    simp only [State.modePasses, hrel, Bool.true_and, List.any_eq_true, List.mem_range, Bool.and_eq_true, beq_iff_eq]
    exact ⟨g.val, g.isLt, ⟨rfl, hlg⟩, hon⟩
  exact congrArg Host.Outcome.next (if_pos hpass)

section
variable {g : Nat} {d : Word} {s : State} (hrel : s.released = true) (hlg : s.hasLg g = true)
include hrel hlg

theorem writeMode_refused (h : s.modeRefused g (d.bits 2 0)) : s.writeMode g d = s.err.dropStopped := by
  have hmode : s.modeWrite g d = (false, s) := by
    rw [modeWrite_eq, if_pos]
    simpa [State.modeRefused, and_assoc] using h
  simp only [State.writeMode, spgModeWrite, hrel, hlg, hmode, Bool.not_true, Bool.false_eq_true, if_false]

theorem writeMode_taken (h : ¬s.modeRefused g (d.bits 2 0)) : s.writeMode g d =
    (((s.modeLeft g (d.bits 2 0)).setReg (Reg.spgGcfg g) (word (d.bits 2 0))).ok).dropStopped := by
  have hmode : s.modeWrite g d =
      (true, (s.modeLeft g (d.bits 2 0)).setReg (Reg.spgGcfg g) (word (d.bits 2 0))) := by
    rw [modeWrite_eq, if_neg]
    simpa [State.modeRefused, and_assoc] using h
  simp only [State.writeMode, spgModeWrite, hrel, hlg, hmode, Bool.not_true, Bool.false_eq_true, if_false]

theorem writeMode_sets (hg : g < 4) (h : ¬s.modeRefused g (d.bits 2 0)) :
    (s.writeMode g d).reg (Reg.spgGcfg g) = word (d.bits 2 0) := by
  rw [writeMode_taken hrel hlg h, State.dropStopped_reg _ _ (by simp only [Reg.spgGcfg]; omega), State.ok_reg,
    State.setReg_reg_same]

end

/-- MODE 7 acts as 0. -/
theorem actingMode (m : Nat) (h : m < 8) : (if m = 7 then 0 else m) = m % 7 := by
  split <;> omega

theorem State.modeLeft_same (s : State) (g m : Nat) (hm : m < 8) (h : m % 7 = s.gmode g) : s.modeLeft g m = s := by
  rw [State.modeLeft, actingMode m hm, if_pos h]

/-- The state of a Shaga link is none of the registers that the frames of a channel change. -/
theorem shgLstat_notMem_downLog (l ch : Nat) (hch : ch < 32) : Reg.shgLstat l ∉ downLog ch := by
  simp only [downLog, cutLog, pfcLog, chA, Reg.shgLstat, Reg.chRxRunt, Reg.chRxFcs, Reg.chStat, Reg.chTxPfc, Reg.chTxFrames,
    Reg.disEvtdrop, List.cons_append, List.nil_append, List.mem_cons, List.not_mem_nil, or_false]
  omega

/-- A change of MODE leaves every lane of the group down and every ingress buffer empty, and the Canvas and the states
of the Shaga links as they were. -/
theorem State.modeLeft_change (s : State) (g m : Nat) (hg : g < 4) (hm : m < 8) (h : m % 7 ≠ s.gmode g)
    (h0 : lanesOf (s.gmode g) ≠ 0) : (s.modeLeft g m).can = s.can ∧
      (∀ k, k < 8 → (s.modeLeft g m).laneUp g k = false ∧ (s.modeLeft g m).bufferEmpty (8 * g + k)) ∧
      ∀ l, l < 32 → (s.modeLeft g m).reg (Reg.shgLstat l) = s.reg (Reg.shgLstat l) := by
  rw [State.modeLeft, actingMode m hm, if_neg h]
  obtain ⟨hregs, hcan⟩ := (s.channelsDown g).dropGroup_keeps g
  have hreg (a : Nat) : ((List.range 8).foldl (fun s k => s.dropIngress (8 * g + k)) (s.channelsDown g)).reg a =
      (s.channelsDown g).reg a := by rw [State.reg, hregs, State.reg]
  refine ⟨hcan.trans (s.channelsDown_can g), fun k hk => ⟨?_, ?_⟩, fun l hl => ?_⟩
  · rw [State.laneUp_congr _ _ _ _ (hreg _)]
    exact s.channelsDown_lanes g h0 k (List.mem_range.2 hk)
  · exact State.dropGroup_empties _ g k (List.mem_range.2 hk)
  · refine (hreg _).trans (s.channelsDown_reg g _ (fun k hk => ?_) fun ch hch => ?_)
    · simp only [Reg.shgLstat, Reg.lnStat]
      omega
    · exact shgLstat_notMem_downLog l ch (by omega)

/-- Setting MODE and answering leave the Shaga links where they are. -/
theorem State.modeSet_idle (s t : State) (g : Nat) (v : Word)
    (hno : ∀ l, l < 32 → s.regF (Reg.shgLstat l) 2 0 < 2)
    (ht : ∀ l, l < 32 → t.reg (Reg.shgLstat l) = s.reg (Reg.shgLstat l)) :
    (t.setReg (Reg.spgGcfg g) v).ok.dropStopped = (t.setReg (Reg.spgGcfg g) v).ok := by
  refine State.dropStopped_idle _ fun l hl => .inr ?_
  have hne : Reg.shgLstat l ≠ Reg.spgGcfg g := by
    simp only [Reg.shgLstat, Reg.spgGcfg]
    omega
  rw [State.regF, State.ok_reg, State.setReg_reg_ne _ _ _ _ hne, ht l hl]
  exact hno l hl

/-- Settles O22: the write of MODE by whether it is refused, keeps the mode or changes it; the link of a channel by its
lanes. -/
theorem laneGroupModes : Obligations.LaneGroupModes := by
  refine ⟨fun g d s hrel hlg hon => ?_, fun ch ab s hrun hform hdown hrep hlane => ?_, fun lane s n hn => ?_⟩
  · intro refused noLink
    have hexec := exec_spgModeWrite g d s hrel hlg hon
    have hm : d.bits 2 0 < 8 := Nat.mod_lt _ (by decide)
    refine ⟨fun href hfall => ?_, fun href => ⟨⟨_, hexec, writeMode_sets hrel hlg g.isLt href⟩, fun hno hsame => ?_,
      fun hno hdiff h0 => ?_⟩⟩
    · rw [hexec, writeMode_refused hrel hlg href, State.dropStopped_idle s.err hfall]
    · rw [hexec, writeMode_taken hrel hlg href, State.modeLeft_same _ _ _ hm hsame,
        State.modeSet_idle s s g.val _ hno fun _ _ => rfl]
    · obtain ⟨hcan, hgroup, hlstat⟩ := s.modeLeft_change g.val (d.bits 2 0) g.isLt hm hdiff h0
      rw [writeMode_taken hrel hlg href, State.modeSet_idle s _ g.val _ hno hlstat] at hexec
      refine ⟨_, hexec, rfl, hcan, fun k hk => ?_⟩
      obtain ⟨hlane, hempty⟩ := hgroup k hk
      obtain ⟨hdiv, hmod⟩ : (8 * g.val + k) / 8 = g.val ∧ (8 * g.val + k) % 8 = k := by omega
      refine ⟨State.chLink_of_lane_down _ _ ?_, hempty⟩
      rw [hdiv, hmod, ← hlane]
      refine State.laneUp_congr _ _ _ _ (State.setReg_reg_ne _ _ _ _ ?_)
      simp only [Reg.lnStat, Reg.spgGcfg]
      omega
  · have hup := linkUp_chLink hrun hform hdown hlane ab
    have hsame := linkUp_only hrun hform hdown hlane ab
    have hlinked : s.linkedUp ch.val ab = (linkUp ch.val ab s).pllSeen (ch.val / 8) := by
      simp only [State.linkedUp, hup, hdown, Bool.not_false, Bool.and_self, if_true]
      rw [State.ibDrain_none _ (by rw [hsame.sec, hrep])]
    exact ⟨_, congrArg Host.Outcome.next hlinked, hup, hsame.can, linkUp_str hrun hform hdown hlane ab⟩
  · obtain ⟨hdown, hothers⟩ := linkdown_link lane.val s hn.symm
    exact ⟨_, rfl, hdown, linkdown_can hn.symm, linkdown_wait hn.symm, linkdown_deliv hn.symm,
      fun f hlink hw hd hbad hpart hgot => linkdown_partial hn.symm f hlink hw hd hbad hpart hgot, hothers⟩

end Sys2Proof.Machine
end

section
namespace Sys2Proof

/-- A read of a map from which the keys outside `p` are taken out. -/
theorem SMap.get_filter {α : Type} (m : SMap α) (p : Nat → Bool) (k : Nat) (d : α) :
    SMap.get (m.filter (fun q => p q.1)) k d = if p k then m.get k d else d := by
  induction m with
  | nil => simp [SMap.get]
  | cons q r ih =>
    obtain ⟨j, v⟩ := q
    by_cases hj : j = k
    · subst hj
      cases hp : p j <;> simp_all [SMap.get]
    · cases hp : p j <;> simp [SMap.get, hp, hj, ih]

end Sys2Proof
end

section
namespace Sys2Proof.Machine

/-! ## Single bits of registers -/

theorem Word.bit_or (w v : Word) (i : Nat) : (w ||| v).bit i = (w.bit i || v.bit i) := by
  simp [Word.bit]

/-- A bit apart from the field that was written. -/
theorem Word.bit_putBits_ne (w : Word) (hi lo v i : Nat) (hd : i < lo ∨ hi < i) :
    (putBits w hi lo v).bit i = w.bit i := by
  have hmask : 2 ^ (hi + 1 - lo) - 1 + 1 = 2 ^ (hi + 1 - lo) := Nat.sub_add_cancel Nat.one_le_two_pow
  have hcond : ¬(lo ≤ i ∧ i - lo < hi + 1 - lo) := by omega
  simp only [Word.bit, BitVec.getLsbD, putBits, word, BitVec.toNat_ofNat, hmask, Nat.testBit_mod_two_pow,
    testBit_replaceField, if_neg hcond]
  by_cases h32 : i < 32
  · simp [h32]
  · have hz : w.toNat.testBit i = false :=
      Nat.testBit_lt_two_pow (lt_of_lt_of_le w.isLt (Nat.pow_le_pow_right (by decide) (by omega)))
    simp [hz]

/-- A sticky bit that was set. -/
theorem State.orReg_regB (s : State) (a m i : Nat) (h : (word m).bit i = true) : (s.orReg a m).regB a i = true := by
  simp [State.regB, State.orReg_reg_same, Word.bit_or, h]

/-- A bit of a register apart from the field that was written. -/
theorem State.setRegF_regB_ne (s : State) (a hi lo v i : Nat) (hd : i < lo ∨ hi < i) :
    (s.setRegF a hi lo v).regB a i = s.regB a i := by
  rw [State.regB, State.setRegF_reg_same, Word.bit_putBits_ne _ _ _ _ _ hd, State.regB]

theorem State.setRegF_regF_same (s : State) (a hi lo v : Nat) (hh : hi < 32) :
    (s.setRegF a hi lo v).regF a hi lo = v % 2 ^ (hi + 1 - lo) := by
  rw [State.regF, State.setRegF_reg_same, bits_putBits_same _ _ _ _ hh]

/-! ## The phases and the contents of a stack (R204, R208) -/

@[simp] theorem State.setPhase_reg (s : State) (st n a : Nat) : (s.setPhase st n).reg a = s.reg a := rfl
@[simp] theorem State.setPhase_memWord (s : State) (st n i : Nat) : (s.setPhase st n).memWord i = s.memWord i := rfl
@[simp] theorem State.setPhase_sect (s : State) (st n k : Nat) : (s.setPhase st n).sect k = s.sect k := rfl
@[simp] theorem State.setPhase_raw (s : State) (st n : Nat) : (s.setPhase st n).mem.raw = s.mem.raw := rfl
@[simp] theorem State.setPhase_phase (s : State) (st n : Nat) : (s.setPhase st n).mem.phase.get st 0 = n :=
  SMap.get_set_same _ _ _ _

@[simp] theorem State.wipeStack_reg (s : State) (st a : Nat) : (s.wipeStack st).reg a = s.reg a := rfl

/-- Every word of a stack that lost its contents reads zero, and the other stack keeps its words (log 11). -/
theorem State.wipeStack_memWord (s : State) (st i : Nat) :
    (s.wipeStack st).memWord i = if stackOf (4 * i) = st then 0#32 else s.memWord i := by
  have h := SMap.get_filter s.mem.words (fun j => stackOf (4 * j) != st) i 0#32
  simp only [bne_iff_ne, ne_eq, ite_not] at h
  exact h

theorem State.wipeStack_sect (s : State) (st k : Nat) :
    (s.wipeStack st).sect k = if stackOf (32 * k) = st then .ok else s.sect k := by
  have h := SMap.get_filter s.mem.sects (fun j => stackOf (32 * j) != st) k Ecc.ok
  simp only [bne_iff_ne, ne_eq, ite_not] at h
  exact h

theorem State.wipeStack_raw (s : State) (st : Nat) : st ∉ (s.wipeStack st).mem.raw := by
  simp [State.wipeStack]

/-! ## Training (R204, R208) -/

/-- The stack has lost its contents and gets no zeros (Table MT-2). -/
def State.leaveRaw (s : State) (st : Nat) : State := { s with mem.raw := st :: s.mem.raw }

theorem State.leaveRaw_phase (s : State) (st n : Nat) : ((s.setPhase st n).leaveRaw st).mem.phase.get st 0 = n :=
  s.setPhase_phase st n

section
variable {st : Nat} {s : State} (hstack : s.hasStack st = true) (hphase : s.mem.phase.get st 0 < 3)
  (hdom : s.regF (Reg.pwrDomctl (8 + st)) 3 2 ≠ 0)
include hstack hphase hdom

theorem stackTrainingDone_failed : stackTrainingDone st false s =
    ((s.orReg (Reg.memStat st) 2).setRegF (Reg.memStat st) 3 2 2).setPhase st 4 := by
  simp [stackTrainingDone, hstack, hphase, hdom]

theorem stackTrainingDone_initialises (h : s.mem.phase.get st 0 ≠ 2) : stackTrainingDone st true s =
    ((s.orReg (Reg.memStat st) 1).setRegF (Reg.memStat st) 3 2 0).setPhase st 3 := by
  simp [stackTrainingDone, hstack, hphase, hdom, h]

omit hphase in
theorem stackTrainingDone_raw (h : s.mem.phase.get st 0 = 2) : stackTrainingDone st true s =
    ((((s.orReg (Reg.memStat st) 1).setRegF (Reg.memStat st) 3 2 0).wipeStack st).setPhase st 4).leaveRaw st := by
  simp [stackTrainingDone, State.leaveRaw, hstack, hdom, h]

end

/-- A training sets its bit of MEMs_STAT and shows the state of power that follows. -/
theorem State.trained_stat (s : State) (a m i p : Nat) (hm : (word m).bit i = true) (hi : i < 2) (hp : p < 4) :
    ((s.orReg a m).setRegF a 3 2 p).regB a i = true ∧ ((s.orReg a m).setRegF a 3 2 p).regF a 3 2 = p := by
  rw [State.setRegF_regB_ne _ _ _ _ _ _ (by omega), State.setRegF_regF_same _ _ _ _ _ (by decide)]
  exact ⟨s.orReg_regB a m i hm, Nat.mod_eq_of_lt hp⟩

/-! ## The end of the zero initialisation (R204) -/

theorem zdone_ends (st : Nat) (s : State) (h : s.mem.phase.get st 0 = 3) :
    zdone st s = ((s.wipeStack st).orReg (Reg.memStat st) 0x10).setPhase st 4 := if_pos h

/-- Settles O28: a training by its outcome and by what was asked for, then the zeros. -/
theorem stackStart : Obligations.StackStart := by
  refine fun st s hstack => ⟨fun hphase hdom => ⟨?_, fun h => ?_, fun h => ?_⟩, fun h => ?_⟩
  · obtain ⟨hfail, hpower⟩ := s.trained_stat (Reg.memStat st.val) 2 1 2 rfl (by decide) (by decide)
    exact ⟨_, congrArg Host.Outcome.next (stackTrainingDone_failed hstack hphase hdom), State.setPhase_phase _ _ _,
      hfail, hpower, rfl⟩
  · obtain ⟨htrained, hpower⟩ := s.trained_stat (Reg.memStat st.val) 1 0 0 rfl (by decide) (by decide)
    refine ⟨_, congrArg Host.Outcome.next (stackTrainingDone_initialises hstack hphase hdom h),
      State.setPhase_phase _ _ _, htrained, hpower, fun a ha => ?_⟩
    rw [State.setPhase_reg, State.setRegF_reg_ne _ _ _ _ _ _ ha, State.orReg_reg_ne _ _ _ _ ha]
  · obtain ⟨htrained, -⟩ := s.trained_stat (Reg.memStat st.val) 1 0 0 rfl (by decide) (by decide)
    exact ⟨_, congrArg Host.Outcome.next (stackTrainingDone_raw hstack hdom h), State.leaveRaw_phase _ _ _,
      List.mem_cons_self .., htrained⟩
  · refine ⟨_, congrArg Host.Outcome.next (zdone_ends st.val s h), State.setPhase_phase _ _ _,
      State.orReg_regB _ _ _ 4 rfl, State.wipeStack_raw s st.val, fun i hi => ?_, fun k hk => ?_, fun i hi => ?_,
      fun a ha => State.orReg_reg_ne _ _ _ _ ha⟩
    · exact (s.wipeStack_memWord st.val i).trans (if_pos hi)
    · exact (s.wipeStack_sect st.val k).trans (if_pos hk)
    · exact (s.wipeStack_memWord st.val i).trans (if_neg hi)

end Sys2Proof.Machine
end

section
namespace Sys2Proof.Machine

/-! ## Words and sectors of the stacks (R205, R206) -/

/-- What a store of words from index `i` on changes: the words alone. -/
theorem State.putWords_only (s : State) (i : Nat) (ws : List Word) :
    ∃ m, s.putWords i ws = { s with mem.words := m } := by
  unfold State.putWords
  generalize ws.zip (List.range ws.length) = l
  induction l generalizing s with
  | nil => exact ⟨_, rfl⟩
  | cons p r ih =>
    obtain ⟨m, h⟩ := ih (s.setMemWord (i + p.2) p.1)
    exact ⟨m, by rw [List.foldl_cons, h]; rfl⟩

/-- The words stand from index `i` on, and every other word is as it was. -/
theorem State.putWords_memWord (s : State) (i : Nat) (ws : List Word) (j : Nat) :
    (s.putWords i ws).memWord j = if i ≤ j ∧ j < i + ws.length then ws.getD (j - i) 0#32 else s.memWord j := by
  have hfold (n : Nat) (v : State) : ((ws.zip (List.range' n ws.length)).foldl (fun s p => s.setMemWord (i + p.2) p.1)
      v).memWord j = if i + n ≤ j ∧ j < i + n + ws.length then ws.getD (j - (i + n)) 0#32 else v.memWord j := by
    induction ws generalizing n v with
    | nil => rw [if_neg (by simp only [List.length_nil]; omega)]; rfl
    | cons w ws ih =>
      rw [List.length_cons, List.range'_succ, List.zip_cons_cons, List.foldl_cons, ih]
      by_cases h0 : j = i + n
      · rw [if_neg (by omega), if_pos (by omega), h0, State.setMemWord_same, Nat.sub_self]
        rfl
      · rw [State.setMemWord_ne _ _ _ _ h0]
        by_cases hin : i + (n + 1) ≤ j ∧ j < i + (n + 1) + ws.length
        · rw [if_pos hin, if_pos (by omega), show j - (i + n) = j - (i + (n + 1)) + 1 by omega, List.getD_cons_succ]
        · rw [if_neg hin, if_neg (by omega)]
  rw [State.putWords, List.range_eq_range']
  exact hfold 0 s

/-- A sector that is written is determined from then on (Table MT-2). -/
def State.markKnown (s : State) (k : Nat) : State :=
  if s.mem.raw.contains (stackOf (32 * k)) then { s with mem.known := s.mem.known.set k true false } else s

theorem State.markKnown_only (s : State) (k : Nat) : ∃ m, s.markKnown k = { s with mem.known := m } := by
  unfold State.markKnown
  split
  · exact ⟨_, rfl⟩
  · exact ⟨s.mem.known, rfl⟩

section
variable {s : State} {k : Nat} {ws : List Word} (hinj : (s.reg (Reg.memInj (stackOf (32 * k)))).bit 0 = false)
include hinj

/-- A write of a whole sector that MEMs_INJ does not spoil. -/
theorem State.writeSect_plain : s.writeSect k ws = ((s.markKnown k).putWords (8 * k) ws).setSect k .ok := by
  obtain ⟨m, hm⟩ := s.markKnown_only k
  obtain ⟨w, hw⟩ := (s.markKnown k).putWords_only (8 * k) ws
  have hreg : ((s.markKnown k).putWords (8 * k) ws).reg (Reg.memInj (stackOf (32 * k))) =
      s.reg (Reg.memInj (stackOf (32 * k))) := by rw [hw, hm]; rfl
  exact if_neg (Bool.eq_false_iff.1 ((congrArg (fun v : Word => v.bit 0) hreg).trans hinj))

/-- It changes the memory of the stacks alone. -/
theorem State.writeSect_only : ∃ m, s.writeSect k ws = { s with mem := m } := by
  obtain ⟨m, hm⟩ := s.markKnown_only k
  obtain ⟨w, hw⟩ := (s.markKnown k).putWords_only (8 * k) ws
  exact ⟨_, by rw [State.writeSect_plain hinj, hw, hm]; rfl⟩

/-- The sector holds the words, and every other word is as it was. -/
theorem State.writeSect_memWord (hlen : ws.length = 8) (i : Nat) :
    (s.writeSect k ws).memWord i = if i / 8 = k then ws.getD (i % 8) 0#32 else s.memWord i := by
  obtain ⟨m, hm⟩ := s.markKnown_only k
  have hput : (s.writeSect k ws).memWord i = ((s.markKnown k).putWords (8 * k) ws).memWord i := by
    rw [State.writeSect_plain hinj]
    rfl
  rw [hput, State.putWords_memWord, hlen, hm]
  by_cases h : i / 8 = k
  · rw [if_pos (by omega), if_pos h, show i - 8 * k = i % 8 by omega]
  · rw [if_neg (by omega), if_neg h]
    rfl

theorem State.writeSect_sect (j : Nat) : (s.writeSect k ws).sect j = if j = k then .ok else s.sect j := by
  obtain ⟨m, hm⟩ := s.markKnown_only k
  obtain ⟨w, hw⟩ := (s.markKnown k).putWords_only (8 * k) ws
  rw [State.writeSect_plain hinj]
  split
  · next h => rw [h, State.setSect_same]
  · next h =>
    rw [State.setSect_ne _ _ _ _ h, hw, hm]
    rfl

end

/-! ## What an access to a stack meets -/

/-- Whether a domain is fenced is a matter of three registers and of what the stacks are doing (R236, R406). -/
theorem State.domFenced_congr (s t : State) (d : Nat) (hm : t.mem = s.mem) (hf : t.reg Reg.nocFreq = s.reg Reg.nocFreq)
    (hd : t.reg (Reg.pwrDomctl d) = s.reg (Reg.pwrDomctl d))
    (hs : t.reg (Reg.memStat (d - 8)) = s.reg (Reg.memStat (d - 8))) :
    t.domFenced d = s.domFenced d := by
  simp only [State.domFenced, State.domOn, State.domState, State.regB, State.regF, hm, hf, hd, hs]
  rfl

theorem State.stackGate_congr (s t : State) (a : Nat) (hp : t.part = s.part) (hm : t.mem = s.mem)
    (hf : t.domFenced (8 + stackOf a) = s.domFenced (8 + stackOf a)) : t.stackGate a = s.stackGate a := by
  simp only [State.stackGate, State.hasStack, State.has, hp, hm, hf]
  rfl

/-- An access is performed only by a stack that is there, not fenced, and settled. -/
theorem State.stackGate_go {s : State} {a : Nat} (h : s.stackGate a = .go) :
    s.hasStack (stackOf a) = true ∧ s.domFenced (8 + stackOf a) = false := by
  unfold State.stackGate at h
  cases hh : s.hasStack (stackOf a) <;> cases hf : s.domFenced (8 + stackOf a) <;> simp [hh, hf] at h ⊢

/-! ## Register writes of the stacks -/

theorem State.plainWrite_only (s : State) (a : Nat) (d : Word) :
    s.plainWrite a d = { s with regs := (s.plainWrite a d).regs } ∧
      ∀ j, j ≠ a → (s.plainWrite a d).reg j = s.reg j := by
  refine ⟨s.plainWrite_regs a d, fun j hj => ?_⟩
  unfold State.plainWrite
  split
  · rfl
  · exact State.setReg_reg_ne _ _ _ _ hj

/-- A command that is a write of a register of a stack that answers has its own effect. -/
theorem State.viaMem_stack {s : State} {st : Fin 2} (h : s.memOpen st.val) (k : State → State) :
    s.viaMem (Reg.memStat st.val) k = k s.ok := by
  obtain ⟨hopen, hstack, hdom⟩ := h
  have hat : ∀ i : Fin 2, arrayAt (Reg.memStat i.val) 0x1A0000 0x100 2 = some (i.val, 0) := by decide
  rw [State.viaMem, State.viaBlock_opens _ _ _ hopen, State.memGate, hat]
  have hs : s.ok.hasStack st.val = true := hstack
  have hd : s.ok.regF (Reg.pwrDomctl (8 + st.val)) 3 2 = 2 := hdom
  simp [hs, hd]

/-- MEM_SCLR answers while one of the stacks is there. -/
theorem State.viaMem_sclr {s : State} (hopen : s.opens .mem) (h : s.hasStack 0 = true ∨ s.hasStack 1 = true)
    (k : State → State) : s.viaMem Reg.memSclrHi k = k s.ok := by
  have hat : arrayAt Reg.memSclrHi 0x1A0000 0x100 2 = none := by decide
  have hs : (s.ok.hasStack 0 || s.ok.hasStack 1) = true := Bool.or_eq_true_iff.2 h
  rw [State.viaMem, State.viaBlock_opens _ _ _ hopen, State.memGate, hat]
  simp [hs]

end Sys2Proof.Machine
end

section
namespace Sys2Proof.Machine

/-! ## SECTOR_CLEAR (R206) -/

/-- MEM_SCLR_HI names one of the two stacks. -/
theorem sclr_lt (d lo : Word) : (d.bits 2 0 * 4294967296 + lo.toNat) / 32 < 0x40000000 := by
  have h1 : d.bits 2 0 < 8 := Nat.mod_lt _ (by decide)
  have h2 := lo.isLt
  omega

/-- SECTOR_CLEAR at a sector that can be accessed. The definition is unfolded as a function: unfolded at its arguments, its
match would have the kernel evaluate the gate of an address it cannot compute. -/
theorem sectorClear_go (d : Word) (s u : State) (a : Nat) (hu : s.ok.plainWrite Reg.memSclrHi d = u)
    (ha : (d.bits 2 0 * 4294967296 + (u.reg Reg.memSclrLo).toNat) / 32 * 32 = a) (hgate : u.stackGate a = .go) :
    sectorClear d s = u.writeSect (a / 32) (List.replicate 8 0#32) := by
  have hfun : ∀ f : Word → State → State, f = sectorClear →
      f d s = u.writeSect (a / 32) (List.replicate 8 0#32) := by
    intro f hf
    delta sectorClear at hf
    simp only [hf, hu, ha, hgate]
  exact hfun _ rfl

theorem exec_sectorClear (d : Word) (k : Nat) (s : State) (hopen : s.opens .mem)
    (hk : k = (d.bits 2 0 * 4294967296 + (s.reg Reg.memSclrLo).toNat) / 32) (hgate : s.stackGate (32 * k) = .go) :
    exec (.sectorClear d) s = .next ((s.ok.plainWrite Reg.memSclrHi d).writeSect k (List.replicate 8 0#32)) := by
  obtain ⟨heq, hreg⟩ := s.ok.plainWrite_only Reg.memSclrHi d
  have hlt : k < 0x40000000 := hk ▸ sclr_lt d _
  have hst : stackOf (32 * k) = 0 ∨ stackOf (32 * k) = 1 := by
    unfold stackOf
    omega
  have hany : s.hasStack 0 = true ∨ s.hasStack 1 = true := by
    have h := (State.stackGate_go hgate).1
    rcases hst with hst | hst <;> rw [hst] at h
    · exact .inl h
    · exact .inr h
  have hgate' : (s.ok.plainWrite Reg.memSclrHi d).stackGate (32 * k) = .go := by
    rw [State.stackGate_congr s _ _ (by rw [heq]; rfl) (by rw [heq]; rfl), hgate]
    refine State.domFenced_congr _ _ _ (by rw [heq]; rfl) ?_ ?_ ?_ <;> refine hreg _ ?_ <;>
      simp only [Reg.nocFreq, Reg.pwrDomctl, Reg.memStat, Reg.memSclrHi] <;> omega
  have haddr : (d.bits 2 0 * 4294967296 + ((s.ok.plainWrite Reg.memSclrHi d).reg Reg.memSclrLo).toNat) / 32 * 32 =
      32 * k := by
    rw [hreg _ (by decide), hk]
    exact Nat.mul_comm _ _
  have hclear := sectorClear_go d s.ok _ (32 * k) rfl haddr hgate'
  rw [Nat.mul_div_cancel_left _ (show 0 < 32 by decide)] at hclear
  exact congrArg Host.Outcome.next ((State.viaMem_sclr hopen hany _).trans hclear)

/-! ## Repair (R207) -/

/-- The repair in progress of a stack. -/
def State.setPpr (s : State) (st : Nat) (x : Option (Nat × Bool)) : State :=
  { s with mem.ppr := s.mem.ppr.set st x none }

@[simp] theorem State.setPpr_ppr (s : State) (st : Nat) (x : Option (Nat × Bool)) :
    (s.setPpr st x).mem.ppr.get st none = x := SMap.get_set_same _ _ _ _
@[simp] theorem State.setPpr_reg (s : State) (st a : Nat) (x : Option (Nat × Bool)) : (s.setPpr st x).reg a = s.reg a := rfl

section
variable {st : Nat} {hard : Bool} {a : Nat} {s : State} (hstack : s.hasStack st = true)
  (hidle : s.mem.ppr.get st none = none)
  (ha : a = s.regF (Reg.memPprHi st) 2 0 * 4294967296 + (s.reg (Reg.memPprLo st)).toNat)
include hstack hidle ha

/-- PPR_GO with no repair running clears the results of the last one; then it starts one, or refuses a row of the other
stack. -/
theorem pprGo_idle : ∃ t : State, t.mem = s.mem ∧ t.resp = s.ok.resp ∧ pprGo st hard s =
    if stackOf a = st then (t.orReg (Reg.memPprStat st) 1).setPpr st (some (a, hard))
    else t.orReg (Reg.memPprStat st) 4 := by
  have hreg (r : Nat) (hr : r ≠ Reg.memPprCmd st) : (s.ok.setReg (Reg.memPprCmd st) (Word.flag hard 1)).reg r = s.reg r :=
    State.setReg_reg_ne _ _ _ _ hr
  have hhi := hreg (Reg.memPprHi st) (by simp only [Reg.memPprHi, Reg.memPprCmd]; omega)
  have hlo := hreg (Reg.memPprLo st) (by simp only [Reg.memPprLo, Reg.memPprCmd]; omega)
  have hrun : (s.ok.setReg (Reg.memPprCmd st) (Word.flag hard 1)).mem.ppr.get st none = none := hidle
  refine ⟨(s.ok.setReg (Reg.memPprCmd st) (Word.flag hard 1)).clrReg (Reg.memPprStat st) 0xE, rfl, rfl, ?_⟩
  simp only [pprGo, hstack, State.regF, hhi, hlo, hrun]
  simp only [State.regF] at ha
  rw [← ha]
  rfl

end

/-- The tracker of persistent errors and the reports stand apart from the stacks (R357, R358). -/
theorem State.trackCorrection_mem (s : State) (c a : Nat) : (s.trackCorrection c a).mem = s.mem := by
  unfold State.trackCorrection
  simp only []
  split
  · split_ifs
    · rfl
    · split
      · split <;> rfl
      · rfl
    · rfl
    · rfl
  · split <;> rfl

theorem State.report_mem (s : State) (code unit : Nat) : (s.report code unit).mem = s.mem := by
  unfold State.report State.reportOn State.reportOnce
  split <;> rfl

/-- A read of a sector leaves the repairs. -/
theorem State.readSect_ppr (s : State) (k : Nat) : (s.readSect k).2.mem.ppr = s.mem.ppr := by
  have hfold (l : List Nat) (v : State) : (l.foldl (fun s i => s.freeWord.2.setMemWord (8 * k + i) s.freeWord.1)
      v).mem.ppr = v.mem.ppr :=
    foldl_keeps (fun t : State => t.mem.ppr) (fun s i => s.freeWord.2.setMemWord (8 * k + i) s.freeWord.1)
      (fun _ _ => rfl) l v
  have hsettle : (s.settleSect k).mem.ppr = s.mem.ppr := by
    unfold State.settleSect
    split_ifs
    · simp only []
      split
      · rfl
      · exact hfold _ _
    · rfl
  unfold State.readSect
  simp only []
  split
  · exact hsettle
  · rw [State.eccCorrected, State.trackCorrection_mem]
    exact hsettle
  · exact hsettle
  · rw [State.report_mem]
    exact hsettle

theorem State.repairRow_ppr (s : State) (a : Nat) : (s.repairRow a).mem.ppr = s.mem.ppr :=
  foldl_keeps (fun t : State => t.mem.ppr) _ State.readSect_ppr _ s

/-- Event tokens reach the Dispatcher: no other block changes, and no register but EVTDROP (R297). -/
theorem State.eventToken_keeps (s : State) (event sel : Nat) (val : Word) :
    (s.eventToken event sel val).mem = s.mem ∧ (s.eventToken event sel val).tbl = s.tbl ∧
      (s.eventToken event sel val).resp = s.resp ∧
      ∀ a, a ≠ Reg.disEvtdrop → (s.eventToken event sel val).reg a = s.reg a := by
  have h : s.chanOnly 0 [Reg.disEvtdrop] (s.eventToken event sel val) :=
    (s.chanOnly_refl 0 _).eventToken event sel val (List.mem_singleton_self _)
  exact ⟨by rw [h.1], by rw [h.1], by rw [h.1], fun a ha => h.reg_ne (by simpa using ha)⟩

/-- PPR_DONE of a running repair: what the repair of the row leaves, the result in MEMs_PPR_STAT, and the token. -/
theorem pprDone_ends (st : Nat) (spare : Bool) (s : State) (x : Nat × Bool) (h : s.mem.ppr.get st none = some x) :
    ∃ u : State, u.mem.ppr.get st none = none ∧ (spare = false → u.mem.words = s.mem.words) ∧ pprDone st spare s =
      (u.setReg (Reg.memPprStat st) (u.reg (Reg.memPprStat st) &&& 0xFFFFFFFE#32 |||
        (if spare then 2#32 else 0xE#32))).eventToken 3 st (word (st + (if spare then 2 else 0xE))) := by
  obtain ⟨a, hard⟩ := x
  cases spare
  · exact ⟨s.setPpr st none, s.setPpr_ppr st none, fun _ => rfl, by simp only [pprDone, h]; rfl⟩
  · refine ⟨(s.setPpr st none).repairRow a, ?_, nofun, by simp only [pprDone, h]; rfl⟩
    rw [State.repairRow_ppr, State.setPpr_ppr]

/-- MEMs_PPR_STAT at the end of a repair: BUSY is clear and DONE set, and FAIL and NOSPARE show that no row was left. -/
theorem repairResult_bits (w : Word) (spare : Bool) :
    let v := w &&& 0xFFFFFFFE#32 ||| (if spare then 2#32 else 0xE#32)
    v.bit 0 = false ∧ v.bit 1 = true ∧ (spare = false → v.bit 2 = true ∧ v.bit 3 = true) := by
  cases spare <;> simp [Word.bit]

/-! ## Power (R208) -/

/-- A field that a mask leaves out. -/
theorem Word.bits_and (w m : Word) (hi lo : Nat) (h : m.extractLsb' lo (hi + 1 - lo) = BitVec.allOnes (hi + 1 - lo)) :
    (w &&& m).bits hi lo = w.bits hi lo := by
  rw [Word.bits_eq, BitVec.extractLsb'_and, h, BitVec.and_allOnes, Word.bits_eq]

section
variable {st : Nat} {d : Word} {s : State} (hstack : s.hasStack st = true)
  (hon : s.regF (Reg.memStat st) 3 2 = 0)
include hstack hon

/-- A lower state of power needs the acknowledged fence. -/
theorem stackPowerRequest_unfenced (h1 : 1 ≤ d.bits 1 0) (h2 : d.bits 1 0 ≤ 2)
    (hack : s.regB Reg.nocFack (8 + st) = false) : stackPowerRequest st d s = s.err := by
  have h0 : d.bits 1 0 ≠ 0 := by omega
  have h3 : d.bits 1 0 ≠ 3 := by omega
  simp [stackPowerRequest, hstack, hon, h0, h3, hack, Nat.pos_of_ne_zero h0]

/-- With the fence acknowledged, SLEEP shows in MEMs_STAT and keeps the contents. -/
theorem stackPowerRequest_sleeps (h1 : d.bits 1 0 = 1) (hack : s.regB Reg.nocFack (8 + st) = true) :
    ∃ t, stackPowerRequest st d s = t ∧ t.resp.status = 0 ∧ t.regF (Reg.memStat st) 3 2 = 1 ∧ t.mem = s.mem := by
  obtain ⟨heq, -⟩ := s.ok.plainWrite_only (Reg.memPwr st) d
  have hreq : stackPowerRequest st d s = (s.ok.plainWrite (Reg.memPwr st) d).setRegF (Reg.memStat st) 3 2 1 := by
    simp [stackPowerRequest, hstack, hon, h1, hack]
  exact ⟨_, hreq, by rw [heq]; rfl, State.setRegF_regF_same _ _ _ _ _ (by decide), by rw [heq]; rfl⟩

/-- With the fence acknowledged, OFF shows in MEMs_STAT and loses the contents. -/
theorem stackPowerRequest_off (h2 : d.bits 1 0 = 2) (hack : s.regB Reg.nocFack (8 + st) = true) :
    ∃ t, stackPowerRequest st d s = t ∧ t.resp.status = 0 ∧ t.regF (Reg.memStat st) 3 2 = 2 ∧
      ∀ i, t.memWord i = if stackOf (4 * i) = st then 0#32 else s.memWord i := by
  obtain ⟨heq, -⟩ := s.ok.plainWrite_only (Reg.memPwr st) d
  obtain ⟨u, hu⟩ : ∃ u, s.ok.plainWrite (Reg.memPwr st) d = u := ⟨_, rfl⟩
  have hreq : stackPowerRequest st d s =
      (((((u.wipeStack st).setPpr st none).setRegF (Reg.memStat st) 3 2 2).clrReg (Reg.memStat st) 0x13).clrReg
        (Reg.memPprStat st) 1).setPhase st 4 := by
    simp [stackPowerRequest, hstack, hon, h2, hack, hu]
    rfl
  rw [hu] at heq
  refine ⟨_, hreq, by rw [heq]; rfl, ?_, fun i => ?_⟩
  · have hne : Reg.memStat st ≠ Reg.memPprStat st := by
      simp only [Reg.memStat, Reg.memPprStat]
      omega
    rw [State.regF, State.setPhase_reg, State.clrReg_reg_ne _ _ _ _ hne, State.clrReg_reg_same,
      Word.bits_and _ _ _ _ rfl, State.setRegF_reg_same, bits_putBits_same _ _ _ _ (by decide)]
    rfl
  · refine (u.wipeStack_memWord st i).trans ?_
    rw [heq]
    rfl

end

/-! ## Temperature (R209) -/

/-- A limit of MEMs_STAT is raised above `lim` and cleared 3 degrees below it. -/
def State.tempLimit (s : State) (st m : Nat) (lim t : Int) : State :=
  if lim < t then s.orReg (Reg.memStat st) m else if t ≤ lim - 3 then s.clrReg (Reg.memStat st) m else s

theorem stackThermal_limits (st : Nat) (temp : BitVec 8) (s : State) (h : s.hasStack st = true) :
    stackThermal st temp s = ((s.setReg (Reg.memTemp st) (temp.setWidth 32)).tempLimit st 0x20 85 temp.toInt).tempLimit
      st 0x40 95 temp.toInt := by
  simp only [stackThermal, h, Bool.not_true, Bool.false_eq_true, if_false]
  rfl

theorem Word.bit_and_not (w v : Word) (i : Nat) (hi : i < 32) : (w &&& ~~~v).bit i = (w.bit i && !v.bit i) := by
  simp [Word.bit, hi]

section
variable (s : State) (st m i : Nat) (lim t : Int)

theorem State.tempLimit_mem : (s.tempLimit st m lim t).mem = s.mem := by
  unfold State.tempLimit
  split_ifs <;> rfl

theorem State.tempLimit_reg_ne (a : Nat) (h : a ≠ Reg.memStat st) : (s.tempLimit st m lim t).reg a = s.reg a := by
  unfold State.tempLimit
  split_ifs
  · exact State.orReg_reg_ne _ _ _ _ h
  · exact State.clrReg_reg_ne _ _ _ _ h
  · rfl

/-- The bit of the limit shows the temperature with 3 degrees of hysteresis. -/
theorem State.tempLimit_regB_same (hi : i < 32) (hm : (word m).bit i = true) : (s.tempLimit st m lim t).regB
    (Reg.memStat st) i = if lim < t then true else if t ≤ lim - 3 then false else s.regB (Reg.memStat st) i := by
  unfold State.tempLimit
  split_ifs
  · exact State.orReg_regB _ _ _ _ hm
  · rw [State.regB, State.clrReg_reg_same, Word.bit_and_not _ _ _ hi, hm, Bool.not_true, Bool.and_false]
  · rfl

/-- Every other bit stays. -/
theorem State.tempLimit_regB_ne (hi : i < 32) (hm : (word m).bit i = false) :
    (s.tempLimit st m lim t).regB (Reg.memStat st) i = s.regB (Reg.memStat st) i := by
  unfold State.tempLimit
  split_ifs
  · rw [State.regB, State.orReg_reg_same, Word.bit_or, hm, Bool.or_false, State.regB]
  · rw [State.regB, State.clrReg_reg_same, Word.bit_and_not _ _ _ hi, hm, Bool.not_false, Bool.and_true, State.regB]
  · rfl

end

/-- STACK_THERMAL records the temperature and shows its two limits. -/
theorem stackThermal_shows (st : Nat) (temp : BitVec 8) (s : State) (h : s.hasStack st = true) :
    ∃ t, stackThermal st temp s = t ∧ t.mem = s.mem ∧ t.reg (Reg.memTemp st) = temp.setWidth 32 ∧
      t.regB (Reg.memStat st) 5 = (if 85 < temp.toInt then true else if temp.toInt ≤ 85 - 3 then false
        else s.regB (Reg.memStat st) 5) ∧
      t.regB (Reg.memStat st) 6 = (if 95 < temp.toInt then true else if temp.toInt ≤ 95 - 3 then false
        else s.regB (Reg.memStat st) 6) := by
  have hne : Reg.memTemp st ≠ Reg.memStat st := by
    simp only [Reg.memTemp, Reg.memStat]
    omega
  have hstat (i : Nat) : (s.setReg (Reg.memTemp st) (temp.setWidth 32)).regB (Reg.memStat st) i =
      s.regB (Reg.memStat st) i := by
    rw [State.regB, State.setReg_reg_ne _ _ _ _ hne.symm, State.regB]
  refine ⟨_, stackThermal_limits st temp s h, ?_, ?_, ?_, ?_⟩
  · rw [State.tempLimit_mem, State.tempLimit_mem, State.setReg_mem]
  · rw [State.tempLimit_reg_ne _ _ _ _ _ _ hne, State.tempLimit_reg_ne _ _ _ _ _ _ hne, State.setReg_reg_same]
  · rw [State.tempLimit_regB_ne _ _ _ _ _ _ (by decide) rfl, State.tempLimit_regB_same _ _ _ _ _ _ (by decide) rfl, hstat]
  · rw [State.tempLimit_regB_same _ _ _ _ _ _ (by decide) rfl, State.tempLimit_regB_ne _ _ _ _ _ _ (by decide) rfl, hstat]

/-- Settles O29: sector clear, the repair from its command to its end, the states of power, and the temperature. -/
theorem stackRepairAndPower : Obligations.StackRepairAndPower := by
  refine ⟨fun d k s hopen hk hgate hinj => ?_, fun st s => ⟨fun hard a hopen hidle ha => ?_,
    fun spare hard a hrun => ?_, fun d hopen hon h1 h2 => ?_, fun temp hstack => ?_⟩⟩
  · obtain ⟨heq, hreg⟩ := s.ok.plainWrite_only Reg.memSclrHi d
    have hinj' : ((s.ok.plainWrite Reg.memSclrHi d).reg (Reg.memInj (stackOf (32 * k)))).bit 0 = false := by
      rw [hreg _ (by simp only [Reg.memInj, Reg.memSclrHi]; omega)]
      exact hinj
    obtain ⟨m, hm⟩ := State.writeSect_only (ws := List.replicate 8 0#32) hinj'
    refine ⟨_, exec_sectorClear d k s hopen hk hgate, by rw [hm, heq]; rfl, ?_, fun i => ?_, fun j hj => ?_,
      fun a ha => by rw [hm]; exact hreg a ha⟩
    · rw [State.writeSect_sect hinj', if_pos rfl]
    · rw [State.writeSect_memWord hinj' rfl, heq]
      split
      · rw [List.getD_eq_getElem?_getD, List.getElem?_replicate]
        split <;> rfl
      · rfl
    · rw [State.writeSect_sect hinj', if_neg hj, heq]
      rfl
  · have hexec : exec (.pprGo st hard) s = .next (pprGo st.val hard s.ok) :=
      congrArg Host.Outcome.next (State.viaMem_stack hopen _)
    obtain ⟨t, hmem, -, hgo⟩ := pprGo_idle (hard := hard) (s := s.ok) hopen.2.1 hidle ha
    refine ⟨fun hown => ?_, fun hother => ?_⟩
    · rw [if_pos hown] at hgo
      exact ⟨_, hexec.trans (congrArg Host.Outcome.next hgo), State.setPpr_ppr _ _ _, State.orReg_regB _ _ _ 0 rfl,
        (congrArg Mem.words hmem : t.mem.words = s.mem.words)⟩
    · rw [if_neg hother] at hgo
      exact ⟨_, hexec.trans (congrArg Host.Outcome.next hgo), hmem, State.orReg_regB _ _ _ 2 rfl⟩
  · obtain ⟨u, hidle, hwords, hdone⟩ := pprDone_ends st.val spare s _ hrun
    obtain ⟨hmem, -, -, hreg⟩ := State.eventToken_keeps (u.setReg (Reg.memPprStat st.val)
      (u.reg (Reg.memPprStat st.val) &&& 0xFFFFFFFE#32 ||| (if spare then 2#32 else 0xE#32))) 3 st.val
      (word (st.val + (if spare then 2 else 0xE)))
    have hstat := hreg (Reg.memPprStat st.val) (by simp only [Reg.memPprStat, Reg.disEvtdrop]; omega)
    rw [State.setReg_reg_same] at hstat
    rw [← hdone] at hmem hstat
    obtain ⟨hbusy, hend, hnone⟩ := repairResult_bits (u.reg (Reg.memPprStat st.val)) spare
    rw [← hstat] at hbusy hend hnone
    exact ⟨_, rfl, by rw [hmem]; exact hidle, hbusy, hend, fun hs => ⟨(hnone hs).1, (hnone hs).2, by
      rw [hmem]; exact hwords hs⟩⟩
  · have hexec (t : State) (h : stackPowerRequest st.val d s.ok = t) : exec (.stackPowerRequest st d) s = .next t :=
      congrArg Host.Outcome.next ((State.viaMem_stack hopen _).trans h)
    obtain ⟨-, hstack, -⟩ := hopen
    refine ⟨fun hack => hexec _ (stackPowerRequest_unfenced (s := s.ok) hstack hon h1 h2 hack), fun hack => ?_⟩
    rcases (show d.bits 1 0 = 1 ∨ d.bits 1 0 = 2 by omega) with h | h
    · obtain ⟨t, hreq, hresp, hstat, hmem⟩ := stackPowerRequest_sleeps (s := s.ok) hstack hon h hack
      exact ⟨t, hexec t hreq, hresp, hstat.trans h.symm, fun _ => hmem, fun h' => by omega⟩
    · obtain ⟨t, hreq, hresp, hstat, hword⟩ := stackPowerRequest_off (s := s.ok) hstack hon h hack
      exact ⟨t, hexec t hreq, hresp, hstat.trans h.symm, fun h' => by omega,
        fun _ => ⟨fun i hi => (hword i).trans (if_pos hi), fun i hi => (hword i).trans (if_neg hi)⟩⟩
  · obtain ⟨t, ht, hmem, htemp, hwarm, hhot⟩ := stackThermal_shows st.val temp s hstack
    refine ⟨t, congrArg Host.Outcome.next ht, htemp, fun h => ?_, fun h => ?_, fun h h' => ?_, fun h => ?_,
      fun h => ?_, hmem⟩
    · rw [hwarm, if_pos h]
    · rw [hwarm, if_neg (by omega), if_pos (by omega)]
    · rw [hwarm, if_neg (by omega), if_neg (by omega)]
    · rw [hhot, if_pos h]
    · rw [hhot, if_neg (by omega), if_pos (by omega)]

end Sys2Proof.Machine
end

section
namespace Sys2Proof.Machine

/-! ## Descriptors (R211) -/

theorem Word.lt_of_bit {w : Word} {i : Nat} (h : w.bit i = true) : i < 32 := BitVec.lt_of_getLsbD h

/-- A bit that a register takes from what is written to it. -/
theorem State.plainWrite_regB (s : State) (a i : Nat) (d : Word)
    (h : (regRow a).map (fun r => ((word r.rw).bit i, (word r.w1c).bit i)) = some (true, false)) :
    (s.plainWrite a d).regB a i = d.bit i := by
  obtain ⟨r, hr, hbits⟩ := Option.map_eq_some_iff.1 h
  obtain ⟨hrw, hw1c⟩ := Prod.mk.inj hbits
  have hi := Word.lt_of_bit hrw
  simp only [Word.bit] at hrw hw1c
  simp only [State.plainWrite, hr, State.regB, State.setReg_reg_same, Word.bit, BitVec.getLsbD_and, BitVec.getLsbD_or,
    BitVec.getLsbD_not, hi, hrw, hw1c]
  simp

theorem exec_descriptorWrite (tb : Fin 64) (w : Fin 16) (d : Word) (s : State) (hopen : s.opens .tbl)
    (hrel : s.released = true) (htable : s.hasTable = true) :
    exec (.descriptorWrite tb w d) s = .next (s.ok.putDesc tb.val w.val d) := by
  refine congrArg Host.Outcome.next ((State.viaBlock_opens _ _ _ hopen).trans ?_)
  have ht : s.ok.hasTable = true := htable
  simp [descriptorWrite, hrel, ht]

/-- A write that R211 does not allow: a D0 with V = 1 of a valid table or with wrong parameters, and D1, D2, D3, D8 or D9
of a valid table. -/
theorem State.putDesc_refused (s : State) (t w : Nat) (d : Word)
    (h : (w = 0 ∧ d.bit 0 = true ∧ (s.tV t = true ∨ s.tValid t d = false)) ∨
      (s.tV t = true ∧ (w = 1 ∨ w = 2 ∨ w = 3 ∨ w = 8 ∨ w = 9))) : s.putDesc t w d = s.tRefuse := by
  rcases h with ⟨rfl, hd, hv | hv⟩ | ⟨hv, rfl | rfl | rfl | rfl | rfl⟩
  · simp [State.putDesc, hd, hv]
  · cases htv : s.tV t <;> simp [State.putDesc, hd, hv, htv]
  all_goals simp [State.putDesc, hv]

theorem State.putDesc_taken (s : State) (t : Nat) (d : Word)
    (h : d.bit 0 = false ∨ (s.tV t = false ∧ s.tValid t d = true)) :
    s.putDesc t 0 d = s.ok.plainWrite (Reg.tblD t 0) d := by
  rcases h with hd | ⟨hv, hok⟩
  · simp [State.putDesc, hd]
  · simp [State.putDesc, hv, hok]

/-- A refused write is an error that TBL_CFGREF counts, and changes no descriptor. -/
theorem State.tRefuse_counts (s : State) : s.tRefuse.resp.status = 1 ∧ s.counts s.tRefuse Reg.tblCfgref 1 ∧
    ∀ t w, s.tRefuse.tD t w = s.tD t w := by
  refine ⟨rfl, (s.err.bump_orReg Reg.tblCfgref Reg.tblStat 2 1 (by decide) rfl).1, fun t w => ?_⟩
  have hstat : Reg.tblD t w ≠ Reg.tblStat := by
    simp only [Reg.tblD, Reg.tblStat]
    omega
  have hcount : Reg.tblD t w ≠ Reg.tblCfgref := by
    simp only [Reg.tblD, Reg.tblCfgref]
    omega
  rw [State.tD, State.tRefuse, State.orReg_reg_ne _ _ _ _ hstat, State.bump_reg_ne _ _ _ _ hcount, State.err_reg, State.tD]

/-- V of D0 is a bit that a write sets and clears (Table MT-4). -/
theorem tblD_takes_v (t : Fin 64) :
    (regRow (Reg.tblD t.val 0)).map (fun r => ((word r.rw).bit 0, (word r.w1c).bit 0)) = some (true, false) := by
  revert t
  decide

/-! ## Swaps (R220) -/

theorem State.tActive_congr (s t : State) (k : Nat) (hd : t.reg (Reg.tblD k 0) = s.reg (Reg.tblD k 0))
    (ha : t.regB (Reg.tblActiveLo (k / 32)) (k % 32) = s.regB (Reg.tblActiveLo (k / 32)) (k % 32)) :
    t.tActive k = s.tActive k := by
  unfold State.tActive State.tDgen State.tD
  rw [hd, ha]

/-- Turning bit `i` of a word over. -/
theorem Word.bit_toggle (w : Word) (i j : Nat) (hi : i < 32) :
    (w ^^^ word (2 ^ i)).bit j = if j = i then !w.bit j else w.bit j := by
  have hpow : (word (2 ^ i)).getLsbD j = decide (j = i) := by
    simp only [word, BitVec.getLsbD_ofNat, Nat.testBit_two_pow]
    rcases eq_or_ne j i with rfl | h
    · simp [hi]
    · simp [h, h.symm]
  simp only [Word.bit, BitVec.getLsbD_xor, hpow]
  split <;> simp [*]

/-- The engine notes in which cycle table `t` was swapped last (log 61). -/
def State.noteSwap (s : State) (t : Nat) : State := { s with tbl.swapped := s.tbl.swapped.set t (s.cyc + 1) 0 }

/-- A further swap of a table in a cycle adds nothing. -/
theorem State.swap_again (s : State) (t : Nat) (h : s.tbl.swapped.get t 0 = s.cyc + 1) : s.swap t = s.noteSwap t := by
  simp [State.swap, State.noteSwap, h]

section
variable {s : State} {t : Fin 64} (hfirst : s.tbl.swapped.get t.val 0 ≠ s.cyc + 1)
include hfirst

/-- The first swap of a cycle of a valid table with two generations exchanges them. -/
theorem State.swap_exchanges (h : (s.tV t.val && s.tDgen t.val) = true) :
    (s.swap t.val).tbl.swaps = s.tbl.swaps ∧ (s.swap t.val).resp = s.resp ∧
      (s.swap t.val).tActive t.val = 1 - s.tActive t.val ∧
      ∀ j : Fin 64, j ≠ t → (s.swap t.val).tActive j.val = s.tActive j.val := by
  obtain ⟨u, hu⟩ : ∃ u, u = (s.noteSwap t.val).setReg (Reg.tblActiveLo (t.val / 32))
      (s.reg (Reg.tblActiveLo (t.val / 32)) ^^^ word (2 ^ (t.val % 32))) := ⟨_, rfl⟩
  have hswap : s.swap t.val = u.eventToken 1 t.val (word (t.val + 256 * u.tActive t.val)) := by
    simp only [State.swap, beq_eq_false_iff_ne.2 hfirst, Bool.false_eq_true, if_false, hu]
    exact if_pos h
  obtain ⟨-, htbl, hresp, hreg⟩ := u.eventToken_keeps 1 t.val (word (t.val + 256 * u.tActive t.val))
  rw [← hswap] at htbl hresp hreg
  have hdesc (j : Fin 64) : (s.swap t.val).reg (Reg.tblD j.val 0) = s.reg (Reg.tblD j.val 0) := by
    obtain ⟨htoken, hactive⟩ :
        Reg.tblD j.val 0 ≠ Reg.disEvtdrop ∧ Reg.tblD j.val 0 ≠ Reg.tblActiveLo (t.val / 32) := by
      simp only [Reg.tblD, Reg.disEvtdrop, Reg.tblActiveLo]
      omega
    rw [hreg _ htoken, hu, State.setReg_reg_ne _ _ _ _ hactive]
    rfl
  have hbit (j : Fin 64) : (s.swap t.val).regB (Reg.tblActiveLo (j.val / 32)) (j.val % 32) = if j = t then
      !s.regB (Reg.tblActiveLo (j.val / 32)) (j.val % 32) else s.regB (Reg.tblActiveLo (j.val / 32)) (j.val % 32) := by
    have htoken : Reg.tblActiveLo (j.val / 32) ≠ Reg.disEvtdrop := by
      simp only [Reg.tblActiveLo, Reg.disEvtdrop]
      omega
    rw [State.regB, hreg _ htoken, hu]
    by_cases hsame : j.val / 32 = t.val / 32
    · rw [hsame, State.setReg_reg_same, Word.bit_toggle _ _ _ (Nat.mod_lt _ (by decide)), State.regB]
      exact if_congr ⟨fun h => Fin.ext (by omega), fun h => by rw [h]⟩ rfl rfl
    · have hne : Reg.tblActiveLo (j.val / 32) ≠ Reg.tblActiveLo (t.val / 32) := by
        simp only [Reg.tblActiveLo]
        omega
      rw [State.setReg_reg_ne _ _ _ _ hne, if_neg (fun h => hsame (by rw [h]))]
      rfl
  refine ⟨by rw [htbl, hu]; rfl, by rw [hresp, hu]; rfl, ?_, fun j hj => ?_⟩
  · obtain ⟨-, hgen⟩ := Bool.and_eq_true_iff.1 h
    have hgen' : (s.swap t.val).tDgen t.val = true := by
      rw [State.tDgen, State.tD, hdesc t]
      exact hgen
    simp only [State.tActive, hgen, hgen', hbit t, if_true, Bool.true_and]
    cases s.regB (Reg.tblActiveLo (t.val / 32)) (t.val % 32) <;> rfl
  · exact State.tActive_congr _ _ _ (hdesc j) (by rw [hbit, if_neg hj])

/-- Any other first swap of a cycle is dropped: it is counted, and no table changes. -/
theorem State.swap_dropped (h : (s.tV t.val && s.tDgen t.val) = false) :
    (s.swap t.val).tbl.swaps = s.tbl.swaps ∧ (s.swap t.val).resp = s.resp ∧ s.counts (s.swap t.val) Reg.tblSwapdrop 1 ∧
      ∀ j : Fin 64, (s.swap t.val).tActive j.val = s.tActive j.val := by
  obtain ⟨u, hu⟩ : ∃ u, u = ((s.noteSwap t.val).bump Reg.tblSwapdrop 1).orReg Reg.tblStat 1 := ⟨_, rfl⟩
  have hswap : s.swap t.val = u.eventToken 2 t.val (word t.val) := by
    simp only [State.swap, beq_eq_false_iff_ne.2 hfirst, Bool.false_eq_true, if_false, hu]
    exact if_neg (Bool.eq_false_iff.1 h)
  obtain ⟨-, htbl, hresp, hreg⟩ := u.eventToken_keeps 2 t.val (word t.val)
  rw [← hswap] at htbl hresp hreg
  have hkeep (a : Nat) (h1 : a ≠ Reg.disEvtdrop) (h2 : a ≠ Reg.tblStat) (h3 : a ≠ Reg.tblSwapdrop) :
      (s.swap t.val).reg a = s.reg a := by
    rw [hreg _ h1, hu, State.orReg_reg_ne _ _ _ _ h2, State.bump_reg_ne _ _ _ _ h3]
    rfl
  refine ⟨by rw [htbl, hu]; rfl, by rw [hresp, hu]; rfl, ?_, fun j => ?_⟩
  · refine State.counts_of_bump (u := s.noteSwap t.val) rfl ?_
    rw [hreg _ (by decide), hu, State.orReg_reg_ne _ _ _ _ (by decide)]
  · have hd : (s.swap t.val).reg (Reg.tblD j.val 0) = s.reg (Reg.tblD j.val 0) := by
      refine hkeep _ ?_ ?_ ?_ <;> simp only [Reg.tblD, Reg.disEvtdrop, Reg.tblStat, Reg.tblSwapdrop] <;> omega
    have ha : (s.swap t.val).reg (Reg.tblActiveLo (j.val / 32)) = s.reg (Reg.tblActiveLo (j.val / 32)) := by
      refine hkeep _ ?_ ?_ ?_ <;> simp only [Reg.tblActiveLo, Reg.disEvtdrop, Reg.tblStat, Reg.tblSwapdrop] <;> omega
    exact State.tActive_congr _ _ _ hd (by rw [State.regB, ha, State.regB])

end

theorem exec_tblSwap (tb : Fin 64) (s : State) (hopen : s.opens .tbl) (hrel : s.released = true)
    (htable : s.hasTable = true) : exec (.tblSwap tb) s = .next (s.ok.swap tb.val) := by
  refine congrArg Host.Outcome.next ((State.viaBlock_opens _ _ _ hopen).trans ?_)
  have ht : s.ok.hasTable = true := htable
  simp [tblSwap, hrel, ht]

theorem exec_tableSwap (tb : Nat) (ts : List Nat) (s : State) (hq : s.tbl.swaps = tb :: ts) (htable : s.hasTable = true) :
    exec .tableSwap s = .next (State.swap { s with tbl.swaps := ts } tb) := by
  refine congrArg Host.Outcome.next ?_
  simp [tableSwap, hq, htable]

/-- Settles O30: descriptor writes that R211 refuses and takes, and a swap by what the table is and by whether it is the
first of its cycle. -/
theorem tableDescriptors : Obligations.TableDescriptors := by
  refine ⟨fun tb w d s hopen hrel htable => ⟨fun h => ?_, fun hw h => ?_⟩, fun tb s => ⟨fun ts hq htable hfirst => ?_,
    fun hopen hrel htable hagain => ?_, fun hopen hrel htable hfirst => ?_⟩⟩
  · have hrefuse : s.ok.putDesc tb.val w.val d = s.ok.tRefuse := State.putDesc_refused s.ok _ _ _ h
    obtain ⟨hresp, hcount, hdesc⟩ := s.ok.tRefuse_counts
    exact ⟨_, (exec_descriptorWrite tb w d s hopen hrel htable).trans (congrArg _ hrefuse), hresp, hcount, hdesc⟩
  · have hput : s.ok.putDesc tb.val w.val d = s.ok.ok.plainWrite (Reg.tblD tb.val 0) d := by
      rw [hw]
      exact State.putDesc_taken s.ok _ _ h
    obtain ⟨heq, hreg⟩ := s.ok.ok.plainWrite_only (Reg.tblD tb.val 0) d
    exact ⟨_, (exec_descriptorWrite tb w d s hopen hrel htable).trans (congrArg _ hput), by rw [heq]; rfl,
      State.plainWrite_regB _ _ _ _ (tblD_takes_v tb), hreg⟩
  · have hexec := exec_tableSwap tb.val ts s hq htable
    refine ⟨_, hexec, ?_, fun h => ?_, fun h => ?_⟩
    · cases h : s.tV tb.val && s.tDgen tb.val
      · exact (State.swap_dropped (s := { s with tbl.swaps := ts }) hfirst h).1
      · exact (State.swap_exchanges (s := { s with tbl.swaps := ts }) hfirst h).1
    · obtain ⟨-, -, hself, hothers⟩ := State.swap_exchanges (s := { s with tbl.swaps := ts }) hfirst h
      exact ⟨hself, hothers⟩
    · obtain ⟨-, -, hcount, hsame⟩ := State.swap_dropped (s := { s with tbl.swaps := ts }) hfirst h
      exact ⟨hcount, hsame⟩
  · have hnote := s.ok.swap_again tb.val hagain
    exact ⟨_, (exec_tblSwap tb s hopen hrel htable).trans (congrArg _ hnote), rfl, rfl⟩
  · refine ⟨_, exec_tblSwap tb s hopen hrel htable, ?_⟩
    cases h : s.tV tb.val && s.tDgen tb.val
    · obtain ⟨hq, hresp, hcount, -⟩ := State.swap_dropped (s := s.ok) hfirst h
      exact ⟨hq, by rw [hresp]; rfl, nofun, fun _ => hcount⟩
    · obtain ⟨hq, hresp, hself, -⟩ := State.swap_exchanges (s := s.ok) hfirst h
      exact ⟨hq, by rw [hresp]; rfl, fun _ => hself, nofun⟩

end Sys2Proof.Machine
end

section
namespace Sys2Proof.Machine

/-! ## Entries of tables of 8 bytes (R205, R212) -/

/-- An 8-byte entry lies in one sector; where that is sound the entry is delivered and nothing changes. -/
theorem State.readEntry_sound (s : State) (a : Nat) (ha : a % 8 = 0) (h : s.soundSect (a / 32)) :
    s.readEntry a 8 = (some [s.memWord (a / 4), s.memWord (a / 4 + 1)], s) := by
  have hone : (a % 32 + 8 + 31) / 32 = 1 := by omega
  simp [State.readEntry, hone, State.readSect_sound s _ h, List.range_succ]

/-- A direct lookup takes the entry that it names, where it is sound. -/
theorem State.probe_direct (s : State) (base i : Nat) (hbase : base % 8 = 0)
    (h : s.soundSect ((base + i * 8) / 32)) : s.probe base 8 [] [i] =
      (some (i, 0, [s.memWord ((base + i * 8) / 4), s.memWord ((base + i * 8) / 4 + 1)]), s) := by
  have hread := s.readEntry_sound (base + i * 8) (by omega) h
  simp [State.probe, hread]

theorem mkResp_entry (i g : Nat) (v w : Word) : mkResp 8 i 0 g [v, w] =
    [{ data := respHeader i 0 g, tag := 0 }, { data := v, tag := 0 }, { data := w, tag := 1 }] := rfl

/-- The answer with status OK changes nothing but the count of lookups. -/
theorem State.countLookup_ok (s : State) : s.countLookup 0 = { s with tbl.lkp := s.tbl.lkp + 1 } := rfl

theorem State.countLookup_invalid (s : State) : s.countLookup 3 = { s with tbl.lkp := s.tbl.lkp + 1 } := rfl

section
variable {s : State} {h o : ChWord} (hh : h.tag = 0) (ho : o.tag = 1)
include hh ho

/-- A request for a table that is not valid (R217). -/
theorem State.answerRequest_invalid (hv : s.tV (h.data.bits 5 0) = false) :
    s.answerRequest [h, o] true = some (mkResp 8 0 3 0 [], s.countLookup 3) := by
  simp [State.answerRequest, hh, ho, hv]

/-- A request of a direct table is one operand word (Table MT-5). -/
theorem State.answerRequest_direct (hv : s.tV (h.data.bits 5 0) = true) (hmode : s.tMode (h.data.bits 5 0) = 0)
    (hpos : h.data.bit 6 = false) : s.answerRequest [h, o] true = s.tblAnswer h.data [o.data] := by
  simp [State.answerRequest, State.operandCount, hh, ho, hv, hmode, hpos]

end

/-- The answer of a direct table of 8-byte entries whose entry can be accessed and reads correctly (R212, R217). -/
theorem State.tblAnswer_direct {s : State} {hdr op : Word} {t i a : Nat} (ht : t = hdr.bits 5 0) (hi : i = op.bits 23 0)
    (hop : op.bits 31 24 = 0) (hgen : hdr.bit 7 = false) (hmode : s.tMode t = 0) (hsize : (s.tD t 0).bits 4 3 = 0)
    (hlt : i < s.tCount t) (ha : a = s.tBase t (s.tActive t) + 8 * i) (hfirst : s.stackGate (s.tBase t (s.tActive t)) = .go)
    (hentry : s.stackGate a = .go) (hlast : s.stackGate (s.tBase t (s.tActive t) + 8 * s.tCount t - 1) = .go)
    (hsound : s.soundSect (a / 32)) : s.tblAnswer hdr [op] = some
      ([{ data := respHeader i 0 (s.tActive t), tag := 0 }, { data := s.memWord (a / 4), tag := 0 },
        { data := s.memWord (a / 4 + 1), tag := 1 }], { s with tbl.lkp := s.tbl.lkp + 1 }) := by
  have h8 : s.tSize t = 8 := by simp [State.tSize, hsize]
  rw [Nat.mul_comm] at ha hlast
  subst ha ht
  have hprobe := s.probe_direct _ i (by unfold State.tBase; omega) hsound
  simp [State.tblAnswer, hmode, hgen, ← hi, Nat.not_le.2 hlt, hop, h8, hfirst, hentry, hlast, hprobe, mkResp_entry,
    State.countLookup_ok]

/-! ## Words that a table port takes (R216) -/

/-- A first data word is collected. -/
theorem State.takeWord_first (s : State) (p : Nat) (h : ChWord) (hgot : (s.tport p).got = [])
    (hskip : (s.tport p).skip = false) (hh : h.tag = 0) :
    s.takeWord p h = some (s.setTport p { s.tport p with got := [h] }) := by
  simp [State.takeWord, hgot, hskip, hh]

/-- The port with an answer behind the others, and no request in collection. -/
def State.answered (s : State) (p : Nat) (q : List TAnswer) (r : List ChWord) : State :=
  s.setTport p { got := [], skip := false, queue := q ++ [{ words := r, isResp := true }] }

/-- A data-last word ends the request, which is answered. -/
theorem State.takeWord_last {s t : State} {p : Nat} {h o : ChWord} {r : List ChWord} (hgot : (s.tport p).got = [h])
    (hskip : (s.tport p).skip = false) (ho : o.tag = 1) (hans : s.answerRequest [h, o] true = some (r, t)) :
    s.takeWord p o = some (t.answered p (s.tport p).queue r) := by
  simp [State.takeWord, State.answered, hgot, hskip, ho, hans]

/-! ## TABLE_REQUEST (R216, R218) -/

/-- The port takes the oldest word that waits, and says whether it goes on no further. -/
def State.tableStep (s : State) (p : Nat) : State × Bool :=
  match s.can.tblOut.get p [] with
  | [] => (s, true)
  | w :: ws =>
    if !s.hasTable || decide (64 ≤ (s.tport p).outst) then (s, true)
    else match s.takeWord p w with
      | none => (s, true)
      | some s' =>
        let n := (s.tport p).queue.length
        ({ s' with can.tblOut := s'.can.tblOut.set p ws [] }, decide (n < (s'.tport p).queue.length))

theorem tableRequest_eq (p : Nat) (s : State) :
    tableRequest p s = if (s.tableStep p).2 then (s.tableStep p).1 else ((s.tableStep p).1.tableStep p).1 := rfl

/-- `t` with the words `ws` left for the port. -/
def State.leaveWords (t : State) (p : Nat) (ws : List ChWord) : State :=
  { t with can.tblOut := t.can.tblOut.set p ws [] }

theorem State.leaveWords_tblOut (t : State) (p : Nat) (ws : List ChWord) :
    (t.leaveWords p ws).can.tblOut.get p [] = ws := SMap.get_set_same _ _ _ _

theorem State.tableStep_none (s : State) (p : Nat) (h : s.can.tblOut.get p [] = []) : s.tableStep p = (s, true) := by
  simp [State.tableStep, h]

section
variable {s t : State} {p : Nat} {w : ChWord} {ws : List ChWord} (htable : s.hasTable = true)
  (hout : (s.tport p).outst < 64) (hw : s.can.tblOut.get p [] = w :: ws) (htake : s.takeWord p w = some t)
include htable hout hw htake

theorem State.tableStep_takes : s.tableStep p =
    (t.leaveWords p ws, decide ((s.tport p).queue.length < (t.tport p).queue.length)) := by
  simp [State.tableStep, State.leaveWords, htable, Nat.not_le.2 hout, hw, htake]

end

/-- A first data word that waits alone is collected, and the port waits for the next. -/
theorem tableRequest_collects {s : State} {p : Nat} {h : ChWord} (htable : s.hasTable = true)
    (hout : (s.tport p).outst < 64) (hgot : (s.tport p).got = []) (hskip : (s.tport p).skip = false) (hh : h.tag = 0)
    (hw : s.can.tblOut.get p [] = [h]) :
    tableRequest p s = (s.setTport p { s.tport p with got := [h] }).leaveWords p [] := by
  have hstep := State.tableStep_takes htable hout hw (s.takeWord_first p h hgot hskip hh)
  rw [State.setTport_tport_same, decide_eq_false (Nat.lt_irrefl _)] at hstep
  rw [tableRequest_eq, hstep, if_neg Bool.false_ne_true, State.tableStep_none _ _ (State.leaveWords_tblOut _ _ _)]

/-- The port that has collected the first of two words. -/
def State.collecting (s : State) (p : Nat) (h o : ChWord) : State :=
  (s.setTport p { s.tport p with got := [h] }).leaveWords p [o]

theorem State.collecting_tport (s : State) (p : Nat) (h o : ChWord) :
    (s.collecting p h o).tport p = { s.tport p with got := [h] } :=
  State.setTport_tport_same s p _

/-- A request of two words is answered. -/
theorem tableRequest_answers {s t : State} {p : Nat} {h o : ChWord} {r : List ChWord} (htable : s.hasTable = true)
    (hout : (s.tport p).outst < 64) (hgot : (s.tport p).got = []) (hskip : (s.tport p).skip = false) (hh : h.tag = 0)
    (ho : o.tag = 1) (hw : s.can.tblOut.get p [] = [h, o])
    (hans : (s.collecting p h o).answerRequest [h, o] true = some (r, t)) :
    tableRequest p s = (t.answered p (s.tport p).queue r).leaveWords p [] := by
  have hfirst := State.tableStep_takes htable hout hw (s.takeWord_first p h hgot hskip hh)
  rw [State.setTport_tport_same, decide_eq_false (Nat.lt_irrefl _)] at hfirst
  have hport := s.collecting_tport p h o
  have htake := State.takeWord_last (s := s.collecting p h o) (by rw [hport]) (by rw [hport]; exact hskip) ho hans
  have hlast := State.tableStep_takes (s := s.collecting p h o) htable (by rw [hport]; exact hout)
    (State.leaveWords_tblOut _ _ _) htake
  rw [tableRequest_eq, hfirst, if_neg Bool.false_ne_true]
  refine (congrArg Prod.fst hlast).trans ?_
  rw [hport]

theorem State.answered_tport (t : State) (p : Nat) (q : List TAnswer) (r : List ChWord) (ws : List ChWord) :
    ((t.answered p q r).leaveWords p ws).tport p =
      { got := [], skip := false, queue := q ++ [{ words := r, isResp := true }] } :=
  SMap.get_set_same _ _ _ _

/-! ## TABLE_RESPONSE (R217, R218) -/

section
variable {s : State} {p : Nat} {a : TAnswer} {rest : List TAnswer} {w : ChWord} {ws : List ChWord}
  (hq : (s.tport p).queue = a :: rest) (ha : a.words = w :: ws)
  (hfence : s.domFenced (quadOf (tableTile p).1) = false) (hheld : s.heldOf (tableTile p).1 = none)
include hq ha hfence hheld

/-- Without credit the word waits. -/
theorem tableResponse_waits (hcredit : 2 ≤ (s.tile (tableTile p).1).load (tableTile p).2) : tableResponse p s = s := by
  simp [tableResponse, hq, ha, hfence, hheld, Nat.not_lt.2 hcredit]

/-- With credit the word goes to the tile, and the answer with its last word. -/
theorem tableResponse_sends (hcredit : (s.tile (tableTile p).1).load (tableTile p).2 < 2) : tableResponse p s =
    (s.setTport p { s.tport p with queue := if ws = [] then rest else { a with words := ws } :: rest }).pushIn
      (tableTile p).1 (tableTile p).2 w := by
  have hrun : State.heldOf
      (s.setTport p { s.tport p with queue := if ws = [] then rest else { a with words := ws } :: rest })
    (tableTile p).1 = none := hheld
  simp [tableResponse, hq, ha, hfence, hheld, hcredit, State.arrive, hrun]

end

/-- Settles O31: the words that the port takes one after the other, and the word that it sends. -/
theorem tableLookups : Obligations.TableLookups := by
  refine ⟨fun p h s htable hout hgot hskip hh => ⟨fun hw => ?_, fun o hw ho => ⟨fun hv => ?_, ?_⟩⟩,
    fun p a rest w ws s hq ha hfence hheld => ⟨fun hcredit => ?_, fun hcredit => ?_⟩⟩
  · have hport := State.setTport_tport_same s p.val { s.tport p.val with got := [h] }
    exact ⟨_, congrArg Host.Outcome.next (tableRequest_collects htable hout hgot hskip hh hw), congrArg TPort.got hport,
      (congrArg TPort.queue hport :), State.leaveWords_tblOut _ _ _⟩
  · have hans := State.answerRequest_invalid (s := s.collecting p.val h o) hh ho hv
    have hport := State.answered_tport (State.countLookup (s.collecting p.val h o) 3) p.val (s.tport p.val).queue
      (mkResp 8 0 3 0 []) []
    refine ⟨_, _, congrArg Host.Outcome.next (tableRequest_answers htable hout hgot hskip hh ho hw hans),
      congrArg TPort.got hport, State.leaveWords_tblOut _ _ _, congrArg TPort.queue hport, rfl, ?_⟩
    rw [State.countLookup_invalid]
    rfl
  · intro tb i a htb hi hop hpos hgen hv hmode hsize hlt ha hfirst hentry hlast hsound
    have hans := State.answerRequest_direct (s := s.collecting p.val h o) hh ho (htb ▸ hv) (htb ▸ hmode) hpos
    have hdirect := State.tblAnswer_direct (s := s.collecting p.val h o) htb hi hop hgen hmode hsize hlt ha hfirst hentry
      hlast hsound
    rw [hdirect] at hans
    exact ⟨_, congrArg Host.Outcome.next (tableRequest_answers htable hout hgot hskip hh ho hw hans),
      congrArg TPort.queue (State.answered_tport _ _ _ _ _), rfl⟩
  · exact congrArg Host.Outcome.next (tableResponse_waits hq ha hfence hheld hcredit)
  · exact ⟨_, congrArg Host.Outcome.next (tableResponse_sends hq ha hfence hheld hcredit), State.pushIn_inp_same _ _ _ _,
      congrArg TPort.queue (State.setTport_tport_same _ _ _), fun u hu => State.pushIn_tile_ne _ _ _ _ _ hu, rfl⟩

end Sys2Proof.Machine
end

section
namespace Sys2Proof.Machine

/-! ## Accesses of the table aperture (R221) -/

/-- A partial write of a sound sector is merged and meets no error (R206). -/
theorem State.mergeSect_sound (s : State) (k : Nat) (f : State → State) (h : s.soundSect k) :
    s.mergeSect k f = (true, f s) := by
  obtain ⟨hok, hraw⟩ := h
  have hsettle : s.settleSect k = s := by simp [State.settleSect, hraw]
  simp [State.mergeSect, hsettle, hok]

/-- A write of the aperture reaches its table at the offset that its address names. -/
theorem exec_apertureWrite (ini : Path) (addr : BitVec 48) (d : Word) (tb : Fin 64) (b : Nat) (s : State)
    (hrel : s.released = true) (haddr : addr.toNat = 0x80000000000 + tb.val * 0x40000000 + b) (hb : b < 0x40000000) :
    exec (.apertureWrite ini addr d) s = .next (s.apWrite (pathNi ini) 0 (tb.val * 0x40000000 + b) d) := by
  have hspace : addr.toNat / 0x1000000000 = 0x80 := by omega
  have hoff : addr.toNat % 0x1000000000 = tb.val * 0x40000000 + b := by omega
  refine congrArg Host.Outcome.next ?_
  simp [apertureWrite, hrel, hspace, hoff]

/-- An entry of 8 bytes in a sound sector is merged (R206, R221). -/
theorem State.writeEntry_sound (s : State) (t g e : Nat) (ws : List Word) (hsize : s.tSize t = 8)
    (h : s.soundSect ((s.tBase t g + e * 8) / 32)) :
    s.writeEntry t g e ws = (true, s.putWords ((s.tBase t g + e * 8) / 4) ws) := by
  simp [State.writeEntry, hsize, s.mergeSect_sound _ _ h]

section
variable {s : State} {ni a t e w : Nat} {d : Word} (htable : s.hasTable = true) (ht : a / 0x40000000 = t)
  (hb : a % 0x40000000 = 8 * e + 4 * w) (hw : w < 2) (hsize : s.tSize t = 8)
include htable ht hb hw hsize

/-- Beyond COUNT the write is an error, which TBL_AWDROP counts. -/
theorem State.apWrite_beyond (h : s.tCount t ≤ e) : s.apWrite ni 0 a d = s.apBad := by
  have hout : s.tCount t * 8 ≤ 8 * e + 4 * w := by omega
  simp [State.apWrite, htable, ht, hb, hsize, hout]

variable (hin : e < s.tCount t) (hgate : s.stackGate (s.tBase t (s.tStandby t) + e * 8) = .go)
include hin hgate

/-- Word 0 opens a collection. -/
theorem State.apWrite_opens (h0 : w = 0) (hnone : s.tbl.colls = []) : s.apWrite ni 0 a d =
    { s.ok with tbl.colls := [{ ni := ni, dev := 0, table := t, entry := e, words := [d] }] } := by
  subst h0
  have hout : ¬s.tCount t * 8 ≤ 8 * e := by omega
  have halign : a % 4 = 0 := by omega
  simp [State.apWrite, htable, ht, hb, hsize, hout, halign, hgate, State.dropOpen, hnone]

/-- Word 1 completes the collection, and the entry is written. -/
theorem State.apWrite_completes (c0 : Word) (h1 : w = 1)
    (hopen : s.tbl.colls = [{ ni := ni, dev := 0, table := t, entry := e, words := [c0] }])
    (hsound : s.soundSect ((s.tBase t (s.tStandby t) + e * 8) / 32)) : s.apWrite ni 0 a d =
      (State.putWords { s with tbl.colls := [] } ((s.tBase t (s.tStandby t) + e * 8) / 4) [c0, d]).ok := by
  subst h1
  have hout : ¬s.tCount t * 8 ≤ 8 * e + 4 := by omega
  have halign : a % 4 = 0 := by omega
  have hoff : (8 * e + 4) / 8 = e ∧ (8 * e + 4) % 8 = 4 := by omega
  have hwrite := State.writeEntry_sound { s with tbl.colls := [] } t (s.tStandby t) e [c0, d] hsize hsound
  simp [State.apWrite, htable, ht, hb, hsize, hout, halign, hoff, hgate, hopen, hwrite]
  rfl

end

/-! ## COLLECTION_TIMEOUT (R221) -/

theorem State.dropColl_colls (s : State) (c : Collect) : (s.dropColl c).tbl.colls = s.tbl.colls.erase c := rfl

theorem collectionTimeout_drops (ini : Path) (c : Collect) (s : State) (hopen : s.tbl.colls = [c])
    (hni : c.ni = pathNi ini) : collectionTimeout ini s = s.dropColl c := by
  simp [collectionTimeout, State.dropAny, hopen, hni]

/-- Settles O32: the write by its place in the table and by the word of the entry, and the timeout. -/
theorem tableAperture : Obligations.TableAperture := by
  refine ⟨fun ini addr d tb e w b s hrel htable haddr hb hbw hw hbits => ?_, fun ini c s hopen hni => ?_⟩
  · have hexec := exec_apertureWrite ini addr d tb b s hrel haddr hb
    have hsize : s.tSize tb.val = 8 := by simp [State.tSize, hbits]
    have ht : (tb.val * 0x40000000 + b) / 0x40000000 = tb.val := by omega
    have hoff : (tb.val * 0x40000000 + b) % 0x40000000 = 8 * e + 4 * w := by omega
    refine ⟨fun hout => ?_, fun hin hgate => ?_⟩
    · rw [State.apWrite_beyond htable ht hoff hw hsize hout] at hexec
      exact ⟨_, hexec, rfl, rfl, s.err.bump_counts Reg.tblAwdrop 1, rfl⟩
    · rw [Nat.mul_comm 8 e] at hgate
      refine ⟨fun h0 hnone => ?_, fun c0 a h1 ha hopen hsound => ?_⟩
      · rw [State.apWrite_opens htable ht hoff hw hsize hin hgate h0 hnone] at hexec
        exact ⟨_, hexec, rfl, rfl, rfl⟩
      · rw [Nat.mul_comm 8 e] at ha
        rw [State.apWrite_completes htable ht hoff hw hsize hin hgate c0 h1 hopen (ha ▸ hsound), ← ha] at hexec
        have hword := State.putWords_memWord { s with tbl.colls := [] } (a / 4) [c0, d]
        obtain ⟨m, hm⟩ := State.putWords_only { s with tbl.colls := [] } (a / 4) [c0, d]
        refine ⟨_, hexec, rfl, by rw [hm]; rfl, ?_, ?_, fun i h h' => ?_, by rw [hm]; rfl⟩
        · refine (hword (a / 4)).trans ?_
          simp
        · refine (hword (a / 4 + 1)).trans ?_
          simp
        · refine (hword i).trans (if_neg ?_)
          simp only [List.length_cons, List.length_nil]
          omega
  · exact ⟨_, congrArg Host.Outcome.next (collectionTimeout_drops ini c s hopen hni),
      by rw [State.dropColl_colls, hopen, List.erase_cons_head],
      (State.bump_orReg { s with tbl.colls := s.tbl.colls.erase c } Reg.tblAwdrop Reg.tblStat 4 2 (by decide) rfl).1, rfl⟩

end Sys2Proof.Machine
end

section
namespace Sys2Proof.Machine

/-! ## The only packet of the network, at its NI (R226) -/

section
variable {s : State} {n : Nat} {f : Flight} (hf : s.noc.flights = [f]) (hat : f.atNi n = true)
include hf hat

theorem State.headAt_sole (lay : Layer) (c : Nat) :
    s.headAt n lay c = if f.pk.lay = lay ∧ Packet.tc f.pk = c then some f else none := by
  by_cases h : f.pk.lay = lay ∧ Packet.tc f.pk = c
  · simp [State.headAt, hf, hat, h]
  · rw [if_neg h]
    have hno : (f.pk.lay == lay && Packet.tc f.pk == c && f.atNi n) = false := by simpa [hat] using h
    simp [State.headAt, hf, hno]

/-- The NI takes it for its opcode, whatever its class. -/
theorem State.ejected_sole {lay : Layer} {opc : Nat} (hlay : f.pk.lay = lay) (hopc : Packet.opc f.pk = opc)
    (waits : Flight → Bool) (hw : waits f = false) : s.ejected n lay opc waits = some f := by
  have hc := Packet.tc_lt f.pk
  have hall : [0, 1, 2, 3].filterMap (s.headAt n lay) = [f] := by
    rcases (show Packet.tc f.pk = 0 ∨ Packet.tc f.pk = 1 ∨ Packet.tc f.pk = 2 ∨ Packet.tc f.pk = 3 by omega) with
      h | h | h | h <;> simp [State.headAt_sole hf hat, hlay, h]
  simp [State.ejected, hall, hopc, hw]

theorem State.withEjected_sole {lay : Layer} {opc : Nat} (hlay : f.pk.lay = lay) (hopc : Packet.opc f.pk = opc)
    (waits : Flight → Bool) (k : Flight → State → State) (hw : waits f = false) (hk : opKind lay opc ≠ .reserved) :
    s.withEjected n lay opc waits k = k f (s.dropFlight f) := by
  have hkind : Packet.kind f.pk ≠ .reserved := by rwa [Packet.kind, hlay, hopc]
  simp [State.withEjected, State.ejected_sole hf hat hlay hopc waits hw, hkind]

end

/-- Taking a packet out changes the network alone. -/
theorem State.dropFlight_only (s : State) (f : Flight) : s.nocOnly (s.dropFlight f) := s.nocOnly_refl.setNoc _

theorem State.dropFlight_sole {s : State} {f : Flight} (hf : s.noc.flights = [f]) : (s.dropFlight f).noc.flights = [] := by
  simp [State.dropFlight, hf]

/-- The network alone changes: the stacks are as they were. -/
theorem State.nocOnly.mem {s t : State} (h : s.nocOnly t) : t.mem = s.mem := by rw [h.1]

theorem State.nocOnly.memWord {s t : State} (h : s.nocOnly t) (i : Nat) : t.memWord i = s.memWord i := by
  rw [State.memWord, h.mem, State.memWord]

/-! ## Tokens for an answer (R233) -/

/-- Whether a packet conforms is a matter of the release, of its bucket and of the time. -/
theorem State.conforms_bucket (s t : State) (n c : Nat) (hc : c < 4) (hrel : t.released = s.released)
    (htb : t.reg (Reg.niTb n c) = s.reg (Reg.niTb n c)) (hl : (t.ni n).level c = (s.ni n).level c)
    (htick : (t.ni n).tick = (s.ni n).tick) (hcyc : t.cyc = s.cyc) : t.conforms n c = s.conforms n c := by
  have hlevel (v : State) : ((v.refillNow n).ni n).level c = if v.nck - (v.ni n).tick = 0 then (v.ni n).level c
      else Machine.refill (v.reg (Reg.niTb n c)) ((v.ni n).level c) (v.nck - (v.ni n).tick) := by
    unfold State.refillNow
    simp only []
    split
    · rfl
    · rw [State.refillBy_level _ _ _ _ hc, State.setNi_ni_same]
      rfl
  have hnck : t.nck = s.nck := by rw [State.nck, hcyc, State.nck]
  rw [State.conforms, State.conforms, hlevel, hlevel, hrel, htb, hl, htick, hnck]

/-- Nothing holds back an answer in the class of `pk` at NI `n`: no packet is on its way or waits, the regulator lets it go,
and the router is not quiescing. -/
def State.letsGo (s : State) (n : Nat) (pk : Packet) : Prop :=
  s.noc.flights = [] ∧ (s.ni n).queue = [] ∧ s.conforms n (Packet.tc pk) = true ∧
    s.regB (rtStat pk.lay (n / 2)) 0 = false

/-- Registers and NIs as they were, without a packet in the network: nothing new holds an answer back. -/
theorem State.letsGo_congr {s t : State} {n : Nat} {pk : Packet} (h : s.letsGo n pk) (hfl : t.noc.flights = [])
    (hnis : t.noc.nis = s.noc.nis) (hcyc : t.cyc = s.cyc) (hrel : t.reg Reg.devStatus = s.reg Reg.devStatus)
    (htb : t.reg (Reg.niTb n (Packet.tc pk)) = s.reg (Reg.niTb n (Packet.tc pk)))
    (hst : t.reg (rtStat pk.lay (n / 2)) = s.reg (rtStat pk.lay (n / 2))) : t.letsGo n pk := by
  obtain ⟨-, hq, hconf, hstat⟩ := h
  have hni : t.ni n = s.ni n := by rw [State.ni, hnis, State.ni]
  refine ⟨hfl, by rw [hni]; exact hq, ?_, by rw [State.regB, hst]; exact hstat⟩
  rw [State.conforms_bucket s t n _ (Packet.tc_lt pk) (by rw [State.released, State.regB, hrel]; rfl) htb
    (by rw [hni]) (by rw [hni]) hcyc]
  exact hconf

/-- Once the only packet has been taken out, nothing but the regulator and the router of the NI can hold back an answer. -/
theorem State.letsGo_alone {s : State} {n : Nat} {f : Flight} (hf : s.noc.flights = [f]) (hq : (s.ni n).queue = [])
    (hconf : s.conforms n (Packet.tc f.pk) = true) (hst : s.regB (rtStat f.pk.lay (n / 2)) 0 = false) :
    (s.dropFlight f).letsGo n f.pk := by
  refine ⟨State.dropFlight_sole hf, hq, ?_, hst⟩
  rw [State.conforms_bucket s (s.dropFlight f) n _ (Packet.tc_lt f.pk) rfl rfl rfl rfl rfl]
  exact hconf

/-- Nor does a change of the stacks or of the last response. -/
theorem State.letsGo.elsewhere {s : State} {n : Nat} {pk : Packet} (h : s.letsGo n pk) (m : Mem) (r : Resp) :
    State.letsGo { s with mem := m, resp := r } n pk :=
  State.letsGo_congr h h.1 rfl rfl rfl rfl rfl

/-! ## The answer of an NI (R227, R229) -/

/-- A launch changes the network, and the statistics of its NI. -/
theorem State.launch_only (s : State) (n dst : Nat) (pk : Packet) (conf : Bool) : s.nocOnly (s.launch n dst pk conf) := by
  unfold State.launch
  simp only []
  refine State.nocOnly.setNoc ?_ _
  split
  · exact (State.statSent_only _ _ _ _).1.setNoc _
  · exact (State.statSent_only _ _ _ _).1

theorem State.spend_nocOnly (s : State) (n c k : Nat) : s.nocOnly (s.spend n c k) := by
  obtain ⟨l, h⟩ := s.spend_only n c k
  rw [h]
  exact s.nocOnly_refl.setNoc _

theorem NI.level_queue (x : NI) (q : List (Nat × Packet)) (c : Nat) : ({ x with queue := q } : NI).level c = x.level c := by
  match c with
  | 0 | 1 | 2 | _ + 3 => rfl

/-- A packet alone in the network, at an NI that lets it go, enters the router. -/
theorem State.send_enters (s : State) (n dst : Nat) (pk : Packet) (h : s.letsGo n pk) (hone : Packet.flits pk = 1)
    (hn : n < 64) : s.nocOnly (s.send n dst pk) ∧ ∃ v : State, ∃ g, (s.send n dst pk).noc.flights = [g] ∧
      g.flits.map Flit.at_ = [.router (n / 2) (4 + n % 2)] ∧ g.pk = { pk with hdr := v.packetHdr n dst pk true } := by
  obtain ⟨hfl, hq, hconf, hstat⟩ := h
  have hni : (s.soleAt n dst pk).ni n = { s.ni n with queue := [(dst, pk)] } := State.setNi_ni_same _ _ _
  have hconf' : (s.soleAt n dst pk).conforms n (Packet.tc pk) = true := by
    rw [State.conforms_bucket s (s.soleAt n dst pk) n _ (Packet.tc_lt pk) rfl rfl (by rw [hni, NI.level_queue])
      (by rw [hni]) rfl]
    exact hconf
  have hroom : (s.soleAt n dst pk).room pk.lay (Packet.tc pk) (n / 2) (4 + n % 2) 1 = true := by
    have hfl' : (s.soleAt n dst pk).noc.flights = [] := hfl
    simp [State.room, State.inBuffer, hfl']
  have hmay : (s.soleAt n dst pk).mayLaunch n pk = some true := by
    have hstat' : (s.soleAt n dst pk).regB (rtStat pk.lay (n / 2)) 0 = false := hstat
    simp [State.mayLaunch, hone, hstat', hroom, hconf']
  obtain ⟨u, hu, hsend⟩ := s.send_launched n dst pk true hq hmay
  rw [if_pos rfl] at hu
  obtain ⟨v, hv⟩ : ∃ v, v = (s.soleAt n dst pk).spend n (Packet.tc pk) (Packet.flits pk) := ⟨_, rfl⟩
  rw [← hv] at hu
  have hvfl : v.noc.flights = [] := by
    obtain ⟨l, hl⟩ := (s.soleAt n dst pk).spend_only n (Packet.tc pk) (Packet.flits pk)
    rw [hv, hl]
    exact hfl
  obtain ⟨hadd, -, -⟩ := v.launch_adds n dst pk true
  obtain ⟨hplace, -, -⟩ := v.flightOf_fields n dst pk true hn
  rw [hvfl, List.nil_append, ← hu] at hadd
  rw [hone, List.replicate_one] at hplace
  rw [hsend]
  refine ⟨State.nocOnly.setNoc ?_ _, v, _, hadd, hplace, rfl⟩
  have hsole : s.nocOnly (s.soleAt n dst pk) := s.nocOnly_refl.setNoc _
  rw [hu, hv]
  exact (hsole.trans (State.spend_nocOnly _ _ _ _)).trans (State.launch_only _ _ _ _ _)

/-- The NI completes a response in the fields of its route, its source and CONF alone (Table NC-2). -/
theorem State.packetHdr_keeps (s : State) (n dst : Nat) (pk : Packet) (conf : Bool) (hi lo : Nat)
    (hk : Packet.kind pk = .response) (hlo : 38 ≤ lo) (hhi : hi < 61) :
    bitsOf (s.packetHdr n dst pk conf).toNat hi lo = bitsOf pk.hdr.toNat hi lo := by
  have hput (v : Nat) : bitsOf (hdrPut (hdrPut pk.hdr 29 0 v) 37 32 n).toNat hi lo = bitsOf pk.hdr.toNat hi lo := by
    rw [bitsOf_hdrPut_ne _ _ _ _ _ _ (by decide) (by omega), bitsOf_hdrPut_ne _ _ _ _ _ _ (by decide) (by omega)]
  unfold State.packetHdr
  cases pk.lay with
  | c => exact hput _
  | d => simp only [hk, if_true, bitsOf_hdrPut_ne _ 63 61 _ hi lo (by decide) (.inl hhi), hput]

/-- The response to a request (R227): one flit. -/
def replyPk (pk : Packet) (opc status pmask : Nat) (b : BitVec 512) : Packet :=
  let h := hdrPut pk.hdr 47 44 opc
  let h := match pk.lay with
    | .c => hdrPut h 63 48 status
    | .d => hdrPut (hdrPut (hdrPut h 60 58 status) 57 50 pmask) 49 48 0
  { pk with hdr := h, body := [b] }

theorem State.reply_one (s : State) (n : Nat) (pk : Packet) (opc status pmask : Nat) (b : BitVec 512) :
    s.reply n pk opc status pmask [b] = s.send n (Packet.src pk) (replyPk pk opc status pmask b) := rfl

/-- A response has the class and the TAG of its request, and the opcode and the status that were given. -/
theorem replyPk_fields (pk : Packet) (opc status pmask : Nat) (b : BitVec 512) (ho : opc < 16) (hs : status < 8) :
    Packet.tc (replyPk pk opc status pmask b) = Packet.tc pk ∧
      Packet.tag (replyPk pk opc status pmask b) = Packet.tag pk ∧
      Packet.opc (replyPk pk opc status pmask b) = opc ∧ Packet.status (replyPk pk opc status pmask b) = status ∧
      Packet.flits (replyPk pk opc status pmask b) = 1 := by
  simp only [replyPk, Packet.tc, Packet.tag, Packet.opc, Packet.status, Packet.flits, Packet.f]
  cases pk.lay <;>
    simp (disch := decide) [bitsOf_hdrPut_same, bitsOf_hdrPut_ne, Nat.mod_eq_of_lt ho, Nat.mod_eq_of_lt hs]

/-- In `t` the network holds the answer of NI `n` to `pk` alone, in the local input of the NI's router: opcode, status, TAG
and one flit of data. -/
def Packet.answeredIn (pk : Packet) (t : State) (n opc status : Nat) (b : BitVec 512) : Prop :=
  ∃ g, t.noc.flights = [g] ∧ g.flits.map Flit.at_ = [.router (n / 2) (4 + n % 2)] ∧ Packet.opc g.pk = opc ∧
    Packet.status g.pk = status ∧ Packet.tag g.pk = Packet.tag pk ∧ g.pk.lay = pk.lay ∧ g.pk.body = [b]

theorem Packet.answeredIn.body {pk : Packet} {t : State} {n opc status : Nat} {b : BitVec 512}
    (h : Packet.answeredIn pk t n opc status b) : ∀ g ∈ t.noc.flights, g.pk.body = [b] := by
  obtain ⟨g, hfl, -, -, -, -, -, hbody⟩ := h
  simpa [hfl] using hbody

/-- An answer of one flit that nothing holds back enters the NI's router, and no other block changes. -/
theorem State.reply_enters (s : State) (n : Nat) (pk : Packet) (opc status pmask : Nat) (b : BitVec 512)
    (h : s.letsGo n pk) (hn : n < 64) (ho : opc < 16) (hk : opKind pk.lay opc = .response) (hs : status < 8) :
    s.nocOnly (s.reply n pk opc status pmask [b]) ∧
      Packet.answeredIn pk (s.reply n pk opc status pmask [b]) n opc status b := by
  obtain ⟨htc, htag, hopc, hstatus, hflits⟩ := replyPk_fields pk opc status pmask b ho hs
  have hresp : Packet.kind (replyPk pk opc status pmask b) = .response := by
    rw [Packet.kind, hopc]
    exact hk
  have hgo : s.letsGo n (replyPk pk opc status pmask b) := by
    unfold State.letsGo
    rw [htc]
    exact h
  obtain ⟨honly, v, g, hfl, hplace, hg⟩ := s.send_enters n (Packet.src pk) _ hgo hflits hn
  have hfield (hi lo : Nat) (hlo : 38 ≤ lo) (hhi : hi < 61) :
      bitsOf g.pk.hdr.toNat hi lo = bitsOf (replyPk pk opc status pmask b).hdr.toNat hi lo := by
    rw [hg]
    exact v.packetHdr_keeps n _ _ true hi lo hresp hlo hhi
  have hlay : g.pk.lay = pk.lay := by
    rw [hg]
    rfl
  refine ⟨honly, g, hfl, hplace, ?_, ?_, ?_, hlay, by rw [hg]; rfl⟩
  · exact (hfield 47 44 (by decide) (by decide)).trans hopc
  · rw [← hstatus]
    simp only [Packet.status, hlay, show (replyPk pk opc status pmask b).lay = pk.lay from rfl]
    cases pk.lay with
    | c => exact hfield 50 48 (by decide) (by decide)
    | d => exact hfield 60 58 (by decide) (by decide)
  · exact (hfield 43 38 (by decide) (by decide)).trans htag

end Sys2Proof.Machine
end

section
namespace Sys2Proof.Machine

/-! ## Addresses of the stacks (R19, R203, Table NC-1) -/

theorem spaceOf_stack {a : Nat} (h : a < 0x800000000) : spaceOf a = .stack := by simp [spaceOf, h]

theorem homeNi_stack {a : Nat} (h : a < 0x800000000) : homeNi a = 8 + 8 * (a / 0x400000000) + a / 256 % 8 := by
  simp [homeNi, spaceOf_stack h]

/-- A line of the stacks is no line of the table aperture. -/
theorem lineAddr_plain {a : Nat} (h : a < 0x800000000) : (a / 0x1000000000 == 0x80) = false := by
  rw [Nat.div_eq_of_lt (by omega)]
  rfl

/-! ## Line requests at the NI of their pseudo-channel (Table NC-3) -/

section
variable {s : State} {n : Nat} {f : Flight} {a : Nat} (hf : s.noc.flights = [f]) (hat : f.atNi n = true)
  (hlay : f.pk.lay = .d) (ha : lineAddr f.pk = a) (hlt : a < 0x800000000)
include hf hat hlay ha hlt

/-- A request for a line of the stacks does not go to the Shaga engine. -/
theorem State.lineRemote_stack {opc : Nat} (hopc : Packet.opc f.pk = opc) (hw : s.lineWaits f.pk = false)
    (k : State → State) : s.lineRemote n opc k = k s := by
  have he := State.ejected_sole hf hat hlay hopc (fun f => s.lineWaits f.pk) hw
  simp [State.lineRemote, he, ha, spaceOf_stack hlt]

end

/-- A stack that performs the access does not make the packet wait. -/
theorem State.lineWaits_go {s : State} {pk : Packet} (h : s.stackGate (lineAddr pk) = .go) : s.lineWaits pk = false := by
  have hw : s.lineWaits pk = (decide (lineAddr pk < 0x800000000) && s.stackGate (lineAddr pk) == .wait) := rfl
  simp [hw, h]

theorem lineHome_stack {n : Nat} {pk : Packet} {a : Nat} (ha : lineAddr pk = a) (hlt : a < 0x800000000)
    (hn : n = homeNi a) : lineHome n pk = true := by
  simp [lineHome, ha, hn, homeNi_stack hlt]

theorem State.lineRefused_stack (s : State) (n : Nat) {pk : Packet} {a : Nat} (ha : lineAddr pk = a)
    (hlt : a < 0x800000000) : s.lineRefused n pk = s := by
  simp [State.lineRefused, ha, lineAddr_plain hlt]

/-- An LRD of one line of sound sectors reads its sixteen words, without poison (R205). -/
theorem State.lineRead_sound {s : State} {pk : Packet} {a : Nat} (ha : lineAddr pk = a) (hlt : a < 0x800000000)
    (halign : a % 64 = 0) (hone : bitsOf (pk.body.headD 0#512).toNat 49 48 = 0) (hgate : s.stackGate a = .go)
    (h0 : s.soundSect (a / 32)) (h1 : s.soundSect (a / 32 + 1)) :
    s.lineRead pk = (0, 0, [wordsFlit (s.sectWords (a / 32) ++ s.sectWords (a / 32 + 1))], s) := by
  have hline : a / 64 * 64 = a := by omega
  have hlines : s.readLines a 1 = ([wordsFlit (s.sectWords (a / 32) ++ s.sectWords (a / 32 + 1))], 0, s) := by
    simp [State.readLines, State.readSect_sound s _ h0, State.readSect_sound s _ h1]
  have hplain : s.apertureGone pk = false := by simp [State.apertureGone, ha, lineAddr_plain hlt]
  simp only [State.lineRead, hplain, ha, hline, hone, hgate, hlines, if_neg (Nat.not_le.2 hlt), Bool.false_eq_true, if_false]

/-! ## The store of a whole line (R206) -/

theorem flitWords_getD (b : BitVec 512) (i : Nat) (h : i < 16) :
    (flitWords b).getD i 0#32 = word (bitsOf b.toNat (32 * i + 31) (32 * i)) := by
  simp [flitWords, h]

section
variable {s : State} {k : Nat} {ws : List Word} (hlen : ws.length = 16)
  (h0 : (s.reg (Reg.memInj (stackOf (32 * k)))).bit 0 = false)
  (h1 : (s.reg (Reg.memInj (stackOf (32 * (k + 1))))).bit 0 = false)
include h0 h1

/-- Two sectors that are written one after the other change the memory of the stacks alone. -/
theorem State.writeSects_only : ∃ m, (s.writeSect k (ws.take 8)).writeSect (k + 1) (ws.drop 8) = { s with mem := m } := by
  obtain ⟨m, hm⟩ := State.writeSect_only (ws := ws.take 8) h0
  rw [hm]
  obtain ⟨m', hm'⟩ := State.writeSect_only (s := { s with mem := m }) (k := k + 1) (ws := ws.drop 8) h1
  exact ⟨m', hm'⟩

include hlen

/-- They hold the sixteen words. -/
theorem State.writeSects_memWord (i : Nat) : ((s.writeSect k (ws.take 8)).writeSect (k + 1) (ws.drop 8)).memWord i =
    if i / 8 = k ∨ i / 8 = k + 1 then ws.getD (i - 8 * k) 0#32 else s.memWord i := by
  obtain ⟨m, hm⟩ := State.writeSect_only (ws := ws.take 8) h0
  have h1' : ((s.writeSect k (ws.take 8)).reg (Reg.memInj (stackOf (32 * (k + 1))))).bit 0 = false := by
    rw [hm]
    exact h1
  rw [State.writeSect_memWord h1' (by simp [hlen]), State.writeSect_memWord h0 (by simp [hlen])]
  by_cases hk1 : i / 8 = k + 1
  · rw [if_pos hk1, if_pos (.inr hk1), List.getD_eq_getElem?_getD, List.getElem?_drop, List.getD_eq_getElem?_getD,
      show 8 + i % 8 = i - 8 * k by omega]
  · rw [if_neg hk1]
    by_cases hk : i / 8 = k
    · rw [if_pos hk, if_pos (.inl hk), List.getD_eq_getElem?_getD, List.getElem?_take_of_lt (Nat.mod_lt _ (by decide)),
        List.getD_eq_getElem?_getD, show i % 8 = i - 8 * k by omega]
    · rw [if_neg hk, if_neg (by tauto)]

end

/-- LWR and LWRP of one whole line without poison write its two sectors. -/
theorem State.writeLines_whole {s : State} {pk : Packet} {h line : BitVec 512} {a : Nat} (hbody : pk.body = [h, line])
    (ha : bitsOf h.toNat 47 0 = a) (halign : a % 64 = 0) (hen : bitsOf h.toNat 127 64 = 2 ^ 64 - 1)
    (hpm : Packet.f pk 57 50 = 0) : s.writeLines pk = (true, (s.writeSect (a / 32) ((flitWords line).take 8)).writeSect
      (a / 32 + 1) ((flitWords line).drop 8)) := by
  have hline : a / 64 * 64 = a := by omega
  simp [State.writeLines, State.writeHalf, hbody, ha, hline, hen, hpm]

theorem stackOf_line {a : Nat} (halign : a % 64 = 0) :
    stackOf (32 * (a / 32)) = stackOf a ∧ stackOf (32 * (a / 32 + 1)) = stackOf a := by
  unfold stackOf
  omega

/-- The sixteen words of `line` stand at byte `a`; the other words are those of `s` (R206). -/
theorem State.writeLine_memWord {s : State} {a : Nat} (halign : a % 64 = 0) (line : BitVec 512)
    (hinj : (s.reg (Reg.memInj (stackOf a))).bit 0 = false) (i : Nat) :
    ((s.writeSect (a / 32) ((flitWords line).take 8)).writeSect (a / 32 + 1) ((flitWords line).drop 8)).memWord i =
      if i / 16 = a / 64 then word (bitsOf line.toNat (32 * (i % 16) + 31) (32 * (i % 16))) else s.memWord i := by
  obtain ⟨hs0, hs1⟩ := stackOf_line halign
  rw [State.writeSects_memWord (by simp [flitWords]) (by rwa [hs0]) (by rwa [hs1])]
  by_cases hi : i / 16 = a / 64
  · rw [if_pos hi, if_pos (by omega), show i - 8 * (a / 32) = i % 16 by omega,
      flitWords_getD _ _ (Nat.mod_lt _ (by decide))]
  · rw [if_neg hi, if_neg (by omega)]

section
variable {s : State} {n : Nat} {f : Flight} {a : Nat} (hf : s.noc.flights = [f]) (hat : f.atNi n = true)
  (hlay : f.pk.lay = .d) (ha : lineAddr f.pk = a) (halign : a % 64 = 0) (hlt : a < 0x800000000) (hn : n = homeNi a)
  (hfence : s.niFenced n = false) (hgate : s.stackGate a = .go)
include hf hat hlay ha halign hlt hn hfence hgate

theorem lrd_line (hopc : Packet.opc f.pk = 1) (hone : bitsOf (f.pk.body.headD 0#512).toNat 49 48 = 0)
    (h0 : s.soundSect (a / 32)) (h1 : s.soundSect (a / 32 + 1)) :
    lrd n s = (s.dropFlight f).reply n f.pk 8 0 0 [wordsFlit (s.sectWords (a / 32) ++ s.sectWords (a / 32 + 1))] := by
  have hw : s.lineWaits f.pk = false := State.lineWaits_go (ha ▸ hgate)
  have hread := State.lineRead_sound (s := s.dropFlight f) ha hlt halign hone hgate h0 h1
  rw [lrd, State.withEjected_sole hf hat hlay hopc (fun f => s.lineWaits f.pk) _ hw (by decide)]
  have hfence' : (s.dropFlight f).niFenced n = false := hfence
  simp only [hfence', lineHome_stack ha hlt hn, State.lineRefused_stack _ n ha hlt, hread]
  rfl

/-- LWR and LWRP of one whole line: the store, and what LWR answers. -/
theorem State.lineWrite_line {h line : BitVec 512} {opc : Nat} (posted : Bool) (hopc : Packet.opc f.pk = opc)
    (hk : opKind .d opc ≠ .reserved) (hbody : f.pk.body = [h, line]) (hen : bitsOf h.toNat 127 64 = 2 ^ 64 - 1)
    (hpm : Packet.f f.pk 57 50 = 0) (hinj : (s.reg (Reg.memInj (stackOf a))).bit 0 = false) :
    ∃ m, (∀ i, ({ s with mem := m } : State).memWord i =
        if i / 16 = a / 64 then word (bitsOf line.toNat (32 * (i % 16) + 31) (32 * (i % 16))) else s.memWord i) ∧
      s.lineWrite n opc posted =
        if posted then { s.dropFlight f with mem := m }
        else State.reply { s.dropFlight f with mem := m } n f.pk 9 0 0 [0#512] := by
  have hw : s.lineWaits f.pk = false := State.lineWaits_go (ha ▸ hgate)
  have hfence' : (s.dropFlight f).niFenced n = false := hfence
  have hgate' : (s.dropFlight f).stackGate a = .go := hgate
  have hplain : (s.dropFlight f).apertureGone f.pk = false := by simp [State.apertureGone, ha, lineAddr_plain hlt]
  have hword : bitsOf h.toNat 47 0 = a := by rw [← ha, lineAddr, hbody]; rfl
  obtain ⟨hs0, hs1⟩ := stackOf_line halign
  obtain ⟨m, hm⟩ := State.writeSects_only (s := s.dropFlight f) (k := a / 32) (ws := flitWords line)
    (by rw [hs0]; exact hinj) (by rw [hs1]; exact hinj)
  have hwords := State.writeLine_memWord (s := s.dropFlight f) halign line hinj
  have hstore : (s.dropFlight f).lineStore f.pk = (0, { s.dropFlight f with mem := m }) := by
    simp only [State.lineStore, hplain, ha, hgate', State.writeLines_whole hbody hword halign hen hpm, hm,
      if_neg (Nat.not_le.2 hlt), Bool.false_eq_true, if_false, if_true]
  rw [hm] at hwords
  refine ⟨m, hwords, ?_⟩
  rw [State.lineWrite, State.withEjected_sole hf hat hlay hopc (fun f => s.lineWaits f.pk) _ hw hk]
  simp only [hfence', lineHome_stack ha hlt hn, State.lineRefused_stack _ n ha hlt, hstore]
  rfl

end

/-- Settles O37: the NI takes the only packet of the network, a sound line reads as its sixteen words and a whole line
is written as two sectors, and the answer finds regulator and router free. -/
theorem requestsOfLines : Obligations.RequestsOfLines := by
  unfold Obligations.RequestsOfLines
  intro n f h a s hf hat hlay hhead hah halign hlt hn hfence hgate h0 h1 hq hconf hst answered
  have hheadD : f.pk.body.headD 0#512 = h := by rw [List.headD_eq_head?_getD, hhead]; rfl
  have ha : lineAddr f.pk = a := by rw [lineAddr, hheadD, hah]
  have hw : s.lineWaits f.pk = false := State.lineWaits_go (ha ▸ hgate)
  have hgo : (s.dropFlight f).letsGo n f.pk := State.letsGo_alone hf hq hconf (by rw [hlay]; exact hst)
  have hn64 : n.val < 64 := by omega
  refine ⟨fun hopc hone => ?_, fun line hbody hen hpm hinj => ⟨fun hopc => ?_, fun hopc => ?_⟩⟩
  · obtain ⟨honly, hans⟩ := State.reply_enters _ n f.pk 8 0 0
      (wordsFlit (s.sectWords (a / 32) ++ s.sectWords (a / 32 + 1))) hgo hn64 (by decide) (by rw [hlay]; rfl) (by decide)
    have hlrd := lrd_line hf hat hlay ha halign hlt hn hfence hgate hopc (by rw [hheadD]; exact hone) h0 h1
    obtain ⟨g, hfl, hplace, hop, hstatus, htag, -, -⟩ := id hans
    exact ⟨_, congrArg Host.Outcome.next ((State.lineRemote_stack hf hat hlay ha hlt hopc hw _).trans hlrd),
      ⟨g, hfl, hplace, hop, hstatus, htag⟩, honly.mem, hans.body⟩
  · obtain ⟨m, hm, hlwr⟩ := State.lineWrite_line hf hat hlay ha halign hlt hn hfence hgate false hopc (by decide)
      hbody hen hpm hinj
    obtain ⟨honly, g, hfl, hplace, hop, hstatus, htag, -, -⟩ := State.reply_enters _ n f.pk 9 0 0 0#512
      (hgo.elsewhere m (s.dropFlight f).resp) hn64 (by decide) (by rw [hlay]; rfl) (by decide)
    refine ⟨_, congrArg Host.Outcome.next ((State.lineRemote_stack hf hat hlay ha hlt hopc hw _).trans hlwr),
      ⟨g, hfl, hplace, hop, hstatus, htag⟩, fun i => ?_⟩
    exact (honly.memWord i).trans (hm i)
  · obtain ⟨m, hm, hlwrp⟩ := State.lineWrite_line hf hat hlay ha halign hlt hn hfence hgate true hopc (by decide)
      hbody hen hpm hinj
    exact ⟨_, congrArg Host.Outcome.next ((State.lineRemote_stack hf hat hlay ha hlt hopc hw _).trans hlwrp),
      State.dropFlight_sole hf, hm, rfl⟩

end Sys2Proof.Machine
end

section
namespace Sys2Proof.Machine

/-! ## A word of the stacks (R205, R206) -/

theorem serves_home {n a : Nat} (hn : n = homeNi a) : serves n a = true := by simp [serves, hn]

theorem spxAddr_stack {a : Nat} (hlt : a < 0x800000000) : spxAddr a = false := by simp [spxAddr, spaceOf_stack hlt]

/-- No address of the stacks is a mode register that passes a fence. -/
theorem State.modePasses_stack (s : State) {a : Nat} (hlt : a < 0x800000000) :
    s.modePasses (a - 0x200000000000) = false := by
  rw [Nat.sub_eq_zero_of_le (by omega)]
  have hne (g : Nat) : (0 == Reg.spgGcfg g) = false := beq_false_of_ne (by simp only [Reg.spgGcfg]; omega)
  simp [State.modePasses, hne]

theorem State.memWaits_stack (s : State) {a : Nat} (hlt : a < 0x800000000) (h : s.stackGate a ≠ .wait) :
    s.memWaits a = false := by
  simpa [State.memWaits, spaceOf_stack hlt] using h

/-- The NI of a pseudo-channel is fenced with the domain of its stack (R236). -/
theorem State.stackGate_fenced {s : State} {n a : Nat} (hlt : a < 0x800000000) (hn : n = homeNi a)
    (h : s.niFenced n = true) : s.stackGate a = .fenced := by
  have hdom : niDomain n = some (8 + stackOf a) := by
    have hall : ∀ st < 2, ∀ c < 8, niDomain (8 + 8 * st + c) = some (8 + st) := by decide
    rw [hn, homeNi_stack hlt]
    exact hall _ (by omega) _ (Nat.mod_lt _ (by decide))
  have hst : 8 + stackOf a < 10 := by unfold stackOf; omega
  have hhas : s.hasDom (8 + stackOf a) = s.hasStack (stackOf a) := by
    rw [State.hasDom, if_neg (by omega), if_pos hst, State.hasStack]
  rw [State.niFenced, hdom] at h
  simp only [hhas, Bool.and_eq_true] at h
  simp [State.stackGate, h]

section
variable {s : State} {a : Nat} (hgate : s.stackGate a = .go) (hsect : s.soundSect (a / 32))
include hgate hsect

theorem stackRead_sound : stackRead a s = s.ok (s.memWord (a / 4)) := by
  simp [stackRead, hgate, State.readSect_sound s _ hsect]

theorem stackWrite_sound (d : Word) : stackWrite a d s = (s.setMemWord (a / 4) d).ok := by
  simp [stackWrite, hgate, State.mergeSect_sound s _ _ hsect]

end

theorem State.globalAccess_stack (s : State) (w : Asker) (write : Bool) (tc : Nat) {a : Nat} (d : Word)
    (hlt : a < 0x800000000) (halign : a % 4 = 0) :
    s.globalAccess w write tc a d = if write then stackWrite a d s else stackRead a s := by
  simp [State.globalAccess, State.globalAccess0, spaceOf_stack hlt, halign]

theorem State.setMemWord_memWord (s : State) (i j : Nat) (d : Word) :
    (s.setMemWord i d).memWord j = if j = i then d else s.memWord j := by
  by_cases h : j = i
  · rw [if_pos h, h, State.setMemWord_same]
  · rw [if_neg h, State.setMemWord_ne _ _ _ _ h]

/-! ## The statistics of a response (R235) -/

theorem histBin_le (t hshift : Nat) : histBin t hshift ≤ 7 := by
  unfold histBin
  split
  · exact Nat.zero_le 7
  · exact Nat.min_le_left _ _

/-- Measuring a latency leaves every register but the statistics of the NIs. -/
theorem State.statLatency_reg (s : State) (n tc t : Nat) (b : Bool) (a : Nat) (ha : a < 0x121000 ∨ a % 0x100 < 0x40) :
    (s.statLatency n tc t b).reg a = s.reg a := by
  have hist (m : Nat) (hm : m ≤ 7) : a ≠ Reg.niShist n m := by simp only [Reg.niShist]; omega
  have hmin : a ≠ Reg.niSlmin n := by simp only [Reg.niSlmin]; omega
  have hmax : a ≠ Reg.niSlmax n := by simp only [Reg.niSlmax]; omega
  have hlo : a ≠ Reg.niSlsumLo n := by simp only [Reg.niSlsumLo]; omega
  have hhi : a ≠ Reg.niSlsumHi n := by simp only [Reg.niSlsumHi]; omega
  have hcnt : a ≠ Reg.niSlcnt n := by simp only [Reg.niSlcnt]; omega
  unfold State.statLatency
  simp only []
  split_ifs
  · rfl
  · exact State.bump_reg_ne _ _ _ _ (hist 7 (by decide))
  · rw [State.bump_reg_ne _ _ _ _ (hist _ (histBin_le _ _)), State.bump_reg_ne _ _ _ _ hcnt, State.bump64,
      State.setReg_reg_ne _ _ _ _ hhi, State.setReg_reg_ne _ _ _ _ hlo, State.setReg_reg_ne _ _ _ _ hmax,
      State.setReg_reg_ne _ _ _ _ hmin]

/-- So does the arrival of a response, and the packets and the NIs stay as they are. -/
theorem State.asked_keeps (s : State) (w : Asker) (st : Nat) :
    (s.asked w st).noc.flights = s.noc.flights ∧ (s.asked w st).noc.nis = s.noc.nis ∧
      ∀ a, a < 0x121000 ∨ a % 0x100 < 0x40 → (s.asked w st).reg a = s.reg a := by
  unfold State.asked
  split
  · exact ⟨rfl, rfl, fun _ _ => rfl⟩
  next q _ =>
    obtain ⟨-, hnoc⟩ := State.statLatency_only { s with noc.asks := s.noc.asks.erase q } q.2.1 q.2.2.1
      (if st = 4 then 15000 else (s.cyc - q.2.2.2) * 6 / 5) (st == 4)
    exact ⟨by rw [hnoc], by rw [hnoc], fun a ha => State.statLatency_reg _ _ _ _ _ _ ha⟩

theorem State.letsGo.asked {s : State} {n : Nat} {pk : Packet} (h : s.letsGo n pk) (hlay : pk.lay = .c) (hn : n < 64)
    (w : Asker) (st : Nat) : (s.asked w st).letsGo n pk := by
  obtain ⟨hfl, hnis, hreg⟩ := s.asked_keeps w st
  have htc := Packet.tc_lt pk
  refine State.letsGo_congr h (hfl.trans h.1) hnis (by rw [(s.asked_only w st).1]) (hreg _ (.inl (by decide)))
    (hreg _ (.inr ?_)) (hreg _ (.inl ?_))
  · simp only [Reg.niTb]
    omega
  · simp only [rtStat, rtReg, hlay, Reg.crtStat]
    omega

/-! ## Requests of the mesh for a word of the stacks (Table NC-3) -/

/-- The answer of the NI to a request of the C layer is sent at once, and no other block changes. -/
theorem State.settle_flight {s : State} {n : Nat} {pk : Packet} (h : s.letsGo n pk) (hlay : pk.lay = .c) (hn : n < 64)
    (hquiet : s.quiet = true) (st : Nat) (d : Word) (hst : st < 8) :
    s.nocOnly ((s.answer (.flight n pk) st d).settle) ∧
      Packet.answeredIn pk ((s.answer (.flight n pk) st d).settle) n 8 st (BitVec.ofNat 512 d.toNat) := by
  obtain ⟨w, hw⟩ : ∃ w, w = Asker.flight n pk := ⟨_, rfl⟩
  have hnone : s.answers = [] := (s.quiet_iff.1 hquiet).1
  have hgo := h.asked hlay hn w st
  obtain ⟨honly, hans⟩ := State.reply_enters _ n pk 8 st 0 (BitVec.ofNat 512 d.toNat) hgo hn (by decide)
    (by rw [hlay]; rfl) hst
  have hall := (s.asked_only w st).trans honly
  have hdeliver : (s.asked w st).deliverAnswer w st d =
      (s.asked w st).reply n pk 8 st 0 [BitVec.ofNat 512 d.toNat] := by
    rw [hw]
    simp only [State.deliverAnswer, State.flightAnswer, hlay]
  have hanswer : s.answer w st d = { s with answers := [(w, st, d)] } := by
    rw [hw]
    change { s with answers := s.answers ++ [(Asker.flight n pk, st, d)] } = _
    rw [hnone, List.nil_append]
  have hsettle : (s.answer w st d).settle = (s.asked w st).deliverAnswer w st d := by
    refine State.settle_answer _ s w st d ?_ ?_ hquiet ?_
    · rw [hanswer]
    · rw [hanswer, ← hnone]
    · rw [hdeliver, hall.quiet]
      exact hquiet
  rw [← hw, hsettle, hdeliver]
  exact ⟨hall, hans⟩

/-- A posted write of a word of a sound sector is performed, and the last response stays (R206). -/
theorem State.postedWrite_sound {s : State} {a : Nat} (p : Path) (dev tc : Nat) (d : Word) (hlt : a < 0x800000000)
    (halign : a % 4 = 0) (hgate : s.stackGate a = .go) (hsect : s.soundSect (a / 32)) :
    s.postedWrite p dev tc a d = s.setMemWord (a / 4) d := by
  have haccess : s.globalAccess (.posted p dev) true tc a d = (s.setMemWord (a / 4) d).ok :=
    (s.globalAccess_stack _ true tc d hlt halign).trans (stackWrite_sound hgate hsect d)
  rw [State.postedWrite]
  simp only [spaceOf_stack hlt, haccess]
  rfl

section
variable {s : State} {n : Nat} {f : Flight} {a : Nat} (hf : s.noc.flights = [f]) (hat : f.atNi n = true)
  (hlay : f.pk.lay = .c) (hah : a = flitAddr f.pk.hdr.toNat ((f.pk.body.headD 0#512).toNat % 2 ^ 64))
  (hlt : a < 0x800000000) (hn : n = homeNi a)
include hf hat hlay hah hlt hn

/-- What the NI of its pseudo-channel does with a request for a word of the stacks that need not wait. -/
theorem State.nocAccess_stack {opc : Nat} (hopc : Packet.opc f.pk = opc) (hk : opKind .c opc ≠ .reserved)
    (hgate : s.stackGate a ≠ .wait) : s.nocAccess n opc =
      if opc = 3 then
        if s.niFenced n then (s.dropFlight f).fenceDrop
        else (s.dropFlight f).postedWrite (.ni (Fin.ofNat 48 (Packet.src f.pk))) 0 (Packet.tc f.pk) a
          (word ((f.pk.body.headD 0#512).toNat / 4294967296))
      else if s.niFenced n then (s.dropFlight f).answer (.flight n f.pk) 2 0#32
      else ((s.dropFlight f).globalAccess (.flight n f.pk) (opc == 2) (Packet.tc f.pk) a
        (word ((f.pk.body.headD 0#512).toNat / 4294967296))).finish (.flight n f.pk) := by
  have hw := s.memWaits_stack hlt hgate
  rw [hah] at hw
  rw [State.nocAccess, State.withEjected_sole hf hat hlay hopc
    (fun f => s.memWaits (flitAddr f.pk.hdr.toNat ((f.pk.body.headD 0#512).toNat % 2 ^ 64))) _ hw hk]
  have hfenced : (s.dropFlight f).niFenced n = s.niFenced n := rfl
  simp only [← hah, hfenced, spxAddr_stack hlt, State.modePasses_stack _ hlt, serves_home hn, Bool.and_false, Bool.not_false,
    Bool.and_true, Bool.not_true, Bool.false_eq_true, if_true, if_false]

/-- A fenced NI answers a request, and drops a posted write. -/
theorem State.nocAccess_fenced {opc : Nat} (hopc : Packet.opc f.pk = opc) (hk : opKind .c opc ≠ .reserved)
    (hfence : s.niFenced n = true) : s.nocAccess n opc =
      if opc = 3 then (s.dropFlight f).fenceDrop else (s.dropFlight f).answer (.flight n f.pk) 2 0#32 := by
  have hgate : s.stackGate a ≠ .wait := by simp [State.stackGate_fenced hlt hn hfence]
  rw [State.nocAccess_stack hf hat hlay hah hlt hn hopc hk hgate, if_pos hfence, if_pos hfence]

variable (halign : a % 4 = 0) (hfence : s.niFenced n = false) (hgate : s.stackGate a = .go)
  (hsect : s.soundSect (a / 32))
include halign hfence hgate hsect

theorem State.nocAccess_reads (hopc : Packet.opc f.pk = 1) : s.nocAccess n 1 =
    ((s.dropFlight f).ok (s.memWord (a / 4))).answer (.flight n f.pk) 0 (s.memWord (a / 4)) := by
  have hread : stackRead a (s.dropFlight f) = (s.dropFlight f).ok (s.memWord (a / 4)) := stackRead_sound hgate hsect
  rw [State.nocAccess_stack hf hat hlay hah hlt hn hopc (by decide) (by simp [hgate]), if_neg (by decide),
    if_neg (by simp [hfence]), State.globalAccess_stack _ _ _ _ _ hlt halign, if_neg (by decide), hread]
  rfl

theorem State.nocAccess_writes (hopc : Packet.opc f.pk = 2) : s.nocAccess n 2 =
    ((s.dropFlight f).setMemWord (a / 4) (word ((f.pk.body.headD 0#512).toNat / 4294967296))).ok.answer
      (.flight n f.pk) 0 0#32 := by
  have hwrite (d : Word) : stackWrite a d (s.dropFlight f) = ((s.dropFlight f).setMemWord (a / 4) d).ok :=
    stackWrite_sound (s := s.dropFlight f) hgate hsect d
  rw [State.nocAccess_stack hf hat hlay hah hlt hn hopc (by decide) (by simp [hgate]), if_neg (by decide),
    if_neg (by simp [hfence]), State.globalAccess_stack _ _ _ _ _ hlt halign, if_pos (by decide), hwrite]
  rfl

theorem State.nocAccess_posts (hopc : Packet.opc f.pk = 3) : s.nocAccess n 3 =
    (s.dropFlight f).setMemWord (a / 4) (word ((f.pk.body.headD 0#512).toNat / 4294967296)) := by
  rw [State.nocAccess_stack hf hat hlay hah hlt hn hopc (by decide) (by simp [hgate]), if_pos rfl,
    if_neg (by simp [hfence])]
  exact State.postedWrite_sound _ _ _ _ hlt halign hgate hsect

end

theorem exec_nocRd {n : Fin 48} {s t : State} (h : s.nocAccess n 1 = t) : exec (.nocRd n) s = .next t.settle := by
  rw [← h]
  rfl

theorem exec_nocWr {n : Fin 48} {s t : State} (h : s.nocAccess n 2 = t) : exec (.nocWr n) s = .next t.settle := by
  rw [← h]
  rfl

theorem exec_nocWrp {n : Fin 48} {s t : State} (h : s.nocAccess n 3 = t) (hq : t.quiet = true) :
    exec (.nocWrp n) s = .next t := by
  rw [← t.settle_quiet hq, ← h]
  rfl

/-- Settles O36: the NI takes the only packet of the network, the word is read or written in a sound sector unless the
NI is fenced, and the answer finds regulator and router free. -/
theorem requestsOfWords : Obligations.RequestsOfWords := by
  unfold Obligations.RequestsOfWords
  intro n f a s hf hat hlay hquiet _ hq hconf hst hah hlt halign hn answered
  have hn64 : n.val < 64 := by omega
  have hgo : (s.dropFlight f).letsGo n f.pk := State.letsGo_alone hf hq hconf (by rw [hlay]; exact hst)
  have hfree : (s.dropFlight f).noc.flights = [] := State.dropFlight_sole hf
  have hanswered {t : State} {st : Nat} {b : BitVec 512} (h : Packet.answeredIn f.pk t n 8 st b) : answered t st := by
    obtain ⟨g, hfl, hplace, hop, hstatus, htag, hglay, -⟩ := h
    exact ⟨g, hfl, hplace, hop, hstatus, htag, hglay.trans hlay⟩
  refine ⟨fun hfence => ?_, fun hfence hgate hsect => ?_⟩
  · have hfenced {opc : Nat} (hopc : Packet.opc f.pk = opc) (hk : opKind .c opc ≠ .reserved) :=
      State.nocAccess_fenced hf hat hlay hah hlt hn hopc hk hfence
    obtain ⟨honly, hans⟩ := State.settle_flight hgo hlay hn64 hquiet 2 0#32 (by decide)
    refine ⟨fun hopc => ⟨_, exec_nocRd (hfenced hopc (by decide)), hanswered hans, honly.mem⟩,
      fun hopc => ⟨_, exec_nocWr (hfenced hopc (by decide)), hanswered hans, honly.mem⟩,
      fun hopc => ⟨_, exec_nocWrp (hfenced hopc (by decide)) hquiet, hfree, ?_, rfl⟩⟩
    exact ((s.dropFlight f).bump_orReg Reg.nocFenceDrop Reg.nocStat 1 0 (by decide) (by decide)).1
  · refine ⟨fun hopc => ?_, fun hopc => ?_, fun hopc => ?_⟩
    · have hrd := State.nocAccess_reads hf hat hlay hah hlt hn halign hfence hgate hsect hopc
      obtain ⟨honly, hans⟩ := State.settle_flight (hgo.elsewhere _ _) hlay hn64 hquiet 0 (s.memWord (a / 4)) (by decide)
      exact ⟨_, exec_nocRd hrd, hanswered hans, honly.mem, hans.body⟩
    · have hwr := State.nocAccess_writes hf hat hlay hah hlt hn halign hfence hgate hsect hopc
      obtain ⟨honly, hans⟩ := State.settle_flight (hgo.elsewhere _ _) hlay hn64 hquiet 0 0#32 (by decide)
      exact ⟨_, exec_nocWr hwr, hanswered hans, fun i => (honly.memWord i).trans (State.setMemWord_memWord _ _ i _)⟩
    · have hwrp := State.nocAccess_posts hf hat hlay hah hlt hn halign hfence hgate hsect hopc
      exact ⟨_, exec_nocWrp hwrp hquiet, hfree, rfl, fun i => State.setMemWord_memWord _ _ i _⟩

end Sys2Proof.Machine
end

section
namespace Sys2Proof.Machine

/-! ## The fence of a domain (R236, Table NC-4) -/

/-- The registers below those of the lane groups are no logs of a MAC channel. -/
theorem notMem_channelLogs (ch a : Nat) (ha : a < 0x140000) :
    a ∉ pfcLog ch ∧ a ∉ downLog ch ∧ a ∉ endLog ch ∧ a ≠ chA Reg.chTxUnder ch := by
  simp only [pfcLog, downLog, cutLog, endLog, chA, Reg.chTxPfc, Reg.chTxFrames, Reg.chRxRunt, Reg.chRxFcs, Reg.chStat,
    Reg.chTxUnder, Reg.disEvtdrop, List.mem_append, List.mem_cons, List.not_mem_nil, or_false]
  omega

section
variable (s : State) (a : Nat) (ha : a < 0x140000)
include ha

theorem State.purgeStreams_reg : s.purgeStreams.reg a = s.reg a := by
  unfold State.purgeStreams
  refine foldl_keeps (fun v : State => v.reg a) _ (fun v src => ?_) _ _
  have hset (l : List Delivery) : (v.setDeliv src l).reg a = v.reg a := by
    unfold State.setDeliv
    split <;> rfl
  have hlost (l : List Delivery) (u : State) :
      (l.foldl (fun s d => s.streamLost d.sid (d.lost + 1)) u).reg a = u.reg a :=
    foldl_keeps (fun v : State => v.reg a) (fun s (d : Delivery) => s.streamLost d.sid (d.lost + 1)) (fun _ _ => rfl) l u
  simp only []
  split
  · rfl
  · split
    · rw [(State.pfcCheck_only _ src).reg_ne (notMem_channelLogs src a ha).1, hlost, hset]
    · rw [hlost, hset]

theorem State.endFrame_reg (ch e : Nat) (f : EFrame) (r : List EFrame) : (s.endFrame ch e f r).reg a = s.reg a := by
  obtain ⟨-, -, hend, hunder⟩ := notMem_channelLogs ch a ha
  cases hs : f.sfd with
  | none =>
    simp only [State.endFrame, hs]
    exact (State.bump_reg_ne _ _ _ _ hunder).trans rfl
  | some st =>
    obtain ⟨q, u, hu, honly, -⟩ := s.endFrame_started ch e f r st hs
    refine (honly.reg_ne hend).trans ?_
    rw [hu]
    exact (State.bump_reg_ne _ _ _ _ hunder).trans rfl

theorem State.purgeEgress_reg : s.purgeEgress.reg a = s.reg a := by
  refine foldl_keeps (fun v : State => v.reg a) _ (fun v e => ?_) _ s
  simp only []
  split
  · split
    · split
      · rfl
      · exact v.endFrame_reg a ha _ _ _ _
    · rfl
  · rfl

/-- A fence request ends streams, frames and links, but of the registers below those of the lane groups it sets its own bit
of NOC_FREQ alone. -/
theorem fenceReq_reg (d : Nat) : (fenceReq d s).reg a = (s.orReg Reg.nocFreq (2 ^ d)).reg a := by
  have hpurge : (s.ok.orReg Reg.nocFreq (2 ^ d)).purgeStreams.purgeEgress.dropStopped.reg a =
      (s.orReg Reg.nocFreq (2 ^ d)).reg a := by
    rw [State.dropStopped_reg _ _ (by omega), State.purgeEgress_reg _ a ha, State.purgeStreams_reg _ a ha]
    rfl
  unfold fenceReq
  simp only []
  split
  · rw [State.channelsDown_reg _ _ _ (fun k _ => by simp only [Reg.lnStat]; omega)
      fun ch _ => (notMem_channelLogs ch a ha).2.1, hpurge]
  · exact hpurge

end

theorem bit_word_two_pow (i j : Nat) (hi : i < 32) : (word (2 ^ i)).bit j = decide (i = j) := by
  simp only [Word.bit, word, BitVec.getLsbD_ofNat, Nat.testBit_two_pow]
  by_cases h : i = j
  · simp [h, h ▸ hi]
  · simp [h]

theorem State.clrReg_regB_two_pow (s : State) (a i : Nat) (hi : i < 32) : (s.clrReg a (2 ^ i)).regB a i = false := by
  rw [State.regB, State.clrReg_reg_same, Word.bit_and_not _ _ _ hi, bit_word_two_pow _ _ hi]
  simp

/-- Domain `d` is fenced, and NOC_FREQ keeps its other bits (R236). -/
theorem fenceReq_fences (s : State) (d : Fin 11) : (fenceReq d.val s).domFenced d.val = true ∧
    ∀ e : Fin 11, e ≠ d → (fenceReq d.val s).regB Reg.nocFreq e.val = s.regB Reg.nocFreq e.val := by
  have hfreq (e : Nat) : (fenceReq d.val s).regB Reg.nocFreq e = (s.regB Reg.nocFreq e || decide (d.val = e)) := by
    rw [State.regB, fenceReq_reg s _ (by decide), State.orReg_reg_same, Word.bit_or, bit_word_two_pow _ _ (by omega),
      State.regB]
  refine ⟨?_, fun e he => ?_⟩
  · simp [State.domFenced, hfreq]
  · rw [hfreq, decide_eq_false fun h => he (Fin.ext h.symm), Bool.or_false]

theorem State.cutInputs_keeps (s : State) (q : Nat) : (s.cutInputs q).regs = s.regs ∧ (s.cutInputs q).noc = s.noc := by
  unfold State.cutInputs
  refine ⟨foldl_keeps State.regs _ (fun v t => ?_) _ s, foldl_keeps State.noc _ (fun v t => ?_) _ s⟩
  all_goals
    split <;> rfl

/-- The acknowledgement of a fenced domain that has drained (Table NC-4, step 3). -/
theorem fenceAck_acks (s : State) (d : Nat) (hd : d < 32) (hfreq : s.regB Reg.nocFreq d = true)
    (hdrained : s.drained d = true) : (fenceAck d s).regB Reg.nocFack d = true ∧ (fenceAck d s).noc = s.noc := by
  obtain ⟨hregs, hnoc⟩ := ((s.orReg Reg.nocFack (2 ^ d)).keepJoints d).cutInputs_keeps d
  have hack : (s.orReg Reg.nocFack (2 ^ d)).regB Reg.nocFack d = true :=
    State.orReg_regB _ _ _ _ (by rw [bit_word_two_pow _ _ hd, decide_eq_true rfl])
  simp only [fenceAck, hfreq, hdrained, Bool.and_self, if_true]
  split
  · refine ⟨?_, hnoc⟩
    rw [State.regB, State.reg, hregs]
    exact hack
  · exact ⟨hack, rfl⟩

/-- A release changes the two fence registers, and beside them the joints of a quadrant (Table NC-4, step 5). -/
theorem fenceRelease_only (s : State) (d : Nat) : ∃ c r, fenceRelease d s =
    { (s.clrReg Reg.nocFreq (2 ^ d)).clrReg Reg.nocFack (2 ^ d) with can := c, resp := r } := by
  unfold fenceRelease
  simp only []
  split
  · exact ⟨_, _, rfl⟩
  · exact ⟨_, _, rfl⟩

/-- Whether a domain is ON is a matter of two registers and of what the stacks are doing. -/
theorem State.domOn_congr (s t : State) (d : Nat) (hm : t.mem = s.mem)
    (hd : t.reg (Reg.pwrDomctl d) = s.reg (Reg.pwrDomctl d))
    (hs : t.reg (Reg.memStat (d - 8)) = s.reg (Reg.memStat (d - 8))) : t.domOn d = s.domOn d := by
  simp only [State.domOn, State.domState, State.regF, hm, hd, hs]
  rfl

theorem fenceRelease_opens (s : State) (d : Fin 11) : (fenceRelease d.val s).regB Reg.nocFreq d.val = false ∧
    (fenceRelease d.val s).regB Reg.nocFack d.val = false ∧
    (s.domOn d.val = true → (fenceRelease d.val s).domFenced d.val = false) ∧ (fenceRelease d.val s).noc = s.noc := by
  obtain ⟨c, r, h⟩ := fenceRelease_only s d.val
  have hd : d.val < 32 := by omega
  have hreg (a : Nat) : (fenceRelease d.val s).reg a =
      ((s.clrReg Reg.nocFreq (2 ^ d.val)).clrReg Reg.nocFack (2 ^ d.val)).reg a := by rw [h]; rfl
  have helse (a : Nat) (h1 : a ≠ Reg.nocFreq) (h2 : a ≠ Reg.nocFack) : (fenceRelease d.val s).reg a = s.reg a := by
    rw [hreg, State.clrReg_reg_ne _ _ _ _ h2, State.clrReg_reg_ne _ _ _ _ h1]
  have hfreq : (fenceRelease d.val s).regB Reg.nocFreq d.val = false := by
    rw [State.regB, hreg, State.clrReg_reg_ne _ _ _ _ (by decide)]
    exact s.clrReg_regB_two_pow _ _ hd
  refine ⟨hfreq, ?_, fun hon => ?_, by rw [h]; rfl⟩
  · rw [State.regB, hreg]
    exact State.clrReg_regB_two_pow _ _ _ hd
  · have hdom : (fenceRelease d.val s).domOn d.val = s.domOn d.val := by
      refine State.domOn_congr s _ d.val (by rw [h]; rfl) (helse _ ?_ ?_) (helse _ ?_ ?_)
      all_goals
        simp only [Reg.pwrDomctl, Reg.memStat, Reg.nocFreq, Reg.nocFack]
        omega
    rw [State.domFenced, hfreq, hdom, hon]
    rfl

end Sys2Proof.Machine
end

section
namespace Sys2Proof.Machine

/-! ## Breaches of a guarantee (R234) -/

/-- A counter field after one more event. -/
theorem State.bumpF_regF_same (s : State) (a hi lo n : Nat) (hh : hi < 32) :
    (s.bumpF a hi lo n).regF a hi lo = Nat.min (s.regF a hi lo + n) (2 ^ (hi + 1 - lo) - 1) := by
  have hpos := Nat.two_pow_pos (hi + 1 - lo)
  have hle : Nat.min (s.regF a hi lo + n) (2 ^ (hi + 1 - lo) - 1) ≤ 2 ^ (hi + 1 - lo) - 1 := Nat.min_le_right _ _
  rw [State.bumpF, State.setRegF_regF_same _ _ _ _ _ hh, Nat.mod_eq_of_lt (by omega)]

/-- The register that counts the breaches of a class at an NI. -/
def brkReg (n cls : Nat) : Nat := if cls < 2 then Reg.niBrk01 n else Reg.niBrk23 n

/-- The state that has counted a breach and shows it, before any report. -/
def State.breachCounted (s : State) (n cls : Nat) : State :=
  (s.bumpF (brkReg n cls) (16 * (cls % 2) + 15) (16 * (cls % 2)) 1).orReg Reg.nocStat 8

theorem State.breachCounted_regF (s : State) (n cls : Nat) :
    (s.breachCounted n cls).regF (brkReg n cls) (16 * (cls % 2) + 15) (16 * (cls % 2)) =
      Nat.min (s.regF (brkReg n cls) (16 * (cls % 2) + 15) (16 * (cls % 2)) + 1) 65535 := by
  have hne : brkReg n cls ≠ Reg.nocStat := by
    unfold brkReg
    split <;> simp only [Reg.niBrk01, Reg.niBrk23, Reg.nocStat] <;> omega
  have hwidth : 16 * (cls % 2) + 15 + 1 - 16 * (cls % 2) = 16 := by omega
  rw [State.regF, State.breachCounted, State.orReg_reg_ne _ _ _ _ hne]
  refine (s.bumpF_regF_same _ _ _ 1 (by omega)).trans ?_
  rw [hwidth]
  rfl

/-- What an NI remembers once a breach of class `cls` is named in a report of EKL cycle `cyc`. -/
def NI.naming (x : NI) (cls cyc : Nat) : NI := { x with named := x.named + 2 ^ cls, brkAt := some cyc }

theorem NI.naming_named (x : NI) (cls cyc : Nat) (h : Nat.testBit x.named cls = false) :
    Nat.testBit (x.naming cls cyc).named cls = true := by
  rw [NI.naming, Nat.add_comm, Nat.testBit_two_pow_add_eq, h]
  rfl

/-- The report of its own that a class gets. -/
def State.breachReport (s : State) (n cls : Nat) : Report :=
  { code := 0x30 + 2 ^ cls, unit := 0x1500 + n, subj := s.did, count := 1, first := s.did, last := s.did, span := 0 }

/-- The inbox once a class is named: the class joins the report that its NI sent in this cycle, or has one of its own. -/
def State.breachInbox (s : State) (n cls : Nat) : List Report :=
  (if (s.ni n).brkAt = some s.cyc then s.joinBreach n cls s.int.inbox.reverse else none).elim
    (s.int.inbox ++ [s.breachReport n cls]) List.reverse

/-- A class that no report of the epoch has named is named. -/
def State.nameBreach (s : State) (n cls : Nat) : State :=
  if Nat.testBit (s.ni n).named cls then s
  else { s.setNi n ((s.ni n).naming cls s.cyc) with int.inbox := s.breachInbox n cls }

theorem State.breach_eq (s : State) (n cls : Nat) : s.breach n cls = (s.breachCounted n cls).nameBreach n cls := by
  have hcount : (if cls % 2 = 0 then s.bumpF (brkReg n cls) 15 0 1 else s.bumpF (brkReg n cls) 31 16 1) =
      s.bumpF (brkReg n cls) (16 * (cls % 2) + 15) (16 * (cls % 2)) 1 := by
    rcases Nat.mod_two_eq_zero_or_one cls with h | h <;> simp [h]
  rw [State.breach, ← brkReg, hcount, ← State.breachCounted]
  generalize s.breachCounted n cls = u
  unfold State.nameBreach State.breachInbox
  simp only []
  split
  · rfl
  · generalize (if (u.ni n).brkAt = some u.cyc then u.joinBreach n cls u.int.inbox.reverse else none) = o
    cases o <;> rfl

/-- The report that stands last in the inbox and is one of this NI is the one that is joined. -/
theorem State.joinBreach_last (s : State) (n cls : Nat) (l : List Report) (q : Report) (hi : s.int.inbox = l ++ [q])
    (hu : q.unit = 0x1500 + n) (h1 : 0x30 < q.code) (h2 : q.code < 0x40) :
    s.joinBreach n cls s.int.inbox.reverse = some ({ q with code := q.code + 2 ^ cls } :: l.reverse) := by
  simp [hi, State.joinBreach, hu, h1, h2]

/-- A breach of the only packet, which waits at a router as one flit (log 61). -/
theorem guaranteeBreach_sole (s : State) (n cls r i : Nat) (f : Flight) (x : Flit) (hf : s.noc.flights = [f])
    (hx : f.flits = [x]) (hat : x.at_ = .router r i) (hnew : x.breached = false) (hsrc : Packet.src f.pk = n)
    (htc : Packet.tc f.pk = cls) (hconf : cls = 1 → Packet.conf f.pk = true) :
    guaranteeBreach n cls s =
      State.breach { s with noc.flights := [{ f with flits := [{ x with breached := true }] }] } n cls := by
  have hwatched : (cls != 1 || Packet.conf f.pk) = true := by
    by_cases h : cls = 1
    · simp [hconf h]
    · simp [h]
  simp [guaranteeBreach, State.putFlit, hf, hx, hat, hnew, hsrc, htc, hwatched]

theorem State.nameBreach_keeps (s : State) (n cls : Nat) :
    (s.nameBreach n cls).regs = s.regs ∧ (s.nameBreach n cls).noc.flights = s.noc.flights := by
  unfold State.nameBreach
  split <;> exact ⟨rfl, rfl⟩

theorem State.nameBreach_named (s : State) (n cls : Nat) (h : Nat.testBit (s.ni n).named cls = true) :
    s.nameBreach n cls = s := if_pos h

/-- A class that no report has named is named from now on, in a report of its own or in the one of this cycle. -/
theorem State.nameBreach_names (s : State) (n cls : Nat) (h : Nat.testBit (s.ni n).named cls = false) :
    Nat.testBit ((s.nameBreach n cls).ni n).named cls = true ∧
      (s.nameBreach n cls).int.inbox = s.breachInbox n cls := by
  rw [State.nameBreach, if_neg (by simp [h])]
  refine ⟨?_, rfl⟩
  exact (congrArg (fun x : NI => Nat.testBit x.named cls) (State.setNi_ni_same _ _ _)).trans
    (NI.naming_named _ _ _ h)

theorem State.breachInbox_own (s : State) (n cls : Nat) (h : (s.ni n).brkAt ≠ some s.cyc) :
    s.breachInbox n cls = s.int.inbox ++ [s.breachReport n cls] := by
  rw [State.breachInbox, if_neg h]
  rfl

theorem State.breachInbox_joined (s : State) (n cls : Nat) (l : List Report) (q : Report)
    (h : (s.ni n).brkAt = some s.cyc) (hi : s.int.inbox = l ++ [q]) (hu : q.unit = 0x1500 + n) (h1 : 0x30 < q.code)
    (h2 : q.code < 0x40) : s.breachInbox n cls = l ++ [{ q with code := q.code + 2 ^ cls }] := by
  rw [State.breachInbox, if_pos h, s.joinBreach_last n cls l q hi hu h1 h2]
  simp

theorem exec_guaranteeBreach (n : Fin 48) (c : Fin 4) (s : State) :
    exec (.guaranteeBreach n c) s = .next (guaranteeBreach n.val c.val s) := rfl

/-- Settles O39: the fence from its request to its release, and one breach by what the epoch and the cycle have reported. -/
theorem fencesAndBreaches : Obligations.FencesAndBreaches := by
  refine ⟨fun d s => ⟨fun hopen => ?_, fun hfreq hdrained => ?_, fun hdrained => ?_, fun hopen => ?_⟩, ?_⟩
  · exact ⟨_, congrArg Host.Outcome.next (s.viaBlock_opens .noc _ hopen), fenceReq_fences s.ok d⟩
  · exact ⟨_, rfl, fenceAck_acks s d.val (by omega) hfreq hdrained⟩
  · refine congrArg Host.Outcome.next ?_
    simp [fenceAck, hdrained]
  · exact ⟨_, congrArg Host.Outcome.next (s.viaBlock_opens .noc _ hopen), fenceRelease_opens s.ok d⟩
  · intro n c f x r i s hf hx hat hnew hsrc htc hconf
    obtain ⟨v, hv⟩ : ∃ v : State, v = { s with noc.flights := [{ f with flits := [{ x with breached := true }] }] } :=
      ⟨_, rfl⟩
    obtain ⟨u, hu⟩ : ∃ u, u = v.breachCounted n.val c.val := ⟨_, rfl⟩
    have hbreach : guaranteeBreach n.val c.val s = u.nameBreach n.val c.val := by
      rw [guaranteeBreach_sole s n.val c.val r i f x hf hx hat hnew hsrc htc hconf, State.breach_eq, hu, hv]
    have hni : u.ni n.val = s.ni n.val := by rw [hu, hv]; rfl
    have hint : u.int = s.int := by rw [hu, hv]; rfl
    have hcyc : u.cyc = s.cyc := by rw [hu, hv]; rfl
    obtain ⟨hregs, hflights⟩ := u.nameBreach_keeps n.val c.val
    have hcount : (u.nameBreach n.val c.val).regF (brkReg n.val c.val) (16 * (c.val % 2) + 15) (16 * (c.val % 2)) =
        Nat.min (s.regF (brkReg n.val c.val) (16 * (c.val % 2) + 15) (16 * (c.val % 2)) + 1) 65535 := by
      rw [State.regF, State.reg, hregs, hu]
      exact (v.breachCounted_regF n.val c.val).trans (by rw [hv]; rfl)
    refine ⟨_, (exec_guaranteeBreach n c s).trans (congrArg Host.Outcome.next hbreach), ?_, fun hlow => ?_, fun hhigh => ?_,
      fun hnot => ?_, fun hnot hcycle => ?_, fun l q hnot hcycle hlast hunit h1 h2 => ?_, fun hnamed => ?_⟩
    · rw [hflights, hu, hv]
      rfl
    · rwa [brkReg, if_pos hlow, Nat.mod_eq_of_lt hlow] at hcount
    · rwa [brkReg, if_neg (by omega), show c.val % 2 = c.val - 2 by omega] at hcount
    · exact (u.nameBreach_names n.val c.val (by rw [hni]; exact hnot)).1
    · refine ⟨u.breachReport n.val c.val, ?_, rfl⟩
      rw [(u.nameBreach_names n.val c.val (by rw [hni]; exact hnot)).2,
        u.breachInbox_own n.val c.val (by rw [hni, hcyc]; exact hcycle), hint]
    · rw [(u.nameBreach_names n.val c.val (by rw [hni]; exact hnot)).2]
      exact u.breachInbox_joined n.val c.val l q (by rw [hni, hcyc]; exact hcycle) (by rw [hint]; exact hlast) hunit h1 h2
    · rw [u.nameBreach_named n.val c.val (by rw [hni]; exact hnamed), hint]

end Sys2Proof.Machine
end

section
namespace Sys2Proof.Machine

/-! ## Hop codes of a route (R228, R230) -/

/-- From hop `h` on, `route` names the hop codes `l` and then 7 for every unused code up to the tenth. -/
def codesFrom (route h : Nat) (l : List Nat) : Prop :=
  h + l.length ≤ 10 ∧ (∀ c ∈ l, c < 8) ∧
    route / 2 ^ (3 * h) = Nat.ofDigits 8 (l ++ List.replicate (10 - h - l.length) 7)

theorem codesFrom.head {route h c : Nat} {l : List Nat} (hc : codesFrom route h (c :: l)) :
    route / 2 ^ (3 * h) % 8 = c := by
  obtain ⟨-, hlt, hroute⟩ := hc
  have := hlt c List.mem_cons_self
  rw [hroute, List.cons_append, Nat.ofDigits_cons]
  omega

theorem codesFrom.tail {route h c : Nat} {l : List Nat} (hc : codesFrom route h (c :: l)) :
    codesFrom route (h + 1) l := by
  obtain ⟨hlen, hlt, hroute⟩ := hc
  rw [List.length_cons] at hlen
  have hcode := hlt c List.mem_cons_self
  refine ⟨by omega, fun d hd => hlt d (List.mem_cons_of_mem _ hd), ?_⟩
  have hpow : 2 ^ (3 * (h + 1)) = 2 ^ (3 * h) * 8 := by rw [Nat.mul_add, Nat.pow_add]
  have hleft : 10 - h - (l.length + 1) = 10 - (h + 1) - l.length := by omega
  rw [hpow, ← Nat.div_div_eq_div_mul, hroute, List.cons_append, Nat.ofDigits_cons, List.length_cons, hleft]
  omega

/-- Codes that are all 7. -/
theorem ofDigits_sevens (k : Nat) : Nat.ofDigits 8 (List.replicate k 7) = 8 ^ k - 1 := by
  induction k with
  | zero => rfl
  | succ k ih =>
    have := Nat.one_le_pow k 8 (by decide)
    rw [List.replicate_succ, Nat.ofDigits_cons, ih, Nat.pow_succ]
    omega

theorem codesFrom.done {route h : Nat} (hc : codesFrom route h []) : route / 2 ^ (3 * h) = 2 ^ (30 - 3 * h) - 1 := by
  obtain ⟨hlen, -, hroute⟩ := hc
  rw [hroute, List.nil_append, List.length_nil, ofDigits_sevens, show 30 - 3 * h = 3 * (10 - h - 0) by omega, Nat.pow_mul]

/-- The octal digits that `routeOf` adds up. -/
theorem routeOf_digits (l : List Nat) (n : Nat) :
    (List.range n).foldl (fun a h => a + l.getD h 7 * 2 ^ (3 * h)) 0 =
      Nat.ofDigits 8 ((List.range n).map (fun h => l.getD h 7)) := by
  induction n with
  | zero => rfl
  | succ n ih =>
    rw [List.range_succ, List.foldl_append, ih, List.map_append, Nat.ofDigits_append, List.length_map, List.length_range]
    have hpow : 2 ^ (3 * n) = 8 ^ n := by rw [Nat.pow_mul]
    simp only [List.foldl_cons, List.foldl_nil, List.map_cons, List.map_nil, Nat.ofDigits_singleton, hpow,
      Nat.mul_comm (8 ^ n)]

theorem getD_range (l : List Nat) (n : Nat) (h : l.length ≤ n) :
    (List.range n).map (fun i => l.getD i 7) = l ++ List.replicate (n - l.length) 7 := by
  refine List.ext_getElem (by simp; omega) fun i h1 _ => ?_
  rw [List.length_map, List.length_range] at h1
  by_cases hi : i < l.length
  · simp [hi]
  · simp [hi, Nat.le_of_not_lt hi]

/-- A route word that was built from hop codes names them. -/
theorem codesFrom_routeOf (l : List Nat) (hlen : l.length ≤ 10) (hlt : ∀ c ∈ l, c < 8) : codesFrom (routeOf l) 0 l := by
  refine ⟨by omega, hlt, ?_⟩
  rw [Nat.mul_zero, Nat.pow_zero, Nat.div_one, Nat.sub_zero, ← getD_range l 10 hlen]
  exact routeOf_digits l 10

end Sys2Proof.Machine
end

section
namespace Sys2Proof.Machine

/-! ## The default route is legal (R229, R230) -/

/-- What hop code `c` adds to the column and to the row. -/
def hopX (c : Nat) : Int := if c = 1 then 1 else if c = 3 then -1 else 0
def hopY (c : Nat) : Int := if c = 0 then 1 else if c = 2 then -1 else 0

/-- A position in the mesh. -/
def inMesh (x y : Int) : Prop := 0 ≤ x ∧ x ≤ 5 ∧ 0 ≤ y ∧ y ≤ 3

/-- The first of the moves of one direction stays in the mesh when the last does. -/
theorem inMesh.between {x y : Int} {c k : Nat} (hfrom : inMesh x y)
    (hto : inMesh (x + (k + 1 : Nat) * hopX c) (y + (k + 1 : Nat) * hopY c)) : inMesh (x + hopX c) (y + hopY c) := by
  have hstep (z d m : Int) (hd : d = 1 ∨ d = -1 ∨ d = 0) (h : 0 ≤ z ∧ z ≤ m)
      (h' : 0 ≤ z + (k + 1 : Nat) * d ∧ z + (k + 1 : Nat) * d ≤ m) : 0 ≤ z + d ∧ z + d ≤ m := by
    rcases hd with rfl | rfl | rfl <;> omega
  obtain ⟨hx0, hx5, hy0, hy3⟩ := hfrom
  obtain ⟨hx0', hx5', hy0', hy3'⟩ := hto
  have hX := hstep x (hopX c) 5 (by unfold hopX; split_ifs <;> simp) ⟨hx0, hx5⟩ ⟨hx0', hx5'⟩
  have hY := hstep y (hopY c) 3 (by unfold hopY; split_ifs <;> simp) ⟨hy0, hy3⟩ ⟨hy0', hy3'⟩
  exact ⟨hX.1, hX.2, hY.1, hY.2⟩

/-- A hop to a neighbour that is neither a late move west nor a turn back is legal when the rest is (R230). -/
theorem legalFrom_hop {route dst h c fuel : Nat} {x y : Int} {prev : Option Nat} {turned : Bool} {l : List Nat}
    (hcodes : codesFrom route h (c :: l)) (hc : c < 4) (hwest : c = 3 → turned = false)
    (hback : prev ≠ some (oppositeHop c)) (hin : inMesh (x + hopX c) (y + hopY c)) :
    legalFrom route dst x y prev turned h (fuel + 1) =
      legalFrom route dst (x + hopX c) (y + hopY c) (some c) (turned || c != 3) (h + 1) fuel := by
  have hx : (if c = 1 then x + 1 else if c = 3 then x - 1 else x) = x + hopX c := by
    unfold hopX
    split_ifs <;> omega
  have hy : (if c = 0 then y + 1 else if c = 2 then y - 1 else y) = y + hopY c := by
    unfold hopY
    split_ifs <;> omega
  obtain ⟨hx0, hx5, hy0, hy3⟩ := hin
  rw [legalFrom, hcodes.head]
  simp only [hx, hy]
  rw [if_neg (by omega), if_neg (by omega), if_neg (by rintro ⟨h3, ht⟩; simp [hwest h3] at ht), if_neg hback,
    if_neg (by omega)]

/-- The moves of one direction, which end where their number says. -/
theorem legalFrom_run {route dst c fuel : Nat} {l : List Nat} (hc : c < 4) (k : Nat) : ∀ (h : Nat) (x y : Int)
    (prev : Option Nat) (turned : Bool), codesFrom route h (List.replicate k c ++ l) → (c = 3 → turned = false) →
    prev ≠ some (oppositeHop c) → inMesh x y → inMesh (x + k * hopX c) (y + k * hopY c) →
    ∃ prev' turned', legalFrom route dst x y prev turned h (fuel + k) =
      legalFrom route dst (x + k * hopX c) (y + k * hopY c) prev' turned' (h + k) fuel ∧
      codesFrom route (h + k) l ∧ (prev' = prev ∨ prev' = some c) := by
  induction k with
  | zero =>
    intro h x y prev turned hcodes _ _ _ _
    exact ⟨prev, turned, by simp, by simpa using hcodes, .inl rfl⟩
  | succ k ih =>
    intro h x y prev turned hcodes hwest hback hfrom hto
    have hcodes' : codesFrom route h (c :: (List.replicate k c ++ l)) := hcodes
    have hstep : ∀ z d : Int, z + d + k * d = z + (k + 1 : Nat) * d := fun z d => by push_cast; ring
    have hmid : inMesh (x + hopX c) (y + hopY c) := hfrom.between hto
    obtain ⟨prev', turned', heq, hrest, hprev⟩ := ih (h + 1) (x + hopX c) (y + hopY c) (some c) (turned || c != 3)
      hcodes'.tail (fun h3 => by simp [hwest h3, h3])
      (by simp only [oppositeHop, ne_eq, Option.some.injEq]; omega) hmid (by rw [hstep, hstep]; exact hto)
    refine ⟨prev', turned', ?_, ?_, .inr (hprev.elim id id)⟩
    · rw [← Nat.add_assoc, legalFrom_hop hcodes' hc hwest hback hmid, heq, hstep, hstep, Nat.add_right_comm h,
        Nat.add_assoc h]
    · rwa [Nat.add_right_comm h, Nat.add_assoc h] at hrest

/-- The ejection at the destination ends a legal route. -/
theorem legalFrom_ejects {route dst h fuel : Nat} {prev : Option Nat} {turned : Bool}
    (hcodes : codesFrom route h [4 + dst % 2]) :
    legalFrom route dst (routerX (dst / 2)) (routerY (dst / 2)) prev turned h (fuel + 1) = true := by
  have hdone := hcodes.tail.done
  rw [Nat.mul_add] at hdone
  rw [legalFrom, hcodes.head]
  simp only []
  rw [if_pos (by omega), if_neg (by omega), if_neg (by omega), hdone]
  simp

theorem inMesh_router (r : Nat) (hr : r < 24) : inMesh (routerX r) (routerY r) := by
  unfold inMesh routerX routerY
  omega

/-- The moves along one axis of the mesh: a number of hops of one code. -/
def axisHops (a b up down : Nat) : List Nat :=
  if b < a then List.replicate (a - b) down else List.replicate (b - a) up

theorem axisHops_eq (a b up down : Nat) : ∃ k c, axisHops a b up down = List.replicate k c ∧
    ((c = up ∧ b = a + k) ∨ (c = down ∧ a = b + k)) := by
  unfold axisHops
  split
  · exact ⟨_, _, rfl, .inr ⟨rfl, by omega⟩⟩
  · exact ⟨_, _, rfl, .inl ⟨rfl, by omega⟩⟩

theorem defaultRoute_eq (n d : Nat) : defaultRoute n d = routeOf (axisHops (routerX (n / 2)) (routerX (d / 2)) 1 3 ++
    (axisHops (routerY (n / 2)) (routerY (d / 2)) 0 2 ++ [4 + d % 2])) := by
  rw [← List.append_assoc]
  rfl

theorem defaultRoute_legal (n d : Nat) (hn : n < 48) (hd : d < 48) : legalRoute n (defaultRoute n d) d = true := by
  obtain ⟨kx, cx, hx, hcx⟩ := axisHops_eq (routerX (n / 2)) (routerX (d / 2)) 1 3
  obtain ⟨ky, cy, hy, hcy⟩ := axisHops_eq (routerY (n / 2)) (routerY (d / 2)) 0 2
  have hfrom := inMesh_router (n / 2) (by omega)
  have hto := inMesh_router (d / 2) (by omega)
  have htoX : (routerX (n / 2) : Int) + kx * hopX cx = routerX (d / 2) := by
    rcases hcx with ⟨rfl, h⟩ | ⟨rfl, h⟩ <;> simp [hopX, h]
  have hstayX : (routerY (n / 2) : Int) + kx * hopY cx = routerY (n / 2) := by
    rcases hcx with ⟨rfl, h⟩ | ⟨rfl, h⟩ <;> simp [hopY]
  have htoY : (routerY (n / 2) : Int) + ky * hopY cy = routerY (d / 2) := by
    rcases hcy with ⟨rfl, h⟩ | ⟨rfl, h⟩ <;> simp [hopY, h]
  have hstayY : (routerX (d / 2) : Int) + ky * hopX cy = routerX (d / 2) := by
    rcases hcy with ⟨rfl, h⟩ | ⟨rfl, h⟩ <;> simp [hopX]
  have hcorner : inMesh (routerX (d / 2)) (routerY (n / 2)) := by
    unfold inMesh at *
    omega
  have hlen : kx ≤ 5 ∧ ky ≤ 3 := by
    unfold inMesh at hfrom hto
    omega
  have hcodes : codesFrom (defaultRoute n d) 0 (List.replicate kx cx ++ (List.replicate ky cy ++ [4 + d % 2])) := by
    rw [defaultRoute_eq, hx, hy]
    refine codesFrom_routeOf _ (by simp; omega) fun c hc => ?_
    simp only [List.mem_append, List.mem_replicate, List.mem_singleton] at hc
    omega
  obtain ⟨p1, t1, hrun1, hcodes1, hp1⟩ := legalFrom_run (dst := d) (fuel := 9 - kx - ky + 1 + ky) (by omega) kx 0 _ _ none
    false hcodes (fun _ => rfl) (by simp) hfrom (by rw [htoX, hstayX]; exact hcorner)
  have hback : p1 ≠ some (oppositeHop cy) := by
    rcases hp1 with rfl | rfl
    · simp
    · simp only [oppositeHop, ne_eq, Option.some.injEq]
      omega
  rw [htoX, hstayX] at hrun1
  obtain ⟨p2, t2, hrun2, hcodes2, -⟩ := legalFrom_run (dst := d) (fuel := 9 - kx - ky + 1) (by omega) ky (0 + kx) _ _ p1 t1
    hcodes1 (by omega) hback hcorner (by rw [htoY, hstayY]; exact hto)
  rw [htoY, hstayY] at hrun2
  rw [legalRoute, decide_eq_true hd, Bool.true_and, show 10 = 9 - kx - ky + 1 + ky + kx by omega, hrun1, hrun2]
  exact legalFrom_ejects hcodes2

end Sys2Proof.Machine
end

section
namespace Sys2Proof.Machine

/-! ## The entries of a route table (R229, R230, R425) -/

/-- With no valid entry for the destination and no valid exception the NI takes the default route (R229). -/
theorem State.routeFor_default (s : State) (n d c : Nat) (hd : ((s.ni n).routes.get d (0#32, 0#32)).2.bit 31 = false)
    (hx : ∀ i, 48 ≤ i → i < 64 → ((s.ni n).routes.get i (0#32, 0#32)).2.bit 31 = false) :
    s.routeFor n d c = defaultRoute n d := by
  have hinvalid (e : Nat) (h : ((s.ni n).routes.get e (0#32, 0#32)).2.bit 31 = false) :
      (s.routeEntry n e).2.bit 31 = false := by
    unfold State.routeEntry
    split
    · rfl
    · exact h
  have hnone : (List.range 16).find? (fun i => (s.routeEntry n (48 + i)).2.bit 31 &&
      (s.routeEntry n (48 + i)).2.bits 5 0 == d && (s.routeEntry n (48 + i)).2.bit (8 + c)) = none := by
    refine List.find?_eq_none.2 fun i hi => ?_
    rw [hinvalid _ (hx (48 + i) (by omega) (by have := List.mem_range.1 hi; omega))]
    simp
  simp [State.routeFor, hnone, hinvalid d hd]

/-- The high word that a legal write of NIn_RTe_HI stores. -/
def routeHi (e : Nat) (d : Word) : Word :=
  if e < 48 then word e ||| (d &&& 0x80000000#32) else d &&& 0x80000F3F#32

/-- The destination that an entry has once `d` is written to its high word. -/
def routeDst (e : Nat) (d : Word) : Nat := if e < 48 then e else d.bits 5 0

theorem routeHi_fields (e : Nat) (d : Word) : (routeHi e d).bits 5 0 = routeDst e d ∧ (routeHi e d).bit 31 = d.bit 31 := by
  unfold routeHi routeDst
  split
  next h =>
    constructor
    · rw [BitVec.or_comm, Word.bits_and_or _ _ _ _ _ (by decide)]
      simp only [Word.bits, bitsOf, word, BitVec.toNat_ofNat]
      omega
    · have hlow : (word e).bit 31 = false := Nat.testBit_lt_two_pow (by simp only [word, BitVec.toNat_ofNat]; omega)
      rw [Word.bit_or, hlow, Bool.false_or]
      simp [Word.bit]
  next h => exact ⟨Word.bits_and _ _ _ _ (by decide), by simp [Word.bit]⟩

/-- Entry `e` of the route table of an NI is written. -/
def NI.setRoute (x : NI) (e : Nat) (lo hi : Word) : NI := { x with routes := x.routes.set e (lo, hi) (0#32, 0#32) }

theorem routeWrite_eq (n e : Nat) (d : Word) (s : State) : routeWrite n e d s =
    if legalRoute n ((s.ni n).rtLatch.get e 0#32).toNat (routeDst e d) then
      (s.ok.setNi n ((s.ni n).setRoute e ((s.ni n).rtLatch.get e 0#32) (routeHi e d))).wordWritten 10 (utbRoute n e)
    else (s.err.bump (Reg.niRtref n) 1).orReg (Reg.niStat n) 4 := rfl

/-- A write of a protected word clears its errors and changes nothing else (R353). -/
theorem State.wordWritten_only (s : State) (c a : Nat) : ∃ i, s.wordWritten c a = { s with int := i } := by
  unfold State.wordWritten
  split
  · exact ⟨s.int, rfl⟩
  · exact ⟨_, rfl⟩

theorem exec_routeWrite (n : Fin 48) (e : Fin 64) (d : Word) (s : State) (h : s.opens .noc) :
    exec (.routeWrite n e d) s = .next (routeWrite n.val e.val d s.ok) :=
  congrArg Host.Outcome.next (s.viaBlock_opens .noc _ h)

/-- A legal write sets its entry and leaves the others. -/
theorem routeWrite_legal (n e : Nat) (d : Word) (s : State)
    (h : legalRoute n ((s.ni n).rtLatch.get e 0#32).toNat (routeDst e d) = true) :
    (routeWrite n e d s).resp.status = 0 ∧ (routeWrite n e d s).regs = s.regs ∧
      ((routeWrite n e d s).ni n).routes.get e (0#32, 0#32) = ((s.ni n).rtLatch.get e 0#32, routeHi e d) ∧
      ∀ j, j ≠ e → ((routeWrite n e d s).ni n).routes.get j (0#32, 0#32) = (s.ni n).routes.get j (0#32, 0#32) := by
  obtain ⟨i, hi⟩ := State.wordWritten_only
    (s.ok.setNi n ((s.ni n).setRoute e ((s.ni n).rtLatch.get e 0#32) (routeHi e d))) 10 (utbRoute n e)
  rw [routeWrite_eq, if_pos h, hi]
  have hni := State.setNi_ni_same s.ok n ((s.ni n).setRoute e ((s.ni n).rtLatch.get e 0#32) (routeHi e d))
  refine ⟨rfl, rfl, ?_, fun j hj => ?_⟩
  · exact (congrArg (fun x : NI => x.routes.get e (0#32, 0#32)) hni).trans (SMap.get_set_same _ _ _ _)
  · exact (congrArg (fun x : NI => x.routes.get j (0#32, 0#32)) hni).trans (SMap.get_set_ne _ _ _ _ _ _ hj)

/-- An illegal write is answered with an error, counted and shown, and the table stays (R230). -/
theorem routeWrite_illegal (n e : Nat) (d : Word) (s : State)
    (h : legalRoute n ((s.ni n).rtLatch.get e 0#32).toNat (routeDst e d) = false) :
    (routeWrite n e d s).resp.status = 1 ∧ s.counts (routeWrite n e d s) (Reg.niRtref n) 1 ∧
      (routeWrite n e d s).noc = s.noc := by
  rw [routeWrite_eq, if_neg (by simp [h])]
  refine ⟨rfl, State.counts_of_bump (u := s.err) rfl ?_, rfl⟩
  exact State.orReg_reg_ne _ _ _ _ (by simp only [Reg.niRtref, Reg.niStat]; omega)

/-- Settles O33: the writes of the two words of an entry, and the default route, which passes every check of R230. -/
theorem routeTables : Obligations.RouteTables := by
  refine ⟨?_, fun n e d w s => ⟨?_, fun hne => ?_⟩, fun n d c s hd hx =>
    ⟨s.routeFor_default _ _ _ hd hx, defaultRoute_legal _ _ n.isLt d.isLt⟩⟩
  · intro n e d s hopen dst lo
    refine ⟨fun h => ?_, fun h => ?_⟩
    · obtain ⟨hresp, hregs, hentry, hothers⟩ := routeWrite_legal n.val e.val d s.ok h
      obtain ⟨hdst, hvalid⟩ := routeHi_fields e.val d
      exact ⟨_, _, exec_routeWrite n e d s hopen, hresp, hregs, hentry, hdst, hvalid, hothers⟩
    · exact ⟨_, exec_routeWrite n e d s hopen, routeWrite_illegal n.val e.val d s.ok h⟩
  · rw [routeLoWrite, State.setNi_ni_same]
    exact SMap.get_set_same _ _ _ _
  · rw [routeLoWrite, State.setNi_ni_same]
    exact SMap.get_set_ne _ _ _ _ _ _ hne

end Sys2Proof.Machine
end

section
namespace Sys2Proof.Machine

/-! ## The only flit of the network, in an input buffer of a router (R224, R228, R231) -/

theorem flatMap_range_one {α : Type} (l : List α) (k n : Nat) :
    (List.range n).flatMap (fun i => if k = i then l else []) = if k < n then l else [] := by
  induction n with
  | zero => simp
  | succ n ih =>
    rw [List.range_succ, List.flatMap_append, ih, List.flatMap_singleton]
    rcases Nat.lt_trichotomy k n with h | h | h
    · simp [h, Nat.lt_succ_of_lt h, h.ne]
    · simp [h]
    · simp [h.ne', Nat.not_lt.2 h.le, Nat.not_lt.2 (Nat.succ_le_of_lt h)]

section
variable {s : State} {f : Flight} {x : Flit} (hf : s.noc.flights = [f]) (hx : f.flits = [x])
include hf hx

/-- The only flit leaves room for one more in every buffer. -/
theorem State.room_sole (lay : Layer) (c q j : Nat) : s.room lay c q j 1 = true := by
  have hle : s.inBuffer lay c q j ≤ 1 := by
    simp only [State.inBuffer, hf, hx, List.map_cons, List.map_nil, List.sum_cons, List.sum_nil]
    split
    · exact List.length_filter_le _ _
    · omega
  simp only [State.room, decide_eq_true_eq]
  omega

/-- With no output held, it may pass where neither its router nor the next is quiescing (R238). -/
theorem State.mayPass_sole {lay : Layer} {r : Nat} (hlocks : s.noc.locks = []) (out : Nat)
    (hgo : s.regB (rtStat lay r) 0 = false)
    (hnext : ∀ q, nextRouter r out = some q → s.regB (rtStat lay q) 0 = false) :
    s.mayPass lay r out (f, 0, x) = true := by
  have hfree (q o c : Nat) : s.lockOf lay q o c = none := by
    rw [State.lockOf, hlocks]
    rfl
  unfold State.mayPass
  simp only [hfree, hgo]
  cases hq : nextRouter r out with
  | none => rfl
  | some q => simp [State.room_sole hf hx, hnext q hq]

variable {lay : Layer} {r inp : Nat} (hat : x.at_ = .router r inp) (hlay : f.pk.lay = lay)
include hat hlay

theorem State.headFlit_sole (c j : Nat) :
    s.headFlit lay c r j = if inp = j ∧ Packet.tc f.pk = c then some (f, 0, x) else none := by
  by_cases hc : Packet.tc f.pk = c
  · by_cases hj : inp = j <;> simp [State.headFlit, hf, hx, hat, hlay, hc, hj]
  · simp [State.headFlit, hf, hc]

theorem State.atOutput_sole (hinp : inp < 6) : s.atOutput lay r (bitsOf x.hdr.toNat 2 0) = [(f, 0, x)] := by
  have hclass (j : Nat) : (List.range 4).filterMap (fun c => s.headFlit lay c r j) =
      if inp = j then [(f, 0, x)] else [] := by
    have hone (c : Nat) : (s.headFlit lay c r j).toList =
        if Packet.tc f.pk = c then (if inp = j then [(f, 0, x)] else []) else [] := by
      rw [State.headFlit_sole hf hx hat hlay]
      by_cases hc : Packet.tc f.pk = c <;> by_cases hj : inp = j <;> simp [hc, hj]
    simp only [List.filterMap_eq_flatMap_toList, hone, flatMap_range_one, Packet.tc_lt, if_true]
  have hheads : (List.range 6).flatMap (fun j => (List.range 4).filterMap (fun c => s.headFlit lay c r j)) =
      [(f, 0, x)] := by
    simp only [hclass, flatMap_range_one, hinp, if_true]
  simp [State.atOutput, hheads, bySeq]

end

/-! ## The choice of an output (R231) -/

theorem Weight_pos (cfg : Word) (k : Nat) : 0 < Weight cfg k := by
  unfold Weight
  split <;> exact Nat.lt_of_lt_of_le Nat.one_pos (Nat.le_max_right _ _)

/-- The class that waits alone is the next of the round. -/
theorem State.roundOf_sole (s : State) (cfg : Word) (sent : Nat × Nat × Nat) (k : Nat) :
    ∃ u, s.roundOf cfg sent [k] = (some k, u, { s with free := s.free + 1 }) := by
  unfold State.roundOf
  by_cases hused : (if k = 2 then sent.1 else if k = 3 then sent.2.1 else sent.2.2) < Weight cfg k
  · simp [hused, State.freeChoice]
  · simp [hused, Weight_pos, State.freeChoice]

theorem State.roundPick_sole (s : State) (lay : Layer) (r out k : Nat) : ∃ m l, s.roundPick lay r out [k] =
    (some k, { s with free := m, noc.rounds := l }) := by
  unfold State.roundPick
  simp only []
  rw [(s.roundOf_sole _ _ k).choose_spec]
  exact ⟨_, _, rfl⟩

theorem Packet.tier_cases (pk : Packet) : Packet.tier pk = 0 ∨ Packet.tier pk = 1 ∨ Packet.tier pk ∈ [2, 3, 4] := by
  have htc := Packet.tc_lt pk
  simp only [Packet.tier, List.mem_cons, List.not_mem_nil, or_false]
  split <;> omega

/-! ## ROUTER_FORWARD (R228, R231, R239) -/

/-- Whether hop code `out` leads a flit out of router `r`: the output is there, and enabled. -/
def State.leads (s : State) (lay : Layer) (r out : Nat) : Prop :=
  out ≤ 5 ∧ s.regB (rtCfg lay r) (12 + out) = true ∧ (out < 4 → nextRouter r out ≠ none)

/-- The one flit at an output that may pass passes, whatever its class; a round may be counted. -/
theorem routerForward_passes (lay : Layer) (r out : Nat) (f : Flight) (x : Flit) (s : State) (hleads : s.leads lay r out)
    (hout : s.atOutput lay r out = [(f, 0, x)]) (hpass : s.mayPass lay r out (f, 0, x) = true) :
    ∃ m l, routerForward lay r out s =
      (State.passFlit { s with free := m, noc.rounds := l } lay r out f 0 x).freed r x := by
  obtain ⟨hle, hen, hthere⟩ := hleads
  have hgood : (decide (5 < out) || !s.regB (rtCfg lay r) (12 + out) ||
      (decide (out < 4) && (nextRouter r out).isNone)) = false := by
    by_cases h4 : out < 4
    · simp [hen, hle, h4, Option.isSome_iff_ne_none, hthere h4]
    · simp [hen, hle, h4]
  have hgo : [(f, 0, x)].filter (fun y => s.mayPass lay r out y) = [(f, 0, x)] := by simp [hpass]
  have hfirst (k : Nat) : [(f, 0, x)].find? (fun y => Packet.tier y.1.pk == k) =
      if Packet.tier f.pk = k then some (f, 0, x) else none := by
    by_cases h : Packet.tier f.pk = k <;> simp [h]
  simp only [routerForward, hout, hgood, hgo, hfirst, Bool.false_eq_true, if_false]
  rcases Packet.tier_cases f.pk with h0 | h1 | hlow
  · simp only [h0, if_true]
    exact ⟨s.free, s.noc.rounds, rfl⟩
  · simp only [h1, if_true, if_neg Nat.one_ne_zero]
    exact ⟨s.free, s.noc.rounds, rfl⟩
  · obtain ⟨k, hk⟩ : ∃ k, Packet.tier f.pk = k := ⟨_, rfl⟩
    rw [hk] at hlow
    have hwaits : [2, 3, 4].filter (fun j => (if k = j then some (f, 0, x) else none).isSome) = [k] := by
      simp only [List.mem_cons, List.not_mem_nil, or_false] at hlow
      rcases hlow with rfl | rfl | rfl <;> rfl
    obtain ⟨m, l, hpick⟩ := s.roundPick_sole lay r out k
    have h0 : k ≠ 0 := by rintro rfl; simp at hlow
    have h1 : k ≠ 1 := by rintro rfl; simp at hlow
    simp only [hk, hwaits, hpick, h0, h1, if_false, Option.bind_some, if_true]
    exact ⟨m, l, rfl⟩

/-- At an output that leads nowhere the flit's packet is discarded, and the router shows it (R239). -/
theorem routerForward_discards (lay : Layer) (r out : Nat) (f : Flight) (x : Flit) (s : State)
    (hbad : 5 < out ∨ s.regB (rtCfg lay r) (12 + out) = false ∨ (out < 4 ∧ nextRouter r out = none))
    (hout : s.atOutput lay r out = [(f, 0, x)]) :
    routerForward lay r out s = (s.orReg (rtStat lay r) 4).discardPacket f := by
  have hcond : (decide (5 < out) || !s.regB (rtCfg lay r) (12 + out) ||
      (decide (out < 4) && (nextRouter r out).isNone)) = true := by
    rcases hbad with h | h | ⟨h, hnone⟩
    · simp [h]
    · simp [h]
    · simp [h, hnone]
  simp only [routerForward, hout, hcond, if_true]

/-- ROUTE of a flit that moves on (R228). -/
theorem shiftRoute_route (h : BitVec 64) :
    bitsOf (shiftRoute h).toNat 29 0 = bitsOf h.toNat 29 0 / 8 + 7 * 2 ^ 27 := by
  have hlt : bitsOf h.toNat 29 0 < 2 ^ 30 := Nat.mod_lt _ (by decide)
  rw [shiftRoute, bitsOf_hdrPut_same _ _ _ _ _ (by decide) (Nat.le_refl 29)]
  exact Nat.mod_eq_of_lt (by omega)

/-- Where a flit stands that has passed output `out` of router `r`. -/
def placeBeyond (r out : Nat) : Place := (nextRouter r out).elim (.ni (2 * r + (out - 4))) (.router · ((out + 2) % 4))

theorem State.passFlit_sole {s : State} {f : Flight} {x : Flit} (hf : s.noc.flights = [f]) (hx : f.flits = [x])
    (lay : Layer) (r out : Nat) : (s.passFlit lay r out f 0 x).noc.flights =
        [{ f with flits := [{ x with hdr := shiftRoute x.hdr, at_ := placeBeyond r out, seq := s.noc.count }] }] ∧
      (s.passFlit lay r out f 0 x).noc.nis = s.noc.nis ∧ (s.passFlit lay r out f 0 x).regs = s.regs := by
  have hplace : (match nextRouter r out with
      | some q => .router q ((out + 2) % 4)
      | none => .ni (2 * r + (out - 4))) = placeBeyond r out := by
    unfold placeBeyond
    cases nextRouter r out <;> rfl
  refine ⟨?_, rfl, rfl⟩
  simp only [State.passFlit, State.putFlit, hf, hx, List.map_cons, List.map_nil, if_true, List.set_cons_zero]
  exact congrArg (fun p => [{ f with flits := [{ x with hdr := shiftRoute x.hdr, at_ := p, seq := s.noc.count }] }]) hplace

theorem State.pump_idle (s : State) (n : Nat) (hq : (s.ni n).queue = []) :
    s.pump n = s.setNi n { s.ni n with queue := [] } := by
  simp [State.pump, hq, State.pumpList]

/-- Where no packet waits at the NIs of a router, a place that becomes free moves none. -/
theorem State.freed_idle (s : State) (r : Nat) (x : Flit) (h0 : (s.ni (2 * r)).queue = [])
    (h1 : (s.ni (2 * r + 1)).queue = []) :
    (s.freed r x).noc.flights = s.noc.flights ∧ (s.freed r x).regs = s.regs := by
  unfold State.freed
  split
  · rw [s.pump_idle _ h0]
    exact ⟨rfl, rfl⟩
  · rw [s.pump_idle _ h1]
    exact ⟨rfl, rfl⟩
  · exact ⟨rfl, rfl⟩

/-! ## Packets that no unit takes by itself (Table NC-3) -/

/-- Only posted packets other than WRP and LWRP are taken without a row of their own. -/
theorem State.takeOne_stays (s : State) (f : Flight) (n : Nat)
    (h : Packet.kind f.pk = .posted → Packet.opc f.pk = 3) : s.takeOne f n = s := by
  have hkind (lay : Layer) (o : Nat) (hl : f.pk.lay = lay) (ho : Packet.opc f.pk = o) (hp : opKind lay o = .posted) :
      o = 3 := by
    rw [← ho]
    exact h (by rw [Packet.kind, hl, ho, hp])
  unfold State.takeOne
  simp only []
  split
  next hl ho => exact absurd (hkind _ _ hl ho rfl) (by decide)
  next hl ho => exact absurd (hkind _ _ hl ho rfl) (by decide)
  next hl ho => exact absurd (hkind _ _ hl ho rfl) (by decide)
  next hl ho => exact absurd (hkind _ _ hl ho rfl) (by decide)
  · rfl

/-- The only packet stays in the network while it is not at an NI, or when it is for a row to take. -/
theorem State.takePosted_sole {s : State} {f : Flight} (hf : s.noc.flights = [f]) (h : (∀ n, f.atNi n = false) ∨
    (Packet.kind f.pk ≠ .reserved ∧ (Packet.kind f.pk = .posted → Packet.opc f.pk = 3))) : s.takePosted = s := by
  have hheads : s.takeHeads = s := by
    refine foldl_eq_self _ _ _ fun n _ => foldl_eq_self _ _ _ fun lay _ => foldl_eq_self _ _ _ fun c _ => ?_
    by_cases hat : f.atNi n = true
    · obtain ⟨hkind, hopc⟩ := h.resolve_left fun hno => by simp [hno n] at hat
      rw [State.headAt_sole hf hat]
      by_cases hsel : f.pk.lay = lay ∧ Packet.tc f.pk = c
      · simp only [hsel, and_self, if_true, hkind, if_false]
        exact s.takeOne_stays f n hopc
      · simp only [hsel, if_false]
    · have hnone : s.headAt n lay c = none := by simp [State.headAt, hf, hat]
      rw [hnone]
  simp [State.takePosted, hf, State.takeN, hheads]

end Sys2Proof.Machine
end

section
namespace Sys2Proof.Machine

/-! ## The registers of the routers (Table NC-5) -/

theorem rtStat_ne (lay : Layer) (r a : Nat) (ha : a < 0x120400) : a ≠ rtStat lay r := by
  cases lay <;> simp only [rtStat, rtReg, Reg.drtStat, Reg.crtStat] <;> omega

theorem rtStat_lt (lay : Layer) {r : Nat} (hr : r < 24) : rtStat lay r < 0x121000 := by
  cases lay <;> simp only [rtStat, rtReg, Reg.drtStat, Reg.crtStat] <;> omega

/-- Sticky bits that are set leave the other bits of every register. -/
theorem State.orReg_regB_keeps (s : State) (a m b i : Nat) (h : (word m).bit i = false) :
    (s.orReg a m).regB b i = s.regB b i := by
  by_cases hb : b = a
  · rw [hb, State.regB, State.orReg_reg_same, Word.bit_or, h, Bool.or_false, State.regB]
  · rw [State.regB, State.orReg_reg_ne _ _ _ _ hb, State.regB]

/-! ## The answer to a request that a router discards (R239) -/

/-- A field inside the one that was written. -/
theorem bitsOf_hdrPut_sub (h : BitVec 64) (hi lo v hi' lo' : Nat) (hh : hi < 64) (hlo : lo ≤ lo') (hhi : hi' ≤ hi)
    (hne : lo' ≤ hi') : bitsOf (hdrPut h hi lo v).toNat hi' lo' = bitsOf v (hi' - lo) (lo' - lo) := by
  apply Nat.eq_of_testBit_eq
  intro i
  rw [testBit_bitsOf, testBit_bitsOf, testBit_hdrPut h hi lo v _ hh, show lo' + i - lo = lo' - lo + i by omega,
    show hi' - lo + 1 - (lo' - lo) = hi' + 1 - lo' by omega]
  by_cases hi' : i < hi' + 1 - lo'
  · rw [if_pos (by omega)]
  · simp [hi']

/-- The answer ROUTE_FAIL that NI 47 gives in place of the target. -/
def failPk (pk : Packet) : Packet :=
  { pk with
    hdr := match pk.lay with
      | .c => hdrPut (hdrPut pk.hdr 47 44 8) 63 48 3
      | .d => hdrPut (hdrPut (hdrPut pk.hdr 47 44 (if Packet.opc pk = 1 then 8 else 9)) 60 50 (3 * 256)) 49 48 0
    body := [0#512] }

theorem failPk_fields (pk : Packet) : Packet.tc (failPk pk) = Packet.tc pk ∧ Packet.tag (failPk pk) = Packet.tag pk ∧
    Packet.status (failPk pk) = 3 ∧ Packet.flits (failPk pk) = 1 ∧ Packet.kind (failPk pk) = .response := by
  have hopc : (if Packet.opc pk = 1 then 8 else 9) = 8 ∨ (if Packet.opc pk = 1 then 8 else 9) = 9 := by
    split <;> simp
  unfold failPk
  cases pk.lay with
  | c =>
    simp (disch := decide) [Packet.tc, Packet.tag, Packet.status, Packet.flits, Packet.kind, Packet.opc, Packet.f,
      bitsOf_hdrPut_same, bitsOf_hdrPut_ne]
    rfl
  | d =>
    rcases hopc with h | h <;> rw [h] <;>
      simp (disch := decide) [Packet.tc, Packet.tag, Packet.status, Packet.flits, Packet.kind, Packet.opc, Packet.f,
        bitsOf_hdrPut_same, bitsOf_hdrPut_ne, bitsOf_hdrPut_sub] <;>
      exact ⟨rfl, rfl⟩

theorem State.discardPacket_request (s : State) (f : Flight) (h : Packet.kind f.pk = .request) :
    s.discardPacket f = ((s.dropFlight f).orReg Reg.nocStat 4).send 47 (Packet.src f.pk) (failPk f.pk) := if_pos h

/-- NI 47 sends the answer with its own route, the class and the TAG of the request and STATUS ROUTE_FAIL. -/
theorem State.sendFail_enters (s : State) (dst : Nat) (pk : Packet) (h : s.letsGo 47 (failPk pk)) :
    ∃ g, (s.send 47 dst (failPk pk)).noc.flights = [g] ∧ g.flits.map Flit.at_ = [.router 23 5] ∧ Packet.src g.pk = 47 ∧
      Packet.status g.pk = 3 ∧ Packet.tag g.pk = Packet.tag pk := by
  obtain ⟨-, htag, hstatus, hone, hkind⟩ := failPk_fields pk
  obtain ⟨-, v, g, hflights, hplace, hg⟩ := s.send_enters 47 dst (failPk pk) h hone (by decide)
  have hfield (hi lo : Nat) (hlo : 38 ≤ lo) (hhi : hi < 61) :
      bitsOf g.pk.hdr.toNat hi lo = bitsOf (failPk pk).hdr.toNat hi lo := by
    rw [hg]
    exact v.packetHdr_keeps 47 dst _ true hi lo hkind hlo hhi
  refine ⟨g, hflights, hplace, ?_, ?_, ?_⟩
  · rw [hg]
    exact (v.packetHdr_fields 47 dst (failPk pk) true (by decide)).1
  · rw [← hstatus]
    have hlay : g.pk.lay = (failPk pk).lay := by rw [hg]
    simp only [Packet.status, hlay]
    cases (failPk pk).lay with
    | c => exact hfield 50 48 (by decide) (by decide)
    | d => exact hfield 60 58 (by decide) (by decide)
  · exact (hfield 43 38 (by decide) (by decide)).trans htag

/-! ## ROUTER_FORWARD of the only flit -/

/-- From `s` to `t` the only flit of `f` has moved to place `p`, with its route shifted. -/
def State.flitMoved (s t : State) (f : Flight) (x : Flit) (p : Place) : Prop :=
  ∃ g y, t.noc.flights = [g] ∧ g.pk = f.pk ∧ g.flits = [y] ∧ y.at_ = p ∧
    bitsOf y.hdr.toNat 29 0 = bitsOf x.hdr.toNat 29 0 / 8 + 7 * 2 ^ 27 ∧ t.regs = s.regs

section
variable {s : State} {f : Flight} {x : Flit} {lay : Layer} {r inp out : Nat} (hf : s.noc.flights = [f])
  (hx : f.flits = [x]) (hat : x.at_ = .router r inp) (hlay : f.pk.lay = lay) (hinp : inp < 6)
  (hout : bitsOf x.hdr.toNat 2 0 = out)
include hf hx hat hlay hinp hout

/-- At an output that leads on, the flit moves to the place beyond, where no unit takes it. -/
theorem routerForward_moves (h0 : (s.ni (2 * r)).queue = []) (h1 : (s.ni (2 * r + 1)).queue = [])
    (hlocks : s.noc.locks = []) (hleads : s.leads lay r out) (hgo : s.regB (rtStat lay r) 0 = false)
    (hnext : ∀ q, nextRouter r out = some q → s.regB (rtStat lay q) 0 = false)
    (hstays : nextRouter r out ≠ none ∨
      (Packet.kind f.pk ≠ .reserved ∧ (Packet.kind f.pk = .posted → Packet.opc f.pk = 3))) :
    s.flitMoved (routerForward lay r out s).takePosted f x (placeBeyond r out) := by
  have hone := hout ▸ State.atOutput_sole hf hx hat hlay hinp
  obtain ⟨m, l, hpass⟩ := routerForward_passes lay r out f x s hleads hone
    (State.mayPass_sole hf hx hlocks out hgo hnext)
  obtain ⟨v, hv⟩ : ∃ v : State, v = { s with free := m, noc.rounds := l } := ⟨_, rfl⟩
  obtain ⟨hflights, hnis, hregs⟩ := State.passFlit_sole (s := v) (by rw [hv]; exact hf) hx lay r out
  have hni (n : Nat) : (v.passFlit lay r out f 0 x).ni n = s.ni n := by
    rw [State.ni, hnis, hv]
    rfl
  obtain ⟨hflights', hregs'⟩ := (v.passFlit lay r out f 0 x).freed_idle r x (by rw [hni]; exact h0)
    (by rw [hni]; exact h1)
  have hsole := hflights'.trans hflights
  rw [hpass, ← hv, State.takePosted_sole hsole]
  · exact ⟨_, _, hsole, rfl, rfl, rfl, shiftRoute_route _, by rw [hregs', hregs, hv]⟩
  · refine hstays.imp (fun h n => ?_) id
    obtain ⟨q, hq⟩ := Option.ne_none_iff_exists'.1 h
    simp [Flight.atNi, placeBeyond, hq]

/-- A packet without an answer is counted where its output leads nowhere (R239). -/
theorem routerForward_drops (hbad : 5 < out ∨ s.regB (rtCfg lay r) (12 + out) = false ∨
      (out < 4 ∧ nextRouter r out = none)) (hkind : Packet.kind f.pk ≠ .request) :
    (routerForward lay r out s).takePosted.noc.flights = [] ∧
      s.counts (routerForward lay r out s).takePosted Reg.nocRfailDrop 1 := by
  have hone := hout ▸ State.atOutput_sole hf hx hat hlay hinp
  have hdrop : routerForward lay r out s =
      (((s.orReg (rtStat lay r) 4).dropFlight f).orReg Reg.nocStat 4).bump Reg.nocRfailDrop 1 := by
    rw [routerForward_discards lay r out f x s hbad hone, State.discardPacket]
    exact if_neg hkind
  have hflights : (routerForward lay r out s).noc.flights = [] := by
    rw [hdrop]
    exact State.dropFlight_sole (s := s.orReg (rtStat lay r) 4) hf
  have htake : (routerForward lay r out s).takePosted = routerForward lay r out s := if_pos hflights
  rw [htake]
  refine ⟨hflights, State.counts_of_bump (u := ((s.orReg (rtStat lay r) 4).dropFlight f).orReg Reg.nocStat 4) ?_
    (by rw [hdrop])⟩
  rw [State.orReg_reg_ne _ _ _ _ (by decide)]
  exact State.orReg_reg_ne _ _ _ _ (rtStat_ne lay r _ (by decide))

/-- A request is answered by NI 47 where its output leads nowhere (R239). -/
theorem routerForward_answers (hr : r < 24) (hbad : 5 < out ∨ s.regB (rtCfg lay r) (12 + out) = false ∨
      (out < 4 ∧ nextRouter r out = none)) (hkind : Packet.kind f.pk = .request) (hq : (s.ni 47).queue = [])
    (hconf : s.conforms 47 (Packet.tc f.pk) = true) (hst : s.regB (rtStat lay 23) 0 = false) :
    ∃ g, (routerForward lay r out s).takePosted.noc.flights = [g] ∧ g.flits.map Flit.at_ = [.router 23 5] ∧
      Packet.src g.pk = 47 ∧ Packet.status g.pk = 3 ∧ Packet.tag g.pk = Packet.tag f.pk := by
  have hone := hout ▸ State.atOutput_sole hf hx hat hlay hinp
  obtain ⟨u, hu⟩ : ∃ u, u = ((s.orReg (rtStat lay r) 4).dropFlight f).orReg Reg.nocStat 4 := ⟨_, rfl⟩
  have hsend : routerForward lay r out s = u.send 47 (Packet.src f.pk) (failPk f.pk) := by
    rw [routerForward_discards lay r out f x s hbad hone, State.discardPacket_request _ _ hkind, hu]
  obtain ⟨htc, -⟩ := failPk_fields f.pk
  have hreg (a : Nat) (h1 : a ≠ Reg.nocStat) (h2 : a ≠ rtStat lay r) : u.reg a = s.reg a := by
    rw [hu, State.orReg_reg_ne _ _ _ _ h1]
    exact State.orReg_reg_ne _ _ _ _ h2
  have hgo : u.letsGo 47 (failPk f.pk) := by
    refine ⟨by rw [hu]; exact State.dropFlight_sole (s := s.orReg (rtStat lay r) 4) hf, by rw [hu]; exact hq, ?_, ?_⟩
    · rw [htc, State.conforms_bucket s u 47 _ (Packet.tc_lt f.pk) ?_ (hreg _ ?_ ?_) ?_ ?_ ?_]
      · exact hconf
      · rw [State.released, State.regB, hreg _ (by decide) (rtStat_ne lay r _ (by decide))]
        rfl
      · simp only [Reg.niTb, Reg.nocStat]
        omega
      · have := rtStat_lt lay hr
        simp only [Reg.niTb]
        omega
      all_goals
        rw [hu]
        rfl
    · rw [hu, State.orReg_regB_keeps _ _ _ _ _ (by decide)]
      exact (State.orReg_regB_keeps _ _ _ _ _ (by decide)).trans (hlay ▸ hst)
  obtain ⟨g, hflights, hplace, hfields⟩ := u.sendFail_enters (Packet.src f.pk) f.pk hgo
  rw [hsend, State.takePosted_sole hflights]
  · exact ⟨g, hflights, hplace, hfields⟩
  · refine .inl fun n => ?_
    obtain ⟨y, hy, hyat⟩ := List.map_eq_singleton_iff.1 hplace
    simp [Flight.atNi, hy, hyat]

end

end Sys2Proof.Machine
end

section
namespace Sys2Proof.Machine

/-! ## Quiescing (R238, R239) -/

section
variable (a : Nat) (ha : a < 0x121000)
include ha

theorem State.launch_reg (s : State) (n dst : Nat) (pk : Packet) (conf : Bool) :
    (s.launch n dst pk conf).reg a = s.reg a := by
  unfold State.launch
  simp only []
  split <;> exact s.statSent_reg n _ _ a ha

/-- What the NIs inject leaves every register but their own. -/
theorem State.pumpList_reg (n : Nat) (q : List (Nat × Packet)) (s : State) (held : List Nat) :
    (s.pumpList n q held).2.reg a = s.reg a := by
  induction q generalizing s held with
  | nil => rfl
  | cons p q ih =>
    obtain ⟨d, pk⟩ := p
    rw [State.pumpList]
    simp only []
    split
    · exact ih _ _
    · split
      · exact ih _ _
      · rw [ih, State.launch_reg a ha]
        split
        · obtain ⟨l, hl⟩ := s.spend_only n (Packet.tc pk) (Packet.flits pk)
          rw [hl]
          rfl
        · rfl

theorem State.pump_reg (s : State) (n : Nat) : (s.pump n).reg a = s.reg a := s.pumpList_reg a ha n _ _

end

theorem State.pump_flights (s : State) (n : Nat) (hq : (s.ni n).queue = []) :
    (s.pump n).noc.flights = s.noc.flights ∧ ∀ j, ((s.pump n).ni j).queue = (s.ni j).queue := by
  rw [s.pump_idle n hq]
  refine ⟨rfl, fun j => ?_⟩
  by_cases hj : j = n
  · rw [hj, State.setNi_ni_same, hq]
  · rw [State.setNi_ni_ne _ _ _ _ hj]

theorem rtCfg_place (lay : Layer) {r : Nat} (hr : r < 24) : rtCfg lay r < 0x121000 ∧ Reg.nocStat ≠ rtCfg lay r ∧
    rtCfg lay r ≠ rtStat lay r := by
  cases lay <;> simp only [rtCfg, rtStat, rtReg, Reg.drtCfg, Reg.crtCfg, Reg.drtStat, Reg.crtStat, Reg.nocStat] <;> omega

/-- The staged configuration comes into force and the quiesce ends; where no packet waits at the NIs, none moves. -/
theorem State.applyStg_applies (s : State) (lay : Layer) (r : Nat) (hr : r < 24) :
    (s.applyStg lay r).regB (rtStat lay r) 0 = false ∧ (s.applyStg lay r).reg (rtCfg lay r) = s.reg (rtStg lay r) ∧
      ((s.ni (2 * r)).queue = [] → (s.ni (2 * r + 1)).queue = [] → (s.applyStg lay r).noc.flights = s.noc.flights) := by
  obtain ⟨u, hu⟩ : ∃ u, u = (s.setReg (rtCfg lay r) (s.reg (rtStg lay r))).clrReg (rtStat lay r) 1 := ⟨_, rfl⟩
  have happly : s.applyStg lay r = (u.pump (2 * r)).pump (2 * r + 1) := by rw [hu]; rfl
  have hreg (a : Nat) (ha : a < 0x121000) : (s.applyStg lay r).reg a = u.reg a := by
    rw [happly, State.pump_reg a ha, State.pump_reg a ha]
  obtain ⟨hcfg, -, hne⟩ := rtCfg_place lay hr
  refine ⟨?_, ?_, fun h0 h1 => ?_⟩
  · rw [State.regB, hreg _ (rtStat_lt lay hr), hu]
    exact State.clrReg_regB_two_pow _ _ 0 (by decide)
  · rw [hreg _ hcfg, hu, State.clrReg_reg_ne _ _ _ _ hne, State.setReg_reg_same]
  · have hq (n : Nat) : (u.ni n).queue = (s.ni n).queue := by rw [hu]; rfl
    obtain ⟨hflights, hqueue⟩ := u.pump_flights (2 * r) (by rw [hq]; exact h0)
    rw [happly, (State.pump_flights _ _ (by rw [hqueue, hq]; exact h1)).1, hflights, hu]
    rfl

theorem State.reportOn_noc (s : State) (code unit subj : Nat) : (s.reportOn code unit subj).noc = s.noc := by
  unfold State.reportOn State.reportOnce
  split <;> rfl

/-- A fault of a router in which no packet is discards none, applies what is staged, and is shown and reported. -/
theorem routerFault_empty (lay : Layer) (r : Nat) (s : State) (hquiet : s.regB (rtStat lay r) 0 = true)
    (hnone : ∀ f ∈ s.noc.flights, f.pk.lay = lay → f.inRouter r = false) : ∃ unit, routerFault lay r s =
      (((s.applyStg lay r).orReg (rtStat lay r) 2).orReg Reg.nocStat 4).report 0x10 unit := by
  have hin : s.noc.flights.filter (fun f => f.pk.lay == lay && f.inRouter r) = [] := by
    refine List.filter_eq_nil_iff.2 fun f hf => ?_
    by_cases hl : f.pk.lay = lay
    · simp [hnone f hf hl]
    · simp [hl]
  simp only [routerFault, hquiet, if_true, hin, List.foldl_nil]
  exact ⟨_, rfl⟩

theorem routerFault_applies (lay : Layer) (r : Nat) (s : State) (hr : r < 24) (hquiet : s.regB (rtStat lay r) 0 = true)
    (hnone : ∀ f ∈ s.noc.flights, f.pk.lay = lay → f.inRouter r = false) :
    (routerFault lay r s).regB (rtStat lay r) 0 = false ∧ (routerFault lay r s).regB (rtStat lay r) 1 = true ∧
      (routerFault lay r s).regB Reg.nocStat 2 = true ∧ (routerFault lay r s).reg (rtCfg lay r) = s.reg (rtStg lay r) ∧
      ((s.ni (2 * r)).queue = [] → (s.ni (2 * r + 1)).queue = [] →
        (routerFault lay r s).noc.flights = s.noc.flights) := by
  obtain ⟨hend, hcfg, hflights⟩ := s.applyStg_applies lay r hr
  obtain ⟨-, hcfgStat, hne⟩ := rtCfg_place lay hr
  obtain ⟨unit, hfault⟩ := routerFault_empty lay r s hquiet hnone
  obtain ⟨u, hu⟩ : ∃ u, u = (s.applyStg lay r).orReg (rtStat lay r) 2 := ⟨_, rfl⟩
  have hreg (a : Nat) : (routerFault lay r s).reg a = (u.orReg Reg.nocStat 4).reg a := by
    rw [hfault, hu]
    exact State.reportOn_reg _ _ _ _ _
  have hregB (a i : Nat) : (routerFault lay r s).regB a i = (u.orReg Reg.nocStat 4).regB a i := by
    rw [State.regB, hreg, State.regB]
  refine ⟨?_, ?_, ?_, ?_, fun h0 h1 => ?_⟩
  · rw [hregB, State.orReg_regB_keeps _ _ _ _ _ (by decide), hu, State.orReg_regB_keeps _ _ _ _ _ (by decide)]
    exact hend
  · rw [hregB, State.orReg_regB_keeps _ _ _ _ _ (by decide), hu]
    exact State.orReg_regB _ _ _ _ (by decide)
  · rw [hregB]
    exact State.orReg_regB _ _ _ _ (by decide)
  · rw [hreg, State.orReg_reg_ne _ _ _ _ hcfgStat.symm, hu, State.orReg_reg_ne _ _ _ _ hne, hcfg]
  · rw [hfault]
    exact (congrArg Noc.flights (State.reportOn_noc _ _ _ _)).trans (hflights h0 h1)

/-- Settles O35: the one flit moves, is answered or is dropped, by where its output leads; then the quiesce from its start
to its end or its fault. -/
theorem routers : Obligations.Routers := by
  refine ⟨?_, fun lay r s => ⟨fun hopen => ?_, fun hquiet => ⟨fun hsw => ?_, fun hsw => ?_, fun hnone => ?_⟩⟩⟩
  · intro lay r inp out f x s hf hx hat hlay hout hlocks h0 h1 moved
    refine ⟨fun hle hen hgo => ⟨fun q hq hnext => ?_, fun h4 hkind hopc => ?_⟩, fun hbad =>
      ⟨fun hkind hq hconf hst => ?_, fun hkind => ?_⟩⟩
    · have hmoves := routerForward_moves hf hx hat hlay inp.isLt hout h0 h1 hlocks
        ⟨hle, hen, fun _ => by simp [hq]⟩ hgo (fun q' hq' => by rw [← Option.some.inj (hq.symm.trans hq')]; exact hnext)
        (.inl (by simp [hq]))
      rw [placeBeyond, hq] at hmoves
      exact ⟨_, rfl, hmoves⟩
    · have hnone : nextRouter r.val out.val = none := by
        unfold nextRouter
        rw [if_neg (by omega), if_neg (by omega), if_neg (by omega), if_neg (by omega)]
      have hmoves := routerForward_moves hf hx hat hlay inp.isLt hout h0 h1 hlocks
        ⟨hle, hen, fun h => by omega⟩ hgo (fun q' hq' => by simp [hnone] at hq') (.inr ⟨hkind, hopc⟩)
      rw [placeBeyond, hnone] at hmoves
      exact ⟨_, rfl, hmoves⟩
    · obtain ⟨g, hanswer⟩ := routerForward_answers hf hx hat hlay inp.isLt hout r.isLt hbad hkind hq hconf hst
      exact ⟨_, g, rfl, hanswer⟩
    · exact ⟨_, rfl, routerForward_drops hf hx hat hlay inp.isLt hout hbad hkind⟩
  · refine ⟨_, congrArg Host.Outcome.next (s.viaBlock_opens .noc _ hopen), ?_, rfl, fun a ha => ?_⟩
    · exact State.orReg_regB _ _ _ _ (by decide)
    · exact State.orReg_reg_ne _ _ _ _ ha
  · refine congrArg Host.Outcome.next ?_
    simp [quiesceDone, hsw]
  · refine ⟨_, congrArg Host.Outcome.next ?_, s.applyStg_applies lay r.val r.isLt⟩
    simp [quiesceDone, hquiet, hsw]
  · exact ⟨_, rfl, routerFault_applies lay r.val s r.isLt hquiet hnone⟩

end Sys2Proof.Machine
end

section
namespace Sys2Proof.Machine

/-! ## Link-local cells (Table SH-2) -/

/-- The type of a cell stands in the low four bits of its header, apart from the check. -/
theorem bitsOf_mkHdr_ctype (ctype tc hidx dst src route : Nat) (h : ctype < 16) :
    bitsOf (mkHdr ctype tc hidx dst src route).toNat 3 0 = ctype := by
  simp only [bitsOf, mkHdr, BitVec.toNat_ofNat, Nat.shiftRight_zero]
  omega

theorem State.cCtype_localCell (s : State) (l ctype : Nat) (body : BitVec 576) (h : ctype < 16) :
    cCtype (s.localCell l ctype body) = ctype := bitsOf_mkHdr_ctype _ _ _ _ _ _ h

/-- Cells that a link sends are shown, and nothing else of the link changes. -/
theorem State.txCells_link_same (s : State) (l : Nat) (cs : List Cell) :
    (s.txCells l cs).link l = { s.link l with tx := cs } := State.setLink_link_same _ _ _

/-! ## What the traffic of the links leaves -/

/-- From `s` to `t` nothing has changed but the links. -/
def State.linksOnly (s t : State) : Prop := t = { s with shg.links := t.shg.links }

theorem State.linksOnly_refl (s : State) : s.linksOnly s := rfl

theorem State.linksOnly.txCells {s t : State} (h : s.linksOnly t) (l : Nat) (cs : List Cell) :
    s.linksOnly (t.txCells l cs) := by
  unfold State.linksOnly at h ⊢
  rw [h]
  rfl

section
variable {s t : State} (h : s.linksOnly t)
include h

theorem State.linksOnly.regs : t.regs = s.regs := by rw [h]
theorem State.linksOnly.skseq : t.shg.skseq = s.shg.skseq := by rw [h]
theorem State.linksOnly.linkUpQ (l : Nat) : t.linkUpQ l = s.linkUpQ l := by rw [h]; rfl
theorem State.linksOnly.regB (a i : Nat) : t.regB a i = s.regB a i := by rw [h]; rfl
theorem State.linksOnly.regF (a hi lo : Nat) : t.regF a hi lo = s.regF a hi lo := by rw [h]; rfl

end

/-! ## Link delay (R253) -/

theorem dreqSend_sends (l t1 : Nat) (s : State) (h : 2 ≤ s.linkState l) :
    ∃ c, ((dreqSend l t1 s).link l).tx = [c] ∧ cCtype c = 4 ∧
    ((dreqSend l t1 s).link l).dpend = some ((s.link l).dseq, t1) ∧
    ((dreqSend l t1 s).link l).dseq = ((s.link l).dseq + 1) % 256 ∧ (dreqSend l t1 s).regs = s.regs := by
  rw [dreqSend, if_pos h]
  refine ⟨_, congrArg Link.tx (State.txCells_link_same _ _ _), State.cCtype_localCell _ _ _ _ (by decide), ?_, ?_, rfl⟩
  · rw [State.txCells_link_same, State.setLink_link_same]
  · rw [State.txCells_link_same, State.setLink_link_same]

theorem dreq_answers (l t1 seq t2 t3 : Nat) (s : State) (h : 2 ≤ s.linkState l) :
    ∃ c, ((dreq l t1 seq t2 t3 s).link l).tx = [c] ∧ cCtype c = 5 ∧ (dreq l t1 seq t2 t3 s).regs = s.regs := by
  rw [dreq, if_pos h]
  exact ⟨_, congrArg Link.tx (State.txCells_link_same _ _ _), State.cCtype_localCell _ _ _ _ (by decide), rfl⟩

/-- A link that comes UP changes its state in SHG_LSTAT alone. -/
theorem State.tryUp_keeps (s : State) (l : Nat) :
    (s.tryUp l).shg = s.shg ∧ ∀ a, a ≠ Reg.shgLstat l → (s.tryUp l).reg a = s.reg a := by
  have hup {c : Prop} [Decidable c] : (if c then s.setLinkState l 4 else s).shg = s.shg ∧
      ∀ a, a ≠ Reg.shgLstat l → (if c then s.setLinkState l 4 else s).reg a = s.reg a := by
    split
    · exact ⟨rfl, fun a ha => State.setRegF_reg_ne _ _ _ _ _ _ ha⟩
    · exact ⟨rfl, fun _ _ => rfl⟩
  exact hup

/-- A link whose outstanding request was answered after a round trip `rt`; sixteen of them are averaged. -/
def Link.measured (x : Link) (rt : Int) : Link := { x with dpend := none, rts := (rt :: x.rts).take 16 }

/-- The state with this measurement and its delay shown, before the link may come UP. -/
def State.measured (s : State) (l : Nat) (rt : Int) : State :=
  let x := (s.link l).measured rt
  let t := (s.setLink l x).setReg (Reg.shgLrtt l) (wordI rt)
  let t := t.setReg (Reg.shgLdly l) (wordI (oneWay x.rts (t.reg (Reg.shgLtrim l)).toInt))
  if x.rts.length = 16 then t.orReg (Reg.shgLstat l) 8 else t

theorem drsp_eq (l : Nat) (t1 t2 t3 t4 : BitVec 64) (q u : Nat) (s : State) (hup : 2 ≤ s.linkState l)
    (hpend : (s.link l).dpend = some (q, u)) (htime : (t4 - t1).toNat ≤ 125000 * 65536) :
    drsp l t1 t2 t3 q t4 s = (s.measured l ((t4 - t1) - (t3 - t2)).toInt).tryUp l := by
  have hgo : ¬(q ≠ q ∨ s.linkState l < 2 ∨ 125000 * 65536 < (t4 - t1).toNat) := by omega
  simp only [drsp, hpend, if_neg hgo]
  rfl

theorem State.measured_link (s : State) (l : Nat) (rt : Int) : (s.measured l rt).link l = (s.link l).measured rt := by
  unfold State.measured
  simp only
  split <;> exact State.setLink_link_same _ _ _

theorem State.measured_lrtt (s : State) (l : Nat) (rt : Int) : (s.measured l rt).reg (Reg.shgLrtt l) = wordI rt := by
  have hstat : Reg.shgLrtt l ≠ Reg.shgLstat l := by
    simp only [Reg.shgLrtt, Reg.shgLstat]
    omega
  have hdly : Reg.shgLrtt l ≠ Reg.shgLdly l := by
    simp only [Reg.shgLrtt, Reg.shgLdly]
    omega
  unfold State.measured
  simp only
  split
  · rw [State.orReg_reg_ne _ _ _ _ hstat, State.setReg_reg_ne _ _ _ _ hdly, State.setReg_reg_same]
  · rw [State.setReg_reg_ne _ _ _ _ hdly, State.setReg_reg_same]

/-- A DRSP in time with the outstanding SEQ: the round trip is remembered and shown. -/
theorem drsp_records (l : Nat) (t1 t2 t3 t4 : BitVec 64) (q u : Nat) (s : State) (hup : 2 ≤ s.linkState l)
    (hpend : (s.link l).dpend = some (q, u)) (htime : (t4 - t1).toNat ≤ 125000 * 65536) :
    (drsp l t1 t2 t3 q t4 s).link l = (s.link l).measured ((t4 - t1) - (t3 - t2)).toInt ∧
      (drsp l t1 t2 t3 q t4 s).reg (Reg.shgLrtt l) = wordI ((t4 - t1) - (t3 - t2)).toInt := by
  obtain ⟨hshg, hreg⟩ := (s.measured l ((t4 - t1) - (t3 - t2)).toInt).tryUp_keeps l
  rw [drsp_eq l t1 t2 t3 t4 q u s hup hpend htime]
  refine ⟨?_, (hreg _ ?_).trans (s.measured_lrtt l _)⟩
  · rw [State.link, hshg]
    exact s.measured_link l _
  · simp only [Reg.shgLrtt, Reg.shgLstat]
    omega

end Sys2Proof.Machine
end

section
namespace Sys2Proof.Machine

/-! ## Beacons (R254, R255) -/

theorem beaconSend_unexportable (l n : Nat) (s : State) (h : s.exportable n = false) : beaconSend l n s = s := by
  simp [beaconSend, h]

/-- A periodic beacon departs in the cycle of its sample, at a part of it that is left open (log 66). -/
theorem beaconSend_periodic (l n : Nat) (s : State) (hup : s.linkUpQ l = true) (hexp : s.exportable n = true)
    (hextra : (s.link l).extra = []) (hlxp : s.regB (Reg.shgLxp l) n = true) : ∃ age, age < 65536 ∧
      ((beaconSend l n s).link l).tx =
        [s.localCell l 3 (BitVec.ofNat 576 ((s.beaconBody n).toNat + age * 2 ^ 128))] ∧
      (beaconSend l n s).regs = s.regs ∧ (beaconSend l n s).eas = s.eas := by
  have hlt : Config.freeChoice s.free % 65536 < 65536 := Nat.mod_lt _ (by decide)
  have hage : s.beaconAge s.cyc = (Config.freeChoice s.free % 65536, { s with free := s.free + 1 }) := by
    simp only [State.beaconAge, State.freeChoice, Nat.sub_self, Nat.zero_mul, Nat.zero_add, Prod.mk.injEq, and_true]
    exact Nat.min_eq_right (by omega)
  have hsend : beaconSend l n s = { s with free := s.free + 1 }.txCells l [s.localCell l 3
      (BitVec.ofNat 576 ((s.beaconBody n).toNat + Config.freeChoice s.free % 65536 * 2 ^ 128))] := by
    simp only [beaconSend, hup, hexp, hextra, hlxp, hage, Bool.not_true, Bool.or_self, Bool.false_eq_true, if_false,
      List.find?_nil, if_true]
    rfl
  rw [hsend]
  exact ⟨_, hlt, congrArg Link.tx (State.txCells_link_same _ _ _), rfl, rfl⟩

/-- How a beacon ends: `y` is the axis in its new place, AXn_VEL shows `r`, and HOPS is kept (R255). -/
def State.placeBeacon (s : State) (n hops : Nat) (y : Axis) (r : Word) (jump : Bool) : State :=
  let t := { (s.setAxis n y).setReg (Reg.axVel n) r with shg.hops := s.shg.hops.set n hops 0 }
  if jump then t.jumped n else t

theorem State.axisOnly.placeBeacon {n : Nat} {s w : State} (h : s.axisOnly n w) (hops : Nat) (y : Axis) (r : Word)
    (jump : Bool) : ∃ u, s.axisOnly n u ∧
      w.placeBeacon n hops y r jump = { u with shg.hops := s.shg.hops.set n hops 0 } ∧
      (u.axis n).lost = y.lost ∧ (u.axis n).rmoving = y.rmoving ∧ (u.axis n).rvel = y.rvel := by
  have hshg : w.shg = s.shg := by rw [h.1]
  have hu := (h.setAxis y).setReg (Reg.axVel n) r
  have hy : ((w.setAxis n y).setReg (Reg.axVel n) r).axis n = y := State.setAxis_axis_same _ _ _
  rw [State.placeBeacon, hshg]
  cases jump with
  | false => exact ⟨_, hu, rfl, by rw [hy], by rw [hy], by rw [hy]⟩
  | true =>
    refine ⟨_, hu.jumped, rfl, ?_⟩
    rw [State.jumped_axis_same, hy]
    exact ⟨rfl, rfl, rfl⟩

/-- What a beacon leaves of its remote axis: its velocity and MOVING, no LOST, and its HOPS; of the rest of the device
the results of this axis alone can change (R255). -/
theorem State.takeBeacon_places (s : State) (n b ta : Nat) (d : Int) : ∃ u, s.axisOnly n u ∧
    s.takeBeacon n b ta d = { u with shg.hops := s.shg.hops.set n (bitsOf b 181 178) 0 } ∧
    (u.axis n).lost = false ∧ (u.axis n).rmoving = Nat.testBit b 182 ∧
    (u.axis n).rvel = if Nat.testBit b 182 then sextN (bitsOf b 127 64) 64 else 0 := by
  have hopen := s.openCycle_axisOnly n
  have hrev {c : Prop} [Decidable c] (k : Int) :
      s.axisOnly n (if c then s.openCycle n else (s.openCycle n).addRev n k) := .ite hopen (hopen.addRev k)
  exact (hrev _).placeBeacon _ _ _ _

/-- Whether remote axis `n` is enabled and follows the origin that a beacon of link `l` names (R255). -/
def State.beaconFor (s : State) (l b n : Nat) : Bool :=
  axEn (s.reg (Reg.axCfg n)) && axSrc (s.reg (Reg.axCfg n)) == 5 && (s.reg (Reg.shgRax n)).bit 5 &&
    (s.reg (Reg.shgRax n)).bits 4 0 == l && s.regF (Reg.axPin n) 13 0 == bitsOf b 173 160 &&
    s.regF (Reg.axPin n) 19 16 == bitsOf b 177 174

theorem beacon_eq (l : Nat) (body : BitVec 576) (ta : Nat) (s : State) (hup : s.linkUpQ l = true) :
    beacon l body ta s = (List.range 16).foldl (fun t n =>
      if t.beaconFor l body.toNat n then t.takeBeacon n body.toNat ta (s.reg (Reg.shgLdly l)).toInt else t) s := by
  simp only [beacon, hup, Bool.not_true, Bool.false_eq_true, if_false]
  rfl

theorem shgRax_notMem_axisLog (k n : Nat) (hn : n < 16) : Reg.shgRax k ∉ axisLog n := by
  simp only [axisLog, Reg.shgRax, Reg.axRev, Reg.axIntv, Reg.axVel, Reg.axStat, Reg.axErr, Reg.axZcap, List.mem_cons,
    List.not_mem_nil, or_false]
  omega

/-- Which axes a beacon is for is a matter of their configuration, which no beacon changes. -/
theorem State.takeBeacon_beaconFor (s : State) (n b ta : Nat) (d : Int) (hn : n < 16) (l b' k : Nat) :
    (s.takeBeacon n b ta d).beaconFor l b' k = s.beaconFor l b' k := by
  obtain ⟨u, hu, htake, -⟩ := s.takeBeacon_places n b ta d
  have hfor : u.beaconFor l b' k = s.beaconFor l b' k := by
    simp only [State.beaconFor, State.regF, hu.axCfg, hu.axPin, hu.reg_ne (shgRax_notMem_axisLog k n hn)]
  rw [htake]
  exact hfor

/-- A beacon for axis `n` alone places this axis and no other. -/
theorem beacon_one (l n : Nat) (body : BitVec 576) (ta : Nat) (s : State) (hup : s.linkUpQ l = true) (hn : n < 16)
    (hone : ∀ k, k < 16 → s.beaconFor l body.toNat k = decide (k = n)) :
    beacon l body ta s = s.takeBeacon n body.toNat ta (s.reg (Reg.shgLdly l)).toInt := by
  have hnot (k : Nat) (hk : k ∈ List.range 16) (hne : k ≠ n) : s.beaconFor l body.toNat k = false := by
    rw [hone k (List.mem_range.1 hk), decide_eq_false hne]
  have hself : s.beaconFor l body.toNat n = true := by rw [hone n hn, decide_eq_true rfl]
  rw [beacon_eq l body ta s hup]
  refine (foldl_eq_one _ s _ n (List.mem_range.2 hn) List.nodup_range (fun k hk hne => ?_) fun k hk hne => ?_).trans ?_
  · simp [hnot k hk hne]
  · simp [hself, State.takeBeacon_beaconFor _ _ _ _ _ hn, hnot k hk hne]
  · simp [hself]

end Sys2Proof.Machine
end

section
namespace Sys2Proof.Machine

/-! ## SKETCH cells (R257) -/

/-- The SKETCH cell that goes on over link `l`: link-local, with its origin as SRC (Table SH-2). -/
def State.sketchOn (s : State) (l : Nat) (body : BitVec 576) : Cell :=
  { hdr := mkHdr 6 0 0 (s.regF (Reg.shgLpeer l) 13 0) (bitsOf body.toNat 13 0) 0, body := body }

/-- Link `l` takes the cell on when it is UP with SKFWD and did not bring it. -/
def State.sendSketch (s : State) (from_ : Nat) (body : BitVec 576) (l : Nat) : State :=
  if l != from_ && s.linkUpQ l && s.regB (Reg.shgLcfg l) 5 then s.txCells l [s.sketchOn l body] else s

theorem State.floodSketch_eq (s : State) (from_ : Nat) (body : BitVec 576) :
    s.floodSketch from_ body = (List.range 32).foldl (fun t l => t.sendSketch from_ body l) s := rfl

theorem State.linksOnly.sendSketch {s t : State} (h : s.linksOnly t) (from_ : Nat) (body : BitVec 576) (l : Nat) :
    s.linksOnly (t.sendSketch from_ body l) := by
  unfold State.sendSketch
  split
  · exact h.txCells _ _
  · exact h

theorem State.sendSketch_link_ne (s : State) (from_ : Nat) (body : BitVec 576) (l k : Nat) (hk : k ≠ l) :
    (s.sendSketch from_ body l).link k = s.link k := by
  unfold State.sendSketch
  split
  · exact State.setLink_link_ne _ _ _ _ hk
  · rfl

theorem State.floodSketch_linksOnly (s : State) (from_ : Nat) (body : BitVec 576) :
    s.linksOnly (s.floodSketch from_ body) := by
  rw [State.floodSketch_eq]
  exact List.foldlRecOn _ _ s.linksOnly_refl fun t ht l _ => ht.sendSketch from_ body l

/-- Every other link that is UP with SKFWD sends the cell on. -/
theorem State.floodSketch_tx (s : State) (from_ : Nat) (body : BitVec 576) (k : Nat) (hk : k < 32) (hne : k ≠ from_)
    (hup : s.linkUpQ k = true) (hfwd : s.regB (Reg.shgLcfg k) 5 = true) :
    ((s.floodSketch from_ body).link k).tx = [s.sketchOn k body] := by
  have hsends (t : State) (ht : s.linksOnly t) : ((t.sendSketch from_ body k).link k).tx = [s.sketchOn k body] := by
    have hcell : t.sketchOn k body = s.sketchOn k body := by rw [State.sketchOn, State.sketchOn, ht.regF]
    simp [State.sendSketch, ht.linkUpQ, ht.regB, hne, hup, hfwd, hcell, State.txCells_link_same]
  obtain ⟨p, q, hpq⟩ := List.append_of_mem (List.mem_range.2 hk)
  have hq : k ∉ q := (List.nodup_cons.1 (List.nodup_append.1 (hpq ▸ List.nodup_range)).2.1).1
  have hkeeps (t : State) : (q.foldl (fun t l => t.sendSketch from_ body l) t).link k = t.link k :=
    foldl_keeps_of_mem (State.link · k) _ q t fun t l hl => t.sendSketch_link_ne from_ body l k fun e => hq (e ▸ hl)
  rw [State.floodSketch_eq, hpq, List.foldl_append, List.foldl_cons, hkeeps]
  exact hsends _ (List.foldlRecOn _ _ s.linksOnly_refl fun t ht l _ => ht.sendSketch from_ body l)

theorem sketchCell_seen (l body : Nat) (s : State)
    (hseen : s.shg.skseq.get (bitsOf body 13 0) none = some (bitsOf body 21 14)) : sketchCell l body s = s := by
  simp [sketchCell, hseen]

/-- The state that remembers sequence number `seq` of origin `dev`. -/
def State.rememberSketch (s : State) (dev seq : Nat) : State :=
  { s with shg.skseq := s.shg.skseq.set dev (some seq) none }

theorem State.rememberSketch_get (s : State) (dev seq : Nat) :
    (s.rememberSketch dev seq).shg.skseq.get dev none = some seq :=
  SMap.get_set_same s.shg.skseq dev (some seq) none

/-- A device that arms no latch remembers a new SKETCH cell and sends it on. -/
theorem sketchCell_new (l : Nat) (b : BitVec 576) (s : State) (hup : s.linkUpQ l = true)
    (hnew : s.shg.skseq.get (bitsOf b.toNat 13 0) none ≠ some (bitsOf b.toNat 21 14))
    (harm : s.regB Reg.shgSkcfg 4 = false) : sketchCell l b.toNat s =
      (s.rememberSketch (bitsOf b.toNat 13 0) (bitsOf b.toNat 21 14)).floodSketch l b := by
  have hcfg := (State.floodSketch_linksOnly (s.rememberSketch (bitsOf b.toNat 13 0) (bitsOf b.toNat 21 14)) l b).regB
    Reg.shgSkcfg 4
  simp only [sketchCell, hup, Bool.not_true, Bool.false_eq_true, if_false, if_neg hnew, BitVec.ofNat_toNat,
    BitVec.setWidth_eq]
  exact if_neg (by rw [← State.rememberSketch, hcfg]; exact ne_true_of_eq_false harm)

end Sys2Proof.Machine
end

section
namespace Sys2Proof.Machine

/-! ## The system latch (R257) -/

/-- A trigger that finds a Sketch enabled, free and without a trigger is its trigger (R382, R383). -/
theorem State.trigger_first (s : State) (src t : Nat) (set : Sketch → Sketch) (hen : s.regB Reg.mgtSkctrl 0 = true)
    (hrel : s.released = true) (hfree : s.sk.locked = false) (hnone : s.sk.t0 = none) : s.trigger src t set =
      s.setSk { set { s.sk with src := 2 ^ src, entry := none, tdev := 0, seq := 0, late := false } with
        t0 := some t } := by
  simp [State.trigger, hen, hrel, hfree, hnone]

/-- The latch is free again, and a late one shown. -/
def State.freeLatch (s : State) (late : Bool) : State :=
  if late then { s with shg.latch := none }.orReg Reg.shgStat 0x80 else { s with shg.latch := none }

theorem State.freeLatch_keeps (s : State) (late : Bool) : (s.freeLatch late).mgt = s.mgt ∧
    (s.freeLatch late).cyc = s.cyc ∧ ∀ a, a ≠ Reg.shgStat → (s.freeLatch late).reg a = s.reg a := by
  cases late with
  | false => exact ⟨rfl, rfl, fun _ _ => rfl⟩
  | true => exact ⟨rfl, rfl, fun a ha => State.orReg_reg_ne { s with shg.latch := none } _ _ _ ha⟩

/-- The latch triggers a Sketch that is enabled, free and without a trigger, in the next cycle. -/
theorem State.raiseLatch_eq (s : State) (x : SysLatch) (late : Bool) (hen : s.regB Reg.mgtSkctrl 0 = true)
    (hrel : s.released = true) (hfree : s.sk.locked = false) (hnone : s.sk.t0 = none) :
    s.raiseLatch x late = (s.freeLatch late).setSk { s.sk with
      t0 := some (s.cyc + 1), src := 2, entry := none, tdev := x.tdev, seq := x.seq, late := late } := by
  obtain ⟨hmgt, hcyc, hreg⟩ := s.freeLatch_keeps late
  have hsk : (s.freeLatch late).sk = s.sk := congrArg Mgmt.sk hmgt
  have hraise := (s.freeLatch late).trigger_first 1 ((s.freeLatch late).cyc + 1)
    (fun k => { k with tdev := x.tdev, seq := x.seq, late := k.late || late })
    ((congrArg (Word.bit · 0) (hreg _ (by decide))).trans hen)
    ((congrArg (Word.bit · 1) (hreg _ (by decide))).trans hrel)
    (by rw [hsk, hfree]) (by rw [hsk, hnone])
  rw [hsk] at hraise
  exact hraise.trans (by rw [hcyc]; rfl)

theorem systemLatch_missed (x : SysLatch) (s : State) (hx : s.shg.latch = some x) (h : s.latchHit x = false) :
    systemLatch s = s := by simp [systemLatch, hx, h]

theorem systemLatch_hit (x : SysLatch) (s : State) (hx : s.shg.latch = some x) (h : s.latchHit x = true) :
    systemLatch s = s.raiseLatch x false := by simp [systemLatch, hx, h]

theorem sklate_armed (x : SysLatch) (s : State) (hx : s.shg.latch = some x) : sklate s = s.raiseLatch x true := by
  simp [sklate, hx]

/-- Settles O42: delays, then beacons, then SKETCH cells, then the system latch. -/
theorem shagaTime : Obligations.ShagaTime := by
  refine ⟨fun l s hup => ⟨fun t1 => ?_, fun t1 t2 t3 q => ?_, fun t1 t2 t3 t4 q u hpend htime => ?_⟩,
    fun l n s hup => ⟨fun hexp => ?_, fun hexp hextra hlxp => ?_, fun b ta hone _ => ?_⟩,
    fun l b s hup => ⟨fun hseen => ?_, fun hnew harm => ?_⟩,
    fun x s hx => ⟨fun hmiss => ?_, fun hen hrel hfree hnone => ⟨fun hhit => ?_, ?_⟩⟩⟩
  · obtain ⟨c, hsends⟩ := dreqSend_sends l.val t1.toNat s hup
    exact ⟨_, c, rfl, hsends⟩
  · obtain ⟨c, hanswers⟩ := dreq_answers l.val t1.toNat q.toNat t2.toNat t3.toNat s hup
    exact ⟨_, c, rfl, hanswers⟩
  · obtain ⟨hlink, hshown⟩ := drsp_records l.val t1 t2 t3 t4 q.toNat u s hup hpend htime
    exact ⟨_, rfl, congrArg Link.dpend hlink, congrArg Link.rts hlink, hshown⟩
  · exact congrArg Host.Outcome.next (beaconSend_unexportable l.val n.val s hexp)
  · obtain ⟨age, hage, hsends⟩ := beaconSend_periodic l.val n.val s hup hexp hextra hlxp
    exact ⟨_, age, hage, rfl, hsends⟩
  · obtain ⟨u, hu, htake, hlost, hmoving, hvel⟩ :=
      s.takeBeacon_places n.val b.toNat ta.toNat (s.reg (Reg.shgLdly l.val)).toInt
    have hbeacon := (beacon_one l.val n.val b ta.toNat s hup n.isLt fun k hk => (hone ⟨k, hk⟩).trans
      (by simp [Fin.ext_iff])).trans htake
    exact ⟨_, congrArg Host.Outcome.next hbeacon, hlost, hmoving, hvel, SMap.get_set_same s.shg.hops _ _ _,
      fun k hk => hu.axis_ne hk⟩
  · exact congrArg Host.Outcome.next (sketchCell_seen l.val b.toNat s hseen)
  · have hlinks := (s.rememberSketch (bitsOf b.toNat 13 0) (bitsOf b.toNat 21 14)).floodSketch_linksOnly l.val b
    refine ⟨_, congrArg Host.Outcome.next (sketchCell_new l.val b s hup hnew harm), ?_, hlinks.regs, fun k hk hon => ?_⟩
    · rw [hlinks.skseq, State.rememberSketch_get]
    · obtain ⟨hkup, hfwd⟩ := Bool.and_eq_true_iff.1 hon
      exact State.floodSketch_tx _ l.val b k.val k.isLt (Fin.val_ne_of_ne hk) hkup hfwd
  · exact congrArg Host.Outcome.next (systemLatch_missed x s hx hmiss)
  · have hraise := (systemLatch_hit x s hx hhit).trans (s.raiseLatch_eq x false hen hrel hfree hnone)
    exact ⟨_, congrArg Host.Outcome.next hraise, rfl, rfl, rfl, rfl, rfl, rfl⟩
  · have hraise := (sklate_armed x s hx).trans (s.raiseLatch_eq x true hen hrel hfree hnone)
    exact ⟨_, congrArg Host.Outcome.next hraise, rfl, rfl, rfl,
      State.orReg_regB { s with shg.latch := none } _ _ _ (by decide)⟩

end Sys2Proof.Machine
end
